-- ==== Sys2Proof/Word.lean ====
section
/-!
DEFINITION. The machine words of the part: bytes on the lines, the 32-bit second count (R2), and the two
sets that the formats code bit by bit (R189): a floor set of 64 positions and a landing mask of 128.
-/

namespace Sys2Proof

/-- One byte of a line. -/
abbrev Byte := BitVec 8

/-- The second count and every time taken from it (R2): it wraps at 2^32. -/
abbrev Seconds := BitVec 32

/-- R189: floor n is bit n of the set. -/
abbrev FloorSet := BitVec 64

/-- R189: landing n is bit n of the mask. -/
abbrev LandingMask := BitVec 128

/-- A set of the four stairs or of the four lift groups; member n is bit n (R189). -/
abbrev QuadSet := BitVec 4

/-- A floor label: four bytes, padded on the right with 20 hexadecimal (R189). -/
abbrev Label := List Byte

end Sys2Proof
end

