-- ==== Sys2Proof/Syntax.lean ====
section
/-!
DEFINITION. The vocabulary of the part's messages (the enumerations of R189), the configuration image that the
host loads over the supervisory port (R178), and `Instr`: one constructor per row of spec/opcode_table.json.
-/

namespace Sys2Proof

/-! ## Enumerations of R189 -/

/-- The "link or port" enumeration of R189: the thirteen field ports and the pseudo-link L. -/
inductive Line where
  | p (i : Fin 6)
  | g (i : Fin 4)
  | d (i : Fin 2)
  | a
  | l
  deriving DecidableEq, Repr, Inhabited

/-- R1: the regime level. -/
inductive Level where
  | normal | phased | general
  deriving DecidableEq, Repr, Inhabited

/-- R177: the device mode. -/
inductive Mode where
  | operate | commission | fallback
  deriving DecidableEq, Repr, Inhabited

/-- The floor table's floor states. -/
inductive FloorState where
  | quiet | alert | evac
  deriving DecidableEq, Repr, Inhabited

/-- The configured way a floor's people leave it. -/
inductive Egress where
  | stair | direct | none
  deriving DecidableEq, Repr, Inhabited

/-- How a floor was admitted to the stairs (R6). -/
inductive AdmKind where
  | origin | ordered | forced | general | manual
  deriving DecidableEq, Repr, Inhabited

/-- The zone kinds, in the order of R189. -/
inductive ZoneKind where
  | smoke | heat | manualCall | sprinklerFlow | liftLobby | hoistway | machineRoom | stairSmoke | generalKey
  | recallKey
  deriving DecidableEq, Repr, Inhabited

/-- The zone states. -/
inductive ZoneState where
  | normal | verifying | confirmed | trouble | unknown | disabled
  deriving DecidableEq, Repr, Inhabited

/-- A zone's input as a panel or a local line reports it. -/
inductive Input where
  | normal | alarm | fault
  deriving DecidableEq, Repr, Inhabited

/-- A zone's latch mode. -/
inductive Latch where
  | latching | following
  deriving DecidableEq, Repr, Inhabited

/-- The polarity of a local zone. -/
inductive Polarity where
  | alarmHigh | alarmLow
  deriving DecidableEq, Repr, Inhabited

/-- The condition of a stair. -/
inductive StairCond where
  | available | congested
  deriving DecidableEq, Repr, Inhabited

/-- The service modes of a car. -/
inductive Service where
  | unknown | auto | recalling | recalled | hold | fireService | releasing | recallFailed | outOfService
  deriving DecidableEq, Repr, Inhabited

/-- The command image of a car that holds a command; RECALL carries its landing, 0 being the stop command. -/
inductive Command where
  | recall (landing : Nat)
  | release
  | fireOn
  | fireOff
  deriving DecidableEq, Repr, Inhabited

/-- The command state of a car. -/
inductive CmdState where
  | none | sent | deferred | accepted | failed
  deriving DecidableEq, Repr, Inhabited

/-- The direction of a car. -/
inductive Direction where
  | up | down | still
  deriving DecidableEq, Repr, Inhabited

/-- The state of a car's door. -/
inductive CarDoor where
  | isOpen | closed | moving
  deriving DecidableEq, Repr, Inhabited

/-- The group-side mode of a car. -/
inductive GroupMode where
  | auto | parked | independent | inspection | fireService
  deriving DecidableEq, Repr, Inhabited

/-- The drive latch of a door point. -/
inductive Drive where
  | lock | release
  deriving DecidableEq, Repr, Inhabited

/-- The normal state of a door point. -/
inductive NormalState where
  | secure | free
  deriving DecidableEq, Repr, Inhabited

/-- The sensed state of a door point. -/
inductive Sensed where
  | secure | unsecure | isOpen | unknown
  deriving DecidableEq, Repr, Inhabited

/-- The condition of a door point. -/
inductive DoorCond where
  | normal | pending | fault | heldOpen | unknown
  deriving DecidableEq, Repr, Inhabited

/-- The class of an announcement record, highest rank first. -/
inductive RecClass where
  | live | evac | alert | tenant
  deriving DecidableEq, Repr, Inhabited

/-- The source of an announcement record. -/
inductive RecSource where
  | system | requested
  deriving DecidableEq, Repr, Inhabited

/-- The state of an announcement record. -/
inductive RecState where
  | waiting | playing | suspended | ending | ended
  deriving DecidableEq, Repr, Inhabited

/-- The kind of a library message. -/
inductive MsgKind where
  | evac | alert | allClear | tenant | test
  deriving DecidableEq, Repr, Inhabited

/-- The link state of a field node. -/
inductive LinkState where
  | offline | training | live | suspect | lost
  deriving DecidableEq, Repr, Inhabited

/-- The status of a reply (R167). -/
inductive Status where
  | done | clamped | refused | noSuch | badArgument | busy | badLength | unknownKind
  deriving DecidableEq, Repr, Inhabited

/-- The reason carried with REFUSED, in the order of R167. -/
inductive Reason where
  | regimeActive | regimeQuiet | zoneActive | notParked | noEgress | systemRecord | liveInUse | tableFull
  | notCommissioning | triggerActive | configInvalid
  deriving DecidableEq, Repr, Inhabited

/-- The form of a restart (R173). -/
inductive RestartForm where
  | warm | cold
  deriving DecidableEq, Repr, Inhabited

/-- The level of a local input line. -/
inductive LineLevel where
  | low | high
  deriving DecidableEq, Repr, Inhabited

/-! ## The configuration image (R178) -/

/-- Table GENERAL. -/
structure GeneralRec where
  floorCount : Nat
  window : Nat
  advanceLimit : Nat
  originLimit : Nat
  retryInterval : Nat
  dwell : Nat
  heldOpenLimit : Nat
  replyTimeout : Nat
  channels : Nat
  reserve : Nat
  deriving DecidableEq, Repr, Inhabited

/-- Table FLOOR. -/
structure FloorRec where
  label : Label
  egress : Egress
  primary : Nat
  secondary : Option Nat
  weight : Nat
  reEntry : Bool
  design : Nat
  deriving DecidableEq, Repr, Inhabited

/-- Table STAIR. -/
structure StairRec where
  fitted : Bool
  flow : Nat
  high : Nat
  low : Nat
  deriving DecidableEq, Repr, Inhabited

/-- Table ZONE. -/
structure ZoneRec where
  inUse : Bool
  link : Line
  number : Nat
  floor : Nat
  kind : ZoneKind
  latch : Latch
  verify : Bool
  groups : QuadSet
  stair : Option Nat
  polarity : Option Polarity
  deriving DecidableEq, Repr, Inhabited

/-- Table NODE. -/
structure NodeRec where
  inUse : Bool
  port : Line
  address : Nat
  deriving DecidableEq, Repr, Inhabited

/-- Table GROUP. -/
structure GroupRec where
  inUse : Bool
  address : Nat
  map : List (Option Nat)
  primary : Nat
  alternate : Nat
  deriving DecidableEq, Repr, Inhabited

/-- Table CAR. -/
structure CarRec where
  inUse : Bool
  group : Nat
  place : Nat
  deriving DecidableEq, Repr, Inhabited

/-- Table DOOR_POINT. -/
structure DoorRec where
  inUse : Bool
  loop : Line
  address : Nat
  point : Nat
  floor : Nat
  stair : Nat
  normal : NormalState
  supervised : Bool
  deriving DecidableEq, Repr, Inhabited

/-- Table MESSAGE. -/
structure MsgRec where
  inUse : Bool
  kind : MsgKind
  length : Nat
  deriving DecidableEq, Repr, Inhabited

/-- Table REGIME_MESSAGES. -/
structure RegimeMsgRec where
  evac : Nat
  alert : Nat
  allClear : Option Nat
  deriving DecidableEq, Repr, Inhabited

/-- R178: the configuration image, its tables in the order of the rule. -/
structure Image where
  general : GeneralRec
  floors : List FloorRec
  stairs : List StairRec
  zones : List ZoneRec
  nodes : List NodeRec
  groups : List GroupRec
  cars : List CarRec
  doors : List DoorRec
  messages : List MsgRec
  regimeMsgs : RegimeMsgRec
  deriving DecidableEq, Repr, Inhabited

/-! ## The commands -/

/-- One constructor per row of spec/opcode_table.json.

A request row stands for the reception of one valid supervisory frame of the row's kind (R163): its operands are the
frame's tag and its payload bytes as they came, so that the length and decoding tests of R164 are part of the
command's meaning. A reply row stands for one field frame of the row's kind received on a port with a sound check
value: its operands are the port, the frame's address and control bytes, and its payload (R192). An expiry row names
the record whose timer expires. -/
inductive Instr where
  | powerOn
  | secondCountTick
  | readRegime (tag : Byte) (payload : List Byte)
  | readFloor (tag : Byte) (payload : List Byte)
  | readZone (tag : Byte) (payload : List Byte)
  | readStair (tag : Byte) (payload : List Byte)
  | readCar (tag : Byte) (payload : List Byte)
  | readDoor (tag : Byte) (payload : List Byte)
  | readAnnouncementRecord (tag : Byte) (payload : List Byte)
  | readAnnouncementPool (tag : Byte) (payload : List Byte)
  | readAnnouncementFloor (tag : Byte) (payload : List Byte)
  | readNode (tag : Byte) (payload : List Byte)
  | resetRegime (tag : Byte) (payload : List Byte)
  | startGeneral (tag : Byte) (payload : List Byte)
  | evacuateFloors (tag : Byte) (payload : List Byte)
  | setOccupancy (tag : Byte) (payload : List Byte)
  | disableZone (tag : Byte) (payload : List Byte)
  | enableZone (tag : Byte) (payload : List Byte)
  | recallGroup (tag : Byte) (payload : List Byte)
  | releaseGroup (tag : Byte) (payload : List Byte)
  | fireServiceOn (tag : Byte) (payload : List Byte)
  | fireServiceOff (tag : Byte) (payload : List Byte)
  | releaseDoors (tag : Byte) (payload : List Byte)
  | restoreDoors (tag : Byte) (payload : List Byte)
  | announce (tag : Byte) (payload : List Byte)
  | cancelAnnouncement (tag : Byte) (payload : List Byte)
  | beginLive (tag : Byte) (payload : List Byte)
  | endLive (tag : Byte) (payload : List Byte)
  | restartWarm (tag : Byte) (payload : List Byte)
  | restartCold (tag : Byte) (payload : List Byte)
  | beginCommission (tag : Byte) (payload : List Byte)
  | writeConfig (tag : Byte) (payload : List Byte)
  | commitConfig (tag : Byte) (payload : List Byte)
  | abandonCommission (tag : Byte) (payload : List Byte)
  | unknownKind (kind tag : Byte) (payload : List Byte)
  | supervisoryFrameDiscarded
  | receiveTimeout
  | hostSilent
  | frameSent
  | warmRestart
  | coldRestart
  | storeWriteComplete (readBackEqual : Bool)
  | localLineChange (line : Fin 4) (level : LineLevel)
  | debounceExpiry (line : Fin 4)
  | windowExpiry (link : Line) (zone : Nat)
  | drainExpiry (stair : Nat)
  | forcedAdvance
  | retryExpiry (car : Nat)
  | dwellExpired (point : Nat)
  | heldOpenExpiry (point : Nat)
  | playOverrun (channel : Nat)
  | slotStart (port : Line)
  | quiet (port : Line) (address control : Byte) (payload : List Byte)
  | changes (port : Line) (address control : Byte) (payload : List Byte)
  | snapshot (port : Line) (address control : Byte) (payload : List Byte)
  | groupStatus (port : Line) (address control : Byte) (payload : List Byte)
  | moduleStatus (port : Line) (address control : Byte) (payload : List Byte)
  | matrixStatus (port : Line) (address control : Byte) (payload : List Byte)
  | fieldFrameDiscarded (port : Line)
  | replyWindowMiss (port : Line)
  | byteReceived (byte : Byte)
  | lossOfPower
  deriving DecidableEq, Repr

end Sys2Proof
end

