-- ==== Sys2Proof/Decode.lean ====
section
/-!
DEFINITION. The decoder of table words. No row of spec/opcode_table.json gives bits: a command reaches the block as a frame,
a byte, an event on a line or the expiry of a timer, and none of them is spelled by a word. So no word spells a command.
-/

namespace Sys2Proof

/-- The command that a word spells by the table's bits: no row gives bits, so there is none. -/
def decodeTableWord (_nbits _w : Nat) : Option Instr := none

end Sys2Proof
end

