-- ==== Sys2Proof/Config.lean ====
section
/-!
DEFINITION. What the part fixes (the capacity table and the fixed times of 00_scope.md) and the one value that the
spec leaves open: what tables a store holds whose write failed or was interrupted.
-/

namespace Sys2Proof.Config

/-- The report queue holds up to 64 reports (R171). -/
def reportCap : Nat := 64

/-- The last 8 entries of the report queue are closed to ROUTINE reports (R171). -/
def routineReserve : Nat := 8

/-- The reply list holds up to 8 replies (R166). -/
def replyCap : Nat := 8

/-- The action queue of a field node holds up to 4 actions (R154). -/
def actionCap : Nat := 4

/-- The origin list holds up to 8 floors (R3). -/
def originCap : Nat := 8

/-- A stair's load saturates at 65535 (R57). -/
def loadCap : Nat := 65535

/-- The drain period of a stair, in seconds (R60). -/
def drainPeriod : Nat := 10

/-- The attempt limit of a car command (R85). -/
def attemptLimit : Nat := 8

/-- The host-silence limit, in seconds (R172). -/
def silenceLimit : Nat := 30

/-- The announcement table has 16 slots (R122). -/
def recordSlots : Nat := 16

/-- A claim stack holds at most three claims besides the owner (R125). -/
def stackCap : Nat := 3

/-- In FALLBACK the zone table holds up to 1028 records (R47). -/
def zoneCap : Nat := 1028

/-- In FALLBACK up to 16 car records are made (R99). -/
def carCap : Nat := 16

/-- A play timer runs this much longer than the nominal length (R134). -/
def playMargin : Nat := 30

/-- The play timer of a message whose entry is not in use (R134). -/
def unlistedPlay : Nat := 630

/-- The sync byte of a supervisory frame (R188). -/
def syncByte : Byte := 0xA5#8

/-- FREE VALUE (log entry 2). The tables that stand in a store whose write failed, was interrupted by loss of power,
or was never made: R184 and R179 say only that such an image fails its check. -/
opaque tornImage : Nat → Image

end Sys2Proof.Config
end

