-- ==== Sys2Proof/Machine/Blocks.lean ====
section
/-!
DEFINITION. The records that the nine blocks of the part keep (00_scope.md, "Blocks"): one structure per record of
the spec, field for field, and one structure per block.
-/

namespace Sys2Proof.Machine

/-! ## Regime Core (chapter 01) -/

/-- R6: the admission record of a floor in EVAC; `shares` is absent when no shares were computed. -/
structure Admission where
  kind : AdmKind
  shares : Option (List (Nat × Nat))
  time : Seconds
  deriving DecidableEq, Repr, Inhabited

/-- A floor record: configured part, then run-time part. -/
structure Floor where
  label : Label
  egress : Egress
  primary : Nat
  secondary : Option Nat
  weight : Nat
  reEntry : Bool
  design : Nat
  occupancy : Nat
  state : FloorState
  origin : Bool
  alarmCount : Nat
  lockout : Bool
  admission : Option Admission
  deriving DecidableEq, Repr, Inhabited

/-- R18: the six counts of the trouble set. -/
structure Trouble where
  zones : Nat
  nodes : Nat
  doors : Nat
  cars : Nat
  host : Nat
  fallback : Nat
  deriving DecidableEq, Repr, Inhabited

/-- R18: the six sources of trouble. -/
inductive Source where
  | zones | nodes | doors | cars | host | fallback
  deriving DecidableEq, Repr

/-- The regime record, the floor table, the trouble set and the two common output lines. -/
structure RC where
  level : Level
  resetPending : Bool
  origins : List Nat
  entryTime : Seconds
  secondCount : Seconds
  originLimit : Nat
  floors : List Floor
  trouble : Trouble
  commonAlarm : Bool
  commonTrouble : Bool
  deriving DecidableEq, Repr, Inhabited

/-! ## Zone Engine (chapter 02) -/

/-- The verification window of a zone in VERIFYING. -/
structure Window where
  deadline : Nat
  restoreSeen : Bool
  linkLost : Bool
  deriving DecidableEq, Repr, Inhabited

/-- A zone record: configured part, then run-time part. -/
structure Zone where
  link : Line
  number : Nat
  floor : Nat
  kind : ZoneKind
  latch : Latch
  verify : Bool
  groups : QuadSet
  stair : Option Nat
  polarity : Option Polarity
  state : ZoneState
  lastInput : Option Input
  clearOnRestore : Bool
  disabled : Bool
  window : Option Window
  deriving DecidableEq, Repr, Inhabited

/-- R24: the link record of a panel link. -/
structure LinkRec where
  up : Bool
  snapshotOwed : Bool
  deriving DecidableEq, Repr, Inhabited

/-- R44: a local line's record, with the level that stands at the line itself. -/
structure LocalLine where
  pin : LineLevel
  delivered : Option LineLevel
  debouncing : Bool
  deriving DecidableEq, Repr, Inhabited

/-- The zone table (in ascending order of link and zone number), the six link records, the four line records and the
configured verification window. -/
structure ZE where
  zones : List Zone
  links : List LinkRec
  lines : List LocalLine
  window : Nat
  deriving DecidableEq, Repr, Inhabited

/-! ## Egress Scheduler (chapter 03) -/

/-- A stair record: configured part, then run-time part. -/
structure Stair where
  fitted : Bool
  flow : Nat
  high : Nat
  low : Nat
  load : Nat
  credit : Nat
  cond : StairCond
  compromised : Bool
  saturated : Bool
  drainTimer : Option Nat
  deriving DecidableEq, Repr, Inhabited

/-- The stair table and the scheduler record. -/
structure ES where
  stairs : List Stair
  waiting : List Nat
  advanceLimit : Nat
  advanceTimer : Option Nat
  deriving DecidableEq, Repr, Inhabited

/-! ## Lift Coordinator (chapter 04) -/

/-- A zone entry of a trigger list. -/
structure TriggerZone where
  link : Line
  number : Nat
  kind : ZoneKind
  floor : Nat
  standing : Bool
  deriving DecidableEq, Repr, Inhabited

/-- The trigger list of a recall. -/
structure Triggers where
  general : Bool
  request : Bool
  zones : List TriggerZone
  deriving DecidableEq, Repr, Inhabited

/-- A recall target: a floor, or in FALLBACK a landing (R99). -/
inductive Target where
  | floor (f : Nat)
  | landing (l : Nat)
  deriving DecidableEq, Repr

/-- A group record. `down` is set while NODE_DOWN stands with no later NODE_UP (R84, R96); `lowest` is the lowest
reported landing of R99. In FALLBACK `map` is empty and the recall floors are absent. -/
structure Group where
  number : Nat
  address : Nat
  map : List (Option Nat)
  primary : Option Nat
  alternate : Option Nat
  active : Bool
  triggers : Triggers
  target : Option Target
  lockout : FloorSet
  mask : LandingMask
  echo : Option LandingMask
  lowest : Option Nat
  down : Bool
  deriving DecidableEq, Repr, Inhabited

/-- R76: the position cache of a car. -/
structure Cache where
  landing : Nat
  floor : Option Nat
  direction : Direction
  door : CarDoor
  mode : GroupMode
  deriving DecidableEq, Repr, Inhabited

/-- A car record. -/
structure Car where
  number : Nat
  group : Nat
  place : Nat
  cache : Option Cache
  service : Service
  image : Option Command
  cmdState : CmdState
  attempts : Nat
  retry : Option Nat
  deriving DecidableEq, Repr, Inhabited

/-- The groups (ascending by number), the cars (ascending by number) and the configured lift retry interval. -/
structure LC where
  groups : List Group
  cars : List Car
  retryInterval : Nat
  deriving DecidableEq, Repr, Inhabited

/-! ## Door Supervisor (chapter 05) -/

/-- A door point record. -/
structure Door where
  index : Nat
  loop : Line
  address : Nat
  point : Nat
  floor : Nat
  stair : Nat
  normal : NormalState
  supervised : Bool
  drive : Drive
  enable : Bool
  sensed : Sensed
  cond : DoorCond
  dwell : Option Nat
  heldOpen : Option Nat
  deriving DecidableEq, Repr, Inhabited

/-- R101: a module record; `outputs` is the output image, eight entries of latch and enable. -/
structure Module where
  loop : Line
  address : Nat
  up : Bool
  outputs : List (Drive × Bool)
  deriving DecidableEq, Repr, Inhabited

/-- The door point table, the module records, the manual release set (one floor set per stair) and the two
configured times. -/
structure DS where
  doors : List Door
  modules : List Module
  manual : List FloorSet
  dwell : Nat
  heldOpenLimit : Nat
  deriving DecidableEq, Repr, Inhabited

/-! ## Announcement Router (chapter 06) -/

/-- An announcement record. -/
structure Rec where
  slot : Nat
  id : Nat
  creation : Nat
  cls : RecClass
  source : RecSource
  message : Option Nat
  repeats : Nat
  plays : Nat
  requested : Option FloorSet
  owned : FloorSet
  channel : Option Nat
  state : RecState
  deriving DecidableEq, Repr, Inhabited

/-- A floor's owner and its claim stack, top first (record ids). -/
structure Claims where
  owner : Option Nat
  stack : List Nat
  deriving DecidableEq, Repr, Inhabited

/-- R132: what a channel carries. -/
inductive Programme where
  | message (id : Nat)
  | live
  | silence
  deriving DecidableEq, Repr, Inhabited

/-- A fitted channel: its holder, its channel image and its last seen mark. -/
structure Channel where
  holder : Option Nat
  routing : FloorSet
  programme : Programme
  generation : Nat
  playTimer : Option Nat
  lastSeen : Option Nat
  deriving DecidableEq, Repr, Inhabited

/-- The message library, the regime messages, the announcement table (ascending by slot), the claims of each
configured floor, the channel pool with its wait list, the two counters and the matrix up flag. -/
structure AR where
  library : List MsgRec
  evacMsg : Nat
  alertMsg : Option Nat
  allClearMsg : Option Nat
  reserve : Nat
  records : List Rec
  claims : List Claims
  channels : List Channel
  waitList : List Nat
  nextId : Nat
  creation : Nat
  up : Bool
  deriving DecidableEq, Repr, Inhabited

/-! ## Field Link Controller (chapter 07) -/

/-- R154: the actions a panel node may be sent. -/
inductive Action where
  | resetDetectors (zone : Nat)
  | askSnapshot
  deriving DecidableEq, Repr

/-- The state images of the field nodes. -/
inductive ImageName where
  | lockoutMask
  | carCommand (car : Nat)
  | outputs
  | channel (n : Nat)
  deriving DecidableEq, Repr

/-- R147: the marks of one state image. -/
structure ImageMark where
  name : ImageName
  dirty : Bool
  changed : Bool
  deriving DecidableEq, Repr

/-- R147: a node record. -/
structure Node where
  port : Line
  address : Nat
  link : LinkState
  good : Nat
  miss : Nat
  actions : List Action
  images : List ImageMark
  rotation : Nat
  seqBit : Bool
  deriving DecidableEq, Repr, Inhabited

/-- What the frame of a slot carries. -/
inductive Carried where
  | poll
  | action (a : Action)
  | image (n : ImageName)
  deriving DecidableEq, Repr

/-- The slot in progress on a port. -/
structure Slot where
  address : Nat
  carried : Carried
  windowOpen : Bool
  deriving DecidableEq, Repr

/-- R192: a field frame, its check value left to `FieldFrame.bytes`. -/
structure FieldFrame where
  address : Nat
  kind : Byte
  control : Byte
  payload : List Byte
  deriving DecidableEq, Repr

/-- A port record. `sent` is the model's own: the frames that the part last put on the line. -/
structure PortRec where
  port : Line
  cursor : Nat
  slot : Option Slot
  broadcast : Bool
  sent : List FieldFrame
  deriving DecidableEq, Repr, Inhabited

/-- The node records (ascending by port and address), the thirteen port records and the configured reply timeout. -/
structure FLC where
  nodes : List Node
  ports : List PortRec
  replyTimeout : Nat
  deriving DecidableEq, Repr, Inhabited

/-! ## Reports (R170) and replies (R167) -/

/-- R171: the class of a report. -/
inductive Cls where
  | alarm | trouble | routine
  deriving DecidableEq, Repr, Inhabited

inductive RegimeCause where
  | origin | generalKey | originLimit | startGeneral | fallback | resetComplete | resetStarted | resetAbandoned
  | troubleChanged
  deriving DecidableEq, Repr

inductive FloorCause where
  | admitted | lockout
  deriving DecidableEq, Repr

inductive ZoneCause where
  | arrival | corroborated | reAlarm | windowExpiry | verifyDropped | restored | followed | snapshotMissing
  | disabled | enabled | nodeDown
  deriving DecidableEq, Repr

inductive StairCause where
  | congested | available | compromised | saturated | noStair
  deriving DecidableEq, Repr

/-- What started a recall, as a RECALL_STARTED report names it (R189). -/
inductive TriggerName where
  | zone (link : Line) (number : Nat)
  | general
  | request
  deriving DecidableEq, Repr

/-- What ended a recall, as a RECALL_ENDED report names it (R189). -/
inductive EndOrigin where
  | host | resetComplete | lastTrigger
  deriving DecidableEq, Repr

/-- A recall target as a report or a reply gives it: floor, label and landing. -/
structure TargetView where
  floor : Option Nat
  label : Option Label
  landing : Nat
  deriving DecidableEq, Repr

/-- R97: the causes of a group report. -/
inductive GroupCause where
  | recallStarted (by_ : TriggerName)
  | retargeted (old : Option TargetView)
  | recallEnded (by_ : EndOrigin)
  deriving DecidableEq, Repr

inductive DoorCause where
  | dwellExpired | agreed | redriven | heldOpen | closed | regimeNormal
  deriving DecidableEq, Repr

inductive AnnCause where
  | created | granted | preempted | noChannel | suspended | claimed | cancelRequested | completed | cancelled
  | displaced | liveEnded | regimeEnded | floorsDisplaced | playOverrun
  deriving DecidableEq, Repr

inductive NodeCause where
  | nodeUp | suspect | recovered | nodeLost
  deriving DecidableEq, Repr

inductive DeviceCause where
  | powerOn | warmRestart | coldRestart | hostSilent | hostResumed | commissionBegun | configApplied | storeFailed
  | commissionAborted | commissionAbandoned
  deriving DecidableEq, Repr

/-- The own fields of a report, per report kind (R170). -/
inductive Body where
  | regime (cause : RegimeCause) (old new : Level) (alarm trouble : Bool) (counts : Trouble)
  | floor (cause : FloorCause) (index : Nat) (floor : Floor)
  | zone (cause : ZoneCause) (zone : Zone) (label : Label)
  | zoneLink (link : Line) (unknown confirmed verifying : Nat)
  | stair (cause : StairCause) (index : Nat) (stair : Stair) (floor : Option (Nat × Label))
  | group (cause : GroupCause) (number : Nat) (target : Option TargetView)
  | car (car : Car) (label : Option Label)
  | door (cause : DoorCause) (door : Door) (label : Label)
  | moduleDown (loop : Line) (address madeUnknown inFault : Nat)
  | announcement (cause : AnnCause) (record : Rec) (floors : FloorSet)
  | matrixDown (holding : Nat)
  | node (cause : NodeCause) (node : Node)
  | device (cause : DeviceCause) (mode : Option Mode) (check : Option (BitVec 32))
  deriving DecidableEq, Repr

/-- A report in the queue: class, entry time (R170) and own fields. -/
structure Report where
  cls : Cls
  time : Seconds
  body : Body
  deriving DecidableEq, Repr

/-- R144: one channel as READ_ANNOUNCEMENT of the pool gives it. -/
structure ChannelView where
  channel : Channel
  dirty : Bool
  deriving DecidableEq, Repr

/-- R22: the regime record as READ_REGIME gives it. -/
structure RegimeView where
  level : Level
  resetPending : Bool
  origins : List Nat
  originLimit : Nat
  entryTime : Seconds
  secondCount : Seconds
  commonAlarm : Bool
  commonTrouble : Bool
  trouble : Trouble
  mode : Mode
  deriving DecidableEq, Repr

/-- What a reply carries after its status and reason. -/
inductive Content where
  | empty
  | regime (view : RegimeView)
  | floor (floor : Floor) (position : Option Nat)
  | zone (zone : Zone) (label : Label)
  | stair (stair : Stair) (length : Nat) (head : Option Nat) (limit : Nat) (timer : Option Nat)
  | car (car : Car) (group : Group) (target : Option TargetView) (dirty : Bool)
  | door (door : Door) (label : Label) (required : Drive) (reasons : QuadSet) (module : Module) (dirty : Bool)
  | record (record : Rec) (channel : Option Channel)
  | pool (reserve : Nat) (channels : List ChannelView) (waitList : List Nat) (up : Bool)
  | claims (claims : Claims)
  | node (node : Node) (broadcast : Option Bool)
  | recordId (id : Nat)
  | clamped (total : Nat) (entries : List (Nat × Nat × Nat))
  | invalid (table index : Nat)
  | kind (kind : Byte)
  deriving DecidableEq, Repr

/-- A reply (R167): its own kind (R188: the request's plus 80 hexadecimal, or 80), the request's tag, the status, the
reason carried with REFUSED, and the content. -/
structure Reply where
  kind : Byte
  tag : Byte
  status : Status
  reason : Option Reason
  content : Content
  deriving DecidableEq, Repr

/-! ## Supervisory Port (chapter 08) -/

/-- R163: the four states of the receiver. -/
inductive RxState where
  | hunting | length | body | check
  deriving DecidableEq, Repr, Inhabited

/-- The receiver: its state, the body length it expects, the body bytes received so far and the first check byte. -/
structure Receiver where
  state : RxState
  expected : Nat
  body : List Byte
  check : Option Byte
  deriving DecidableEq, Repr, Inhabited

/-- The frame that the transmitter is sending; a report carries the LOST flag it left the queue with (R171). -/
inductive TxFrame where
  | reply (r : Reply)
  | report (r : Report) (lost : Bool)
  deriving DecidableEq, Repr

/-- The Supervisory Port. `silence` is the host-silence timer, absent while stopped; `restart` is the pending restart
and `restartDue` is set once its reply has been sent (R174). -/
structure SP where
  rx : Receiver
  replies : List Reply
  reports : List Report
  lost : Bool
  tx : Option TxFrame
  silence : Option Nat
  hostSilent : Bool
  restart : Option RestartForm
  restartDue : Bool
  deriving DecidableEq, Repr, Inhabited

/-! ## Configuration Store (chapter 09) -/

/-- The non-volatile store: an image with its check value, or what a failed, interrupted or never made write leaves
(`torn k` names the free value `Config.tornImage k`). -/
inductive Store where
  | holds (image : Image) (check : BitVec 32)
  | torn (k : Nat)
  deriving DecidableEq, Repr

/-- The Configuration Store record. The device mode of R177 is computed from it (`deviceMode`); `writing` holds the
check value of the store write in flight, and is absent when none is. -/
structure CS where
  store : Store
  staged : Option Image
  fallback : Bool
  writing : Option (BitVec 32)
  deriving DecidableEq, Repr

/-! ## The model's own scratch record -/

/-- What the part must remember WITHIN one event and not beyond it: whether the AR changed claims, records or
channels (R130), which records were made in the event and have not yet moved (R143), whether the system EVAC record
entered WAITING in it (R130), and the floors dropped from stacks in it (R125). Clear between steps. -/
structure Scratch where
  arTouched : Bool
  made : List Nat
  evacWaited : Bool
  displaced : List (Nat × FloorSet)
  deriving DecidableEq, Repr, Inhabited

/-- The scratch record between events. -/
def Scratch.clear : Scratch := ⟨false, [], false, []⟩

end Sys2Proof.Machine
end

