-- ==== Sys2Proof/Machine/Sets.lean ====
section
/-!
DEFINITION. The small helpers that every block uses: the codes of the "link or port" enumeration (R189), floor sets,
landing masks and quad sets as sets, and updates of keyed tables.
-/

namespace Sys2Proof

/-- R189: P0–P5 are 0–5, G0–G3 are 6–9, D0–D1 are 10–11, A0 is 12 and L is 13. -/
def Line.code : Line → Nat
  | .p i => i.val
  | .g i => 6 + i.val
  | .d i => 10 + i.val
  | .a => 12
  | .l => 13

/-- The inverse of `Line.code`; a number above 13 has no code. -/
def Line.ofCode : Nat → Option Line
  | 0 => some (.p 0) | 1 => some (.p 1) | 2 => some (.p 2) | 3 => some (.p 3) | 4 => some (.p 4) | 5 => some (.p 5)
  | 6 => some (.g 0) | 7 => some (.g 1) | 8 => some (.g 2) | 9 => some (.g 3)
  | 10 => some (.d 0) | 11 => some (.d 1) | 12 => some .a | 13 => some .l
  | _ => none

/-- The group link of a group number; a number above 3 is taken modulo 4. -/
def Line.ofGroup (n : Nat) : Line := .g (Fin.ofNat 4 n)

/-- A panel link. -/
def Line.isPanel : Line → Bool
  | .p _ => true
  | _ => false

/-- A door loop. -/
def Line.isDoor : Line → Bool
  | .d _ => true
  | _ => false

end Sys2Proof

namespace Sys2Proof.Machine

/-- The thirteen field ports, in the order of R189. -/
def fieldPorts : List Line :=
  [.p 0, .p 1, .p 2, .p 3, .p 4, .p 5, .g 0, .g 1, .g 2, .g 3, .d 0, .d 1, .a]

/-- The set of the numbers below `n` that satisfy `p`. -/
def setWhere (w n : Nat) (p : Nat → Bool) : BitVec w :=
  (List.range n).foldl (fun acc i => if p i then acc ||| BitVec.twoPow w i else acc) 0

/-- Membership of a set coded bit by bit. -/
def hasBit {w : Nat} (s : BitVec w) (i : Nat) : Bool := s.getLsbD i

/-- A set with one member added. -/
def addBit {w : Nat} (s : BitVec w) (i : Nat) : BitVec w := s ||| BitVec.twoPow w i

/-- A set with one member taken out. -/
def dropBit {w : Nat} (s : BitVec w) (i : Nat) : BitVec w := s &&& ~~~(BitVec.twoPow w i)

/-- The members of a set, in ascending order. -/
def members {w : Nat} (s : BitVec w) : List Nat := (List.range w).filter (hasBit s)

/-- The conventions of 00_scope.md: a span as a floor set. -/
def spanSet (lo hi : Nat) : FloorSet := setWhere 64 64 (fun f => decide (lo ≤ f ∧ f ≤ hi))

/-- A table with every record that satisfies `p` changed by `f`. -/
def mapIf {α : Type} (p : α → Bool) (f : α → α) (l : List α) : List α :=
  l.map (fun x => if p x then f x else x)

/-- A record put into a table kept in ascending order of `key`, ahead of the records of equal key. -/
def insertBy {α : Type} (key : α → Nat) (x : α) : List α → List α
  | [] => [x]
  | y :: ys => if key x ≤ key y then x :: y :: ys else y :: insertBy key x ys

/-- A table put in ascending order of `key`; records of equal key keep their order. -/
def sortBy {α : Type} (key : α → Nat) (l : List α) : List α := l.foldr (insertBy key) []

/-- The least number of a list. -/
def leastOf : List Nat → Option Nat
  | [] => none
  | n :: ns => match leastOf ns with
    | none => some n
    | some m => some (min n m)

/-- One second off a running timer; a timer at 0 waits for its expiry to be taken. -/
def countDown (t : Option Nat) : Option Nat := t.map (· - 1)

/-- The position of `x` in a list, counted from 1 (R50). -/
def positionOf (x : Nat) : List Nat → Option Nat
  | [] => none
  | y :: ys => if x = y then some 1 else (positionOf x ys).map (· + 1)

/-- The characters of a number below 100, padded to a label of four bytes. -/
def labelOfNumber (n : Nat) : Label :=
  let digit (d : Nat) : Byte := BitVec.ofNat 8 (48 + d)
  if n < 10 then [digit n, 0x20#8, 0x20#8, 0x20#8] else [digit (n / 10), digit (n % 10), 0x20#8, 0x20#8]

/-- R189: a label field that is absent, such as the label of a floor that has no record (log entry 32). -/
def absentLabel : Label := [0xFF#8, 0xFF#8, 0xFF#8, 0xFF#8]

end Sys2Proof.Machine
end

