-- ==== Sys2Proof/Machine/Boot.lean ====
section
/-!
DEFINITION. The state that each block takes at power-on and at every cold restart (R23, R48, R74, R100, R120, R146,
R162, R176), built from the image in force, or from the FALLBACK set of R186 where there is none.
-/

namespace Sys2Proof.Machine

/-- The tables that a restart builds from: the loaded image, or none in FALLBACK. -/
abbrev Tables := Option Image

/-- R180: every timing and count at its default. -/
def defaultGeneral : GeneralRec where
  floorCount := 2
  window := 60
  advanceLimit := 300
  originLimit := 3
  retryInterval := 2
  dwell := 5
  heldOpenLimit := 120
  replyTimeout := 50
  channels := 1
  reserve := 2

/-- R186: the timings and counts in force in FALLBACK. -/
def fallbackGeneral : GeneralRec := { defaultGeneral with floorCount := 64, channels := 1, reserve := 0 }

/-- The GENERAL record in force. -/
def Tables.general : Tables → GeneralRec
  | none => fallbackGeneral
  | some i => i.general

/-- The in-use records of a table with their image indices. -/
def indexedFrom {α : Type} (n : Nat) : List α → List (Nat × α)
  | [] => []
  | x :: xs => (n, x) :: indexedFrom (n + 1) xs

/-! ## Regime Core -/

/-- R23: a configured floor after a cold restart. -/
def bootFloor (r : FloorRec) : Floor where
  label := r.label
  egress := r.egress
  primary := r.primary
  secondary := r.secondary
  weight := r.weight
  reEntry := r.reEntry
  design := r.design
  occupancy := r.design
  state := .quiet
  origin := false
  alarmCount := 0
  lockout := false
  admission := none

/-- R21: a floor of the FALLBACK floor table, and R180: of the default image. That it has primary stair 0, no secondary and no
re-entry flag in the default image is the model's (DESIGN CHOICE, log entry 23). -/
def fallbackFloor (n : Nat) : FloorRec where
  label := labelOfNumber n
  egress := .none
  primary := 0
  secondary := none
  weight := 100
  reEntry := false
  design := 0

/-- R23: the floor table. -/
def bootFloors : Tables → List Floor
  | none => (List.range 64).map (fun n => bootFloor (fallbackFloor n))
  | some i => (i.floors.take i.general.floorCount).map bootFloor

/-! ## Zone Engine -/

/-- The order of the zone table: by link, then by zone number. -/
def Zone.key (z : Zone) : Nat := z.link.code * 256 + z.number

/-- R48: a configured zone after a cold restart. -/
def bootZone (r : ZoneRec) : Zone where
  link := r.link
  number := r.number
  floor := r.floor
  kind := r.kind
  latch := r.latch
  verify := r.verify
  groups := r.groups
  stair := r.stair
  polarity := r.polarity
  state := .unknown
  lastInput := none
  clearOnRestore := false
  disabled := false
  window := none

/-- R48: the zone table; in FALLBACK it starts empty (R47). -/
def bootZones : Tables → List Zone
  | none => []
  | some i => sortBy Zone.key ((i.zones.filter (·.inUse)).map bootZone)

/-- R48: the Zone Engine; the levels at the lines are the outside's and stay. -/
def bootZE (t : Tables) (pins : List LineLevel) : ZE where
  zones := bootZones t
  links := List.replicate 6 ⟨false, false⟩
  lines := pins.map (fun l => ⟨l, none, true⟩)
  window := t.general.window

/-! ## Egress Scheduler -/

/-- R74: a stair after a cold restart. -/
def bootStair (r : StairRec) : Stair where
  fitted := r.fitted
  flow := r.flow
  high := r.high
  low := r.low
  load := 0
  credit := 0
  cond := .available
  compromised := false
  saturated := false
  drainTimer := if r.fitted then some Config.drainPeriod else none

/-- A stair that is not fitted (R74 in FALLBACK, R180). -/
def unfittedStair : StairRec := ⟨false, 1, 1, 0⟩

/-- R74: the Egress Scheduler. -/
def bootES (t : Tables) : ES where
  stairs := match t with
    | none => List.replicate 4 (bootStair unfittedStair)
    | some i => i.stairs.map bootStair
  waiting := []
  advanceLimit := t.general.advanceLimit
  advanceTimer := none

/-! ## Lift Coordinator -/

/-- A group with no recall (R100). -/
def bootGroup (number address : Nat) (map : List (Option Nat)) (primary alternate : Option Nat) : Group where
  number := number
  address := address
  map := map
  primary := primary
  alternate := alternate
  active := false
  triggers := ⟨false, false, []⟩
  target := none
  lockout := 0
  mask := 0
  echo := none
  lowest := none
  down := false

/-- A car that its group has not reported (R100). -/
def bootCar (number group place : Nat) : Car where
  number := number
  group := group
  place := place
  cache := none
  service := .unknown
  image := none
  cmdState := .none
  attempts := 0
  retry := none

/-- R100, and R99 in FALLBACK: the Lift Coordinator. -/
def bootLC (t : Tables) : LC where
  groups := match t with
    | none => (List.range 4).map (fun n => bootGroup n 1 [] none none)
    | some i => ((indexedFrom 0 i.groups).filter (·.2.inUse)).map
        (fun r => bootGroup r.1 r.2.address r.2.map (some r.2.primary) (some r.2.alternate))
  cars := match t with
    | none => []
    | some i => ((indexedFrom 0 i.cars).filter (·.2.inUse)).map (fun r => bootCar r.1 r.2.group r.2.place)
  retryInterval := t.general.retryInterval

/-! ## Door Supervisor -/

/-- The latch of a point in its normal state (R103). -/
def normalDrive : NormalState → Drive
  | .secure => .lock
  | .free => .release

/-- R120: a door point after a cold restart. -/
def bootDoor (index : Nat) (r : DoorRec) : Door where
  index := index
  loop := r.loop
  address := r.address
  point := r.point
  floor := r.floor
  stair := r.stair
  normal := r.normal
  supervised := r.supervised
  drive := normalDrive r.normal
  enable := false
  sensed := .unknown
  cond := .unknown
  dwell := none
  heldOpen := none

/-- R119: a door point of FALLBACK; index 0–79 is on D0 and 80–159 on D1. -/
def fallbackDoor (n : Nat) : DoorRec where
  inUse := true
  loop := if n < 80 then .d 0 else .d 1
  address := n % 80 / 8 + 1
  point := n % 8
  floor := 0
  stair := 0
  normal := .secure
  supervised := false

/-- R120: the door point table. -/
def bootDoors : Tables → List Door
  | none => (List.range 160).map (fun n => bootDoor n (fallbackDoor n))
  | some i => ((indexedFrom 0 i.doors).filter (·.2.inUse)).map (fun r => bootDoor r.1 r.2)

/-- A point on a given module. -/
def Door.onModule (d : Door) (loop : Line) (address : Nat) : Bool := d.loop = loop && d.address = address

/-- R101: the entry of one point number in a module's output image. -/
def outputEntry (doors : List Door) (loop : Line) (address point : Nat) : Drive × Bool :=
  match doors.find? (fun d => d.onModule loop address && d.point = point) with
  | some d => (d.drive, d.enable)
  | none => (.release, false)

/-- R101: the output image of a module, as its points stand. -/
def outputImage (doors : List Door) (loop : Line) (address : Nat) : List (Drive × Bool) :=
  (List.range 8).map (outputEntry doors loop address)

/-- The modules that a door point table names, in ascending order of loop and address. -/
def moduleKeys (doors : List Door) : List (Line × Nat) :=
  ([.d 0, .d 1] : List Line).flatMap (fun lp =>
    ((List.range 32).filter (fun a => doors.any (·.onModule lp a))).map (fun a => (lp, a)))

/-- R120: the Door Supervisor. -/
def bootDS (t : Tables) : DS where
  doors := bootDoors t
  modules := (moduleKeys (bootDoors t)).map (fun k => ⟨k.1, k.2, false, outputImage (bootDoors t) k.1 k.2⟩)
  manual := List.replicate 4 0
  dwell := t.general.dwell
  heldOpenLimit := t.general.heldOpenLimit

/-! ## Announcement Router -/

/-- R145: the library of FALLBACK holds message 0 alone. -/
def fallbackLibrary : List MsgRec := ⟨true, .evac, 600⟩ :: List.replicate 63 ⟨false, .evac, 1⟩

/-- R146: a channel after a cold restart. -/
def bootChannel : Channel where
  holder := none
  routing := 0
  programme := .silence
  generation := 0
  playTimer := none
  lastSeen := none

/-- R146, and R145 in FALLBACK: the Announcement Router. -/
def bootAR (t : Tables) : AR where
  library := match t with
    | none => fallbackLibrary
    | some i => i.messages
  evacMsg := match t with
    | none => 0
    | some i => i.regimeMsgs.evac
  alertMsg := match t with
    | none => none
    | some i => some i.regimeMsgs.alert
  allClearMsg := match t with
    | none => none
    | some i => i.regimeMsgs.allClear
  reserve := t.general.reserve
  records := []
  claims := List.replicate (bootFloors t).length ⟨none, []⟩
  channels := List.replicate t.general.channels bootChannel
  waitList := []
  nextId := 1
  creation := 0
  up := false

/-! ## Field Link Controller -/

/-- The order of the node table: by port, then by address. -/
def Node.key (n : Node) : Nat := n.port.code * 32 + n.address

/-- R147: the state images of a node, in their fixed order. -/
def imageNames (cars : List Car) (channels : Nat) : Line → List ImageName
  | .p _ => []
  | .g i => .lockoutMask :: ((cars.filter (fun c => c.group = i.val)).map (fun c => .carCommand c.number))
  | .d _ => [.outputs]
  | .a => (List.range channels).map .channel
  | .l => []

/-- R162: a node after a restart: OFFLINE, every image dirty. -/
def bootNode (names : Line → List ImageName) (port : Line) (address : Nat) : Node where
  port := port
  address := address
  link := .offline
  good := 0
  miss := 0
  actions := []
  images := (names port).map (fun n => ⟨n, true, false⟩)
  rotation := 0
  seqBit := false

/-- R147: the port and address of every node, in the order of the node table. -/
def nodeKeys : Tables → List (Line × Nat)
  | none => fieldPorts.flatMap (fun p => (List.range (if p.isDoor then 10 else 1)).map (fun a => (p, a + 1)))
  | some i => sortBy (fun k => k.1.code * 32 + k.2)
      ((i.nodes.filter (·.inUse)).map (fun r => (r.port, r.address)))

/-- The lowest node address of a port (R148, R162). DESIGN CHOICE (log entry 38): 0 where it has no node. -/
def lowestAddress (nodes : List Node) (port : Line) : Nat :=
  (leastOf ((nodes.filter (fun n => n.port = port)).map (·.address))).getD 0

/-- R162: the port records after a restart, each door loop's broadcast flag as given. -/
def bootPorts (nodes : List Node) (broadcast : Line → Bool) : List PortRec :=
  fieldPorts.map (fun p => ⟨p, lowestAddress nodes p, none, p.isDoor && broadcast p, []⟩)

/-- R162: the Field Link Controller at power-on and at a cold restart. -/
def bootFLC (t : Tables) : FLC :=
  let names := imageNames (bootLC t).cars t.general.channels
  let nodes := (nodeKeys t).map (fun k => bootNode names k.1 k.2)
  ⟨nodes, bootPorts nodes (fun _ => false), t.general.replyTimeout⟩

/-! ## The Regime Core and the Supervisory Port -/

/-- R23: the trouble set as the other blocks' power-on state gives it. -/
def bootTrouble (t : Tables) : Trouble where
  zones := (bootZones t).length
  nodes := (bootFLC t).nodes.length
  doors := 0
  cars := 0
  host := 0
  fallback := if t.isNone then 1 else 0

/-- R23: the Regime Core. The second count runs on through a cold restart and is given; COMMON_TROUBLE follows the
trouble total by its own operation (`refreshTroubleLine`) and is given as it stood. -/
def bootRC (t : Tables) (count : Seconds) (troubleLine : Bool) : RC where
  level := .normal
  resetPending := false
  origins := []
  entryTime := count
  secondCount := count
  originLimit := t.general.originLimit
  floors := bootFloors t
  trouble := bootTrouble t
  commonAlarm := false
  commonTrouble := troubleLine

/-- The receiver in HUNTING (R163, R176). -/
def huntingReceiver : Receiver := ⟨.hunting, 0, [], none⟩

/-- R176: the Supervisory Port at power-on, before it offers POWER_ON. -/
def bootSP : SP where
  rx := huntingReceiver
  replies := []
  reports := []
  lost := false
  tx := none
  silence := some Config.silenceLimit
  hostSilent := false
  restart := none
  restartDue := false

end Sys2Proof.Machine
end

