-- ==== Sys2Proof/Machine/State.lean ====
section
/-!
DEFINITION. The state of the part: one record per block (Machine/Blocks.lean), the queue of commands that wait, and
three fields of the model's own; the reasons a step can stop for; and the state right after power-on.
-/

namespace Sys2Proof.Machine

/-- The part. `powered`, `freeCount`, `ev` and `pending` are the model's own fields: the supply (LOSS_OF_POWER,
POWER_ON), the next index of the free value `Config.tornImage`, the scratch record of one event, and the commands that
have not yet been taken, first in, first out. -/
structure State where
  sp : SP
  flc : FLC
  ze : ZE
  rc : RC
  es : ES
  lc : LC
  ds : DS
  ar : AR
  cs : CS
  powered : Bool
  freeCount : Nat
  ev : Scratch
  pending : List Instr
  deriving DecidableEq, Repr

/-- The faults of the part: there are none. The spec gives every command an effect in every state, so no command stops
the machine (safe: nothing is left out of any claim). -/
inductive Fault where
  deriving DecidableEq, Repr

/-- The refusals. -/
inductive Refusal where
  /-- Raised by `exec` for a command that has no meaning yet; no arm of this model raises it (safe). -/
  | notModelled (mnemonic : String)
  deriving DecidableEq, Repr

/-- The levels at LI0–LI3 when the model starts (log entry 3). -/
def startPins : List LineLevel := List.replicate 4 .low

/-- R170: the POWER_ON report of a power-on that ends in FALLBACK. -/
def resetPowerOnReport : Report := ⟨.trouble, 0, .device .powerOn (some .fallback) none⟩

/-- R19: the report of COMMON_TROUBLE turning active in that power-on. -/
def resetTroubleReport : Report := ⟨.trouble, 0, .regime .troubleChanged .normal .normal false true (bootTrouble none)⟩

/-- The part right after its first power-on, with a store that has never been written (R179: such a store fails its
check, so the mode is FALLBACK): every block in its power-on state of R186, the POWER_ON report being sent and the
report of COMMON_TROUBLE behind it. The queue is empty. -/
def State.reset : State where
  sp := { bootSP with tx := some (.report resetPowerOnReport false), reports := [resetTroubleReport] }
  flc := bootFLC none
  ze := bootZE none startPins
  rc := bootRC none 0 true
  es := bootES none
  lc := bootLC none
  ds := bootDS none
  ar := bootAR none
  cs := ⟨.torn 0, none, true, none⟩
  powered := true
  freeCount := 1
  ev := Scratch.clear
  pending := []

end Sys2Proof.Machine
end

