-- ==== Sys2Proof/Machine/Flags.lean ====
section
/-!
DEFINITION. The flags, lines and modes that are computed from other state: the device mode (R177), the trouble total
and the two common lines (R18–R20), the lockout flag (R5), the room in the report queue (R171), and the tests that
several blocks make on one record.
-/

namespace Sys2Proof.Machine

/-- R177: COMMISSION while a session is open, else FALLBACK or OPERATE as the fallback flag stands. -/
def deviceMode (c : CS) : Mode :=
  if c.staged.isSome then .commission else if c.fallback then .fallback else .operate

/-- R18: the trouble total. -/
def Trouble.total (t : Trouble) : Nat := t.zones + t.nodes + t.doors + t.cars + t.host + t.fallback

/-- R18: one count of the trouble set changed. -/
def Trouble.change (t : Trouble) (src : Source) (f : Nat → Nat) : Trouble :=
  match src with
  | .zones => { t with zones := f t.zones }
  | .nodes => { t with nodes := f t.nodes }
  | .doors => { t with doors := f t.doors }
  | .cars => { t with cars := f t.cars }
  | .host => { t with host := f t.host }
  | .fallback => { t with fallback := f t.fallback }

/-- R19: COMMON_TROUBLE is active while the trouble total is above 0. -/
def troubleLine (t : Trouble) : Bool := decide (0 < t.total)

/-- R20: COMMON_ALARM is active while the level is PHASED or GENERAL. -/
def alarmLine (l : Level) : Bool := decide (l ≠ .normal)

/-- R171: whether a queue of `held` reports takes a report of this class. -/
def takesReport (cls : Cls) (held : Nat) : Bool :=
  match cls with
  | .routine => decide (held + Config.routineReserve ≤ Config.reportCap)
  | _ => decide (held < Config.reportCap)

/-- The lockout flag of a floor; a floor that is not configured has none (R5). -/
def isLocked (fs : List Floor) (f : Nat) : Bool :=
  match fs[f]? with
  | some fl => fl.lockout
  | none => false

/-- The label of a floor as reports and replies carry it. A floor without a record (R101) has no label: the field is sent
as absent (DEDUCED, log entry 32). -/
def labelOf (fs : List Floor) (f : Nat) : Label :=
  match fs[f]? with
  | some fl => fl.label
  | none => absentLabel

/-- A zone that counts toward its floor's alarm count (R5). -/
def Zone.counted (z : Zone) : Bool := z.state = .verifying || z.state = .confirmed

/-- A zone that counts in the zone count of the trouble set (R18, R26). -/
def Zone.inTrouble (z : Zone) : Bool := z.state = .trouble || z.state = .unknown

/-- A node that counts in the node count of the trouble set (R18, R159). -/
def nodeInTrouble (l : LinkState) : Bool :=
  match l with
  | .offline | .training | .lost => true
  | .live | .suspect => false

/-- R107: the sensed state agrees with the drive latch. -/
def agrees (d : Drive) (x : Sensed) : Bool :=
  match d, x with
  | .release, .unsecure | .release, .isOpen | .lock, .secure => true
  | _, _ => false

end Sys2Proof.Machine
end

