-- ==== Sys2Proof/Machine/Ops.lean ====
section
/-!
DEFINITION. The operations that the blocks share: changing one block's record, offering a report (R171), moving a count
of the trouble set (R18, R19), marking and withdrawing a state image (R152), queueing an action (R154), asking for a
broadcast (R157), and carrying a block's own change together with the effects it has on the other blocks.
-/

namespace Sys2Proof.Machine

/-! ## One block changed -/

def State.modSp (f : SP → SP) (s : State) : State := { s with sp := f s.sp }
def State.modFlc (f : FLC → FLC) (s : State) : State := { s with flc := f s.flc }
def State.modZe (f : ZE → ZE) (s : State) : State := { s with ze := f s.ze }
def State.modRc (f : RC → RC) (s : State) : State := { s with rc := f s.rc }
def State.modEs (f : ES → ES) (s : State) : State := { s with es := f s.es }
def State.modLc (f : LC → LC) (s : State) : State := { s with lc := f s.lc }
def State.modDs (f : DS → DS) (s : State) : State := { s with ds := f s.ds }
def State.modAr (f : AR → AR) (s : State) : State := { s with ar := f s.ar }
def State.modCs (f : CS → CS) (s : State) : State := { s with cs := f s.cs }
def State.modEv (f : Scratch → Scratch) (s : State) : State := { s with ev := f s.ev }

/-! ## Reports -/

/-- R171: a report offered to the queue joins its tail with the second count as entry time, or is dropped and sets the
lost marker. -/
def offer (cls : Cls) (body : Body) (s : State) : State :=
  if takesReport cls s.sp.reports.length then
    s.modSp (fun p => { p with reports := p.reports ++ [⟨cls, s.rc.secondCount, body⟩] })
  else
    s.modSp (fun p => { p with lost := true })

/-! ## The order of the lift reports of an event (R97) -/

/-- R97: a group report. -/
def Report.isGroupReport (r : Report) : Bool :=
  match r.body with
  | .group .. => true
  | _ => false

/-- R97: the car of a car report. -/
def Report.carNumber (r : Report) : Option Nat :=
  match r.body with
  | .car c _ => some c.number
  | _ => none

/-- R97: a CAR_EVENT, which is a group report or a car report. -/
def Report.isLiftReport (r : Report) : Bool := r.isGroupReport || r.carNumber.isSome

/-- R97: the group reports among some reports, then their car reports in car order. -/
def liftReports (l : List Report) : List Report :=
  l.filter Report.isGroupReport ++ sortBy (fun r => r.carNumber.getD 0) (l.filter (fun r => r.carNumber.isSome))

/-- The places of the lift reports filled with the given reports in order; every other report keeps its place. -/
def refill : List Report → List Report → List Report
  | [], _ => []
  | e :: es, rs =>
    if e.isLiftReport then
      match rs with
      | r :: rest => r :: refill es rest
      | [] => e :: refill es []
    else e :: refill es rs

/-- R161: the NODE_EVENT of an entry to LIVE. -/
def Report.isNodeUp (r : Report) : Bool :=
  match r.body with
  | .node .nodeUp _ => true
  | _ => false

/-- R161: the lift reports made ahead of an entry to LIVE put behind its NODE_EVENT; every other report keeps its order. -/
def behindNodeUp : List Report → List Report → List Report
  | held, [] => held
  | held, e :: es =>
    if e.isNodeUp then e :: (held ++ es)
    else if e.isLiftReport then behindNodeUp (held ++ [e]) es
    else e :: behindNodeUp held es

/-- R161: the places that the lift reports of an event take: behind the NODE_EVENT, where a node entered LIVE in it. -/
def liftPlaces (l : List Report) : List Report := if l.any Report.isNodeUp then behindNodeUp [] l else l

/-- R97, R161: the reports of one event with its lift reports in the order of R97, behind the NODE_EVENT of a node that
entered LIVE in it (log entry 29). -/
def eventOrdered (l : List Report) : List Report := refill (liftPlaces l) (liftReports l)

/-- R97: the reports that an event has queued behind the first `n` put in order. -/
def orderLift (n : Nat) (s : State) : State :=
  s.modSp (fun p => { p with reports := p.reports.take n ++ eventOrdered (p.reports.drop n) })

/-! ## The trouble set -/

/-- R19: the REGIME_EVENT of a change of COMMON_TROUBLE. DESIGN CHOICE (log entry 33): its old and its new level are both the
level that stands. -/
def troubleReport (r : RC) : Body :=
  .regime .troubleChanged r.level r.level r.commonAlarm r.commonTrouble r.trouble

/-- R19: COMMON_TROUBLE brought to what the trouble total asks for; a change of the line is reported. -/
def refreshTroubleLine (s : State) : State :=
  if s.rc.commonTrouble = troubleLine s.rc.trouble then s
  else
    let s1 := s.modRc (fun r => { r with commonTrouble := troubleLine r.trouble })
    offer .trouble (troubleReport s1.rc) s1

/-- R18: an item enters (`rise`) or leaves the condition that a count of the trouble set counts. -/
def troubleMove (src : Source) (rise : Bool) (s : State) : State :=
  refreshTroubleLine
    (s.modRc (fun r => { r with trouble := r.trouble.change src (fun n => if rise then n + 1 else n - 1) }))

/-! ## Nodes, ports and state images -/

/-- The node record of a port and address. -/
def findNode (nodes : List Node) (port : Line) (address : Nat) : Option Node :=
  nodes.find? (fun n => n.port = port && n.address = address)

/-- The port record of a field port. -/
def findPort (ports : List PortRec) (port : Line) : Option PortRec := ports.find? (fun p => p.port = port)

/-- One node record changed. -/
def FLC.modNode (port : Line) (address : Nat) (f : Node → Node) (x : FLC) : FLC :=
  { x with nodes := mapIf (fun n => n.port = port && n.address = address) f x.nodes }

/-- One port record changed. -/
def FLC.modPort (port : Line) (f : PortRec → PortRec) (x : FLC) : FLC :=
  { x with ports := mapIf (fun p => p.port = port) f x.ports }

/-- R152: a frame carrying this image is in flight. -/
def inFlight (ports : List PortRec) (port : Line) (address : Nat) (name : ImageName) : Bool :=
  match (findPort ports port).bind (·.slot) with
  | some sl => sl.address = address && sl.carried = .image name
  | none => false

/-- The marks of one image of a node changed. -/
def Node.modImage (name : ImageName) (f : ImageMark → ImageMark) (n : Node) : Node :=
  { n with images := mapIf (fun m => m.name = name) f n.images }

/-- R152: an owner marks an image dirty. -/
def FLC.markDirty (port : Line) (address : Nat) (name : ImageName) (x : FLC) : FLC :=
  x.modNode port address (fun n => n.modImage name
    (fun m => { m with dirty := true, changed := m.changed || inFlight x.ports port address name }))

/-- R152: an owner withdraws an image's dirty flag. -/
def FLC.withdraw (port : Line) (address : Nat) (name : ImageName) (x : FLC) : FLC :=
  x.modNode port address (fun n => n.modImage name (fun m => { m with dirty := false }))

/-- Whether an image of a node has its dirty flag set. -/
def isDirty (x : FLC) (port : Line) (address : Nat) (name : ImageName) : Bool :=
  match findNode x.nodes port address with
  | some n => n.images.any (fun m => m.name = name && m.dirty)
  | none => false

/-- R99: the command image of a car record just made joins its node's image list. -/
def FLC.addImage (port : Line) (address : Nat) (name : ImageName) (x : FLC) : FLC :=
  x.modNode port address (fun n => { n with images := n.images ++ [⟨name, false, false⟩] })

/-- R154: whether the action queue of a node takes a further action. -/
def actionRoom (x : FLC) (port : Line) (address : Nat) : Bool :=
  match findNode x.nodes port address with
  | some n => decide (n.actions.length < Config.actionCap)
  | none => false

/-- R154: an action appended at the tail of a node's queue, where it has room. -/
def FLC.pushAction (port : Line) (address : Nat) (a : Action) (x : FLC) : FLC :=
  x.modNode port address (fun n =>
    if n.actions.length < Config.actionCap then { n with actions := n.actions ++ [a] } else n)

/-- The address of the one node of a panel, group or matrix link. -/
def soleAddress (x : FLC) (port : Line) : Option Nat :=
  (x.nodes.find? (fun n => n.port = port)).map (·.address)

/-- R192: the RELEASE_ALL frame, sent to address 0 with sequence bit 0. -/
def releaseAllFrame : FieldFrame := ⟨0, 0x08#8, 0x00#8, []⟩

/-- R157: RELEASE_ALL asked for on a door loop; on a loop with no node it goes out at once. -/
def FLC.askBroadcast (loop : Line) (x : FLC) : FLC :=
  if x.nodes.any (fun n => n.port = loop) then x.modPort loop (fun p => { p with broadcast := true })
  else x.modPort loop (fun p => { p with sent := [releaseAllFrame] })

/-! ## A block's change and its effects -/

/-- What a block does to the others while it changes itself. -/
inductive Eff where
  | report (cls : Cls) (body : Body)
  | trouble (src : Source) (rise : Bool)
  | dirty (port : Line) (address : Nat) (name : ImageName)
  | withdraw (port : Line) (address : Nat) (name : ImageName)
  | addImage (port : Line) (address : Nat) (name : ImageName)
  | broadcast (loop : Line)
  deriving DecidableEq, Repr

/-- One effect on the part. -/
def applyEff (s : State) : Eff → State
  | .report cls body => offer cls body s
  | .trouble src rise => troubleMove src rise s
  | .dirty port address name => s.modFlc (FLC.markDirty port address name)
  | .withdraw port address name => s.modFlc (FLC.withdraw port address name)
  | .addImage port address name => s.modFlc (FLC.addImage port address name)
  | .broadcast loop => s.modFlc (FLC.askBroadcast loop)

/-- The effects of a block's change, in the order in which the block made them. -/
def applyEffs (effs : List Eff) (s : State) : State := effs.foldl applyEff s

/-- A block's record in the course of a change, with the effects made so far. -/
structure Acc (σ : Type) where
  st : σ
  out : List Eff

/-- The block's record changed. -/
def Acc.upd {σ : Type} (f : σ → σ) (a : Acc σ) : Acc σ := { a with st := f a.st }

/-- One effect more. -/
def Acc.emit {σ : Type} (e : Eff) (a : Acc σ) : Acc σ := { a with out := a.out ++ [e] }

/-- One effect more, where `b` holds. -/
def Acc.emitIf {σ : Type} (b : Bool) (e : Eff) (a : Acc σ) : Acc σ := if b then a.emit e else a

/-- A change of the Lift Coordinator carried out on the part. -/
def State.liftLc (f : Acc LC → Acc LC) (s : State) : State :=
  let a := f ⟨s.lc, []⟩
  applyEffs a.out { s with lc := a.st }

/-- A change of the Door Supervisor carried out on the part. -/
def State.liftDs (f : Acc DS → Acc DS) (s : State) : State :=
  let a := f ⟨s.ds, []⟩
  applyEffs a.out { s with ds := a.st }

/-- The Announcement Router with the scratch record of the event. -/
structure ArCtx where
  ar : AR
  ev : Scratch

/-- A change of the Announcement Router carried out on the part. -/
def State.liftAr (f : Acc ArCtx → Acc ArCtx) (s : State) : State :=
  let a := f ⟨⟨s.ar, s.ev⟩, []⟩
  applyEffs a.out { s with ar := a.st.ar, ev := a.st.ev }

/-! ## The level -/

/-- R1: a change of level sets the entry time, drives COMMON_ALARM (R20) and queues the REGIME_EVENT. -/
def changeLevel (new : Level) (cause : RegimeCause) (s : State) : State :=
  let s1 := s.modRc (fun r => { r with level := new, entryTime := r.secondCount, commonAlarm := alarmLine new })
  offer .alarm (.regime cause s.rc.level new s1.rc.commonAlarm s1.rc.commonTrouble s1.rc.trouble) s1

/-- A REGIME_EVENT of class ALARM that changes no level (R15, R17). DESIGN CHOICE (log entry 33): its old and its new level
are both the level that stands. -/
def reportRegime (cause : RegimeCause) (s : State) : State :=
  offer .alarm (.regime cause s.rc.level s.rc.level s.rc.commonAlarm s.rc.commonTrouble s.rc.trouble) s

/-! ## The transmitter -/

/-- R166, R171: a transmitter that is free takes the oldest reply, or else the report at the head of the queue with the
LOST flag as the marker stands. -/
def takeNextFrame (p : SP) : SP :=
  match p.tx with
  | some _ => p
  | none =>
    match p.replies with
    | r :: rs => { p with tx := some (.reply r), replies := rs }
    | [] =>
      match p.reports with
      | r :: rs => { p with tx := some (.report r p.lost), reports := rs, lost := false }
      | [] => p

end Sys2Proof.Machine
end

