-- ==== Sys2Proof/Machine/Answers.lean ====
section
/-!
DEFINITION. The answer that an owner gives the Supervisory Port to a request (R165, R167), and the treatment of a span
(R168).
-/

namespace Sys2Proof.Machine

/-- R167: the status of an answer, the reason carried with REFUSED, and what else it carries. -/
structure Answer where
  status : Status
  reason : Option Reason
  content : Content
  deriving DecidableEq, Repr

/-- DONE with nothing more. -/
def Answer.done : Answer := ⟨.done, none, .empty⟩

/-- DONE with a record or an id. -/
def Answer.carrying (c : Content) : Answer := ⟨.done, none, c⟩

/-- REFUSED with its reason. -/
def Answer.refused (r : Reason) : Answer := ⟨.refused, some r, .empty⟩

/-- A bare status. -/
def Answer.bare (s : Status) : Answer := ⟨s, none, .empty⟩

/-- DONE, or CLAMPED where a value was brought into its range. -/
def Answer.doneOr (clamped : Bool) (c : Content) : Answer := ⟨if clamped then .clamped else .done, none, c⟩

/-- R168: a span over `n` configured floors. -/
inductive SpanResult where
  /-- The lower index is above the upper index. -/
  | reversed
  /-- The floors from the lower index to the upper one, cut at the last configured floor where `cut`; none where the
  lower index lies beyond it too. -/
  | floors (cut : Bool) (marked : List Nat)
  deriving DecidableEq, Repr

/-- R168: the treatment of a span. -/
def spanOf (n lo hi : Nat) : SpanResult :=
  if hi < lo then .reversed
  else .floors (decide (n ≤ hi)) ((List.range n).filter (fun f => decide (lo ≤ f ∧ f ≤ hi)))

/-- A list of floors as a floor set. -/
def setOfList (fs : List Nat) : FloorSet := fs.foldl addBit 0

end Sys2Proof.Machine
end

