-- ==== Sys2Proof/Machine/Bytes.lean ====
section
/-!
DEFINITION. Bytes on the lines (chapter 10): the codes of the enumerations (R189), little-endian numbers and sets, absent
fields, and the two check values (R187).
-/

namespace Sys2Proof.Machine

/-! ## The encodings table of R189: each enumeration in the order in which it is coded 0, 1, 2 and so on -/

def levels : List Level := [.normal, .phased, .general]
def modes : List Mode := [.operate, .commission, .fallback]
def floorStates : List FloorState := [.quiet, .alert, .evac]
def egresses : List Egress := [.stair, .direct, .none]
def admKinds : List AdmKind := [.origin, .ordered, .forced, .general, .manual]
def zoneKinds : List ZoneKind :=
  [.smoke, .heat, .manualCall, .sprinklerFlow, .liftLobby, .hoistway, .machineRoom, .stairSmoke, .generalKey, .recallKey]
def zoneStates : List ZoneState := [.normal, .verifying, .confirmed, .trouble, .unknown, .disabled]
def inputs : List Input := [.normal, .alarm, .fault]
def latches : List Latch := [.latching, .following]
def polarities : List Polarity := [.alarmHigh, .alarmLow]
def stairConds : List StairCond := [.available, .congested]
def services : List Service :=
  [.unknown, .auto, .recalling, .recalled, .hold, .fireService, .releasing, .recallFailed, .outOfService]
def cmdStates : List CmdState := [.none, .sent, .deferred, .accepted, .failed]
def directions : List Direction := [.up, .down, .still]
def carDoors : List CarDoor := [.isOpen, .closed, .moving]
def groupModes : List GroupMode := [.auto, .parked, .independent, .inspection, .fireService]
def drives : List Drive := [.lock, .release]
def normalStates : List NormalState := [.secure, .free]
def sensedStates : List Sensed := [.secure, .unsecure, .isOpen, .unknown]
def doorConds : List DoorCond := [.normal, .pending, .fault, .heldOpen, .unknown]
def recClasses : List RecClass := [.live, .evac, .alert, .tenant]
def recSources : List RecSource := [.system, .requested]
def recStates : List RecState := [.waiting, .playing, .suspended, .ending, .ended]
def msgKinds : List MsgKind := [.evac, .alert, .allClear, .tenant, .test]
def linkStates : List LinkState := [.offline, .training, .live, .suspect, .lost]
def statuses : List Status :=
  [.done, .clamped, .refused, .noSuch, .badArgument, .busy, .badLength, .unknownKind]

/-- R167, R189: the reasons; `none` is coded 0 and the first of these 1. -/
def reasons : List Reason :=
  [.regimeActive, .regimeQuiet, .zoneActive, .notParked, .noEgress, .systemRecord, .liveInUse, .tableFull,
    .notCommissioning, .triggerActive, .configInvalid]

/-- R190: the forms of RESTART. -/
def restartForms : List RestartForm := [.warm, .cold]

/-- A number in one byte. -/
def byte (n : Nat) : Byte := BitVec.ofNat 8 n

/-- R189: the code of an enumerated value. -/
def codeOf {α : Type} [DecidableEq α] (l : List α) (x : α) : Byte := byte (l.idxOf x)

/-- R189: the value of a code, where it has one. -/
def valueOf {α : Type} (l : List α) (b : Byte) : Option α := l[b.toNat]?

/-- R189: a flag. -/
def flagByte (b : Bool) : Byte := if b then 1 else 0

/-- R191: a byte read as a flag. -/
def flagOf (b : Byte) : Option Bool := if b = 0 then some false else if b = 1 then some true else none

/-- R189: an absent one-byte field is FF. -/
def optByte : Option Nat → Byte
  | none => 0xFF#8
  | some n => byte n

/-- R189: an absent one-byte enumerated field is FF. -/
def optCode {α : Type} [DecidableEq α] (l : List α) : Option α → Byte
  | none => 0xFF#8
  | some x => codeOf l x

/-! ## Numbers and sets, least significant byte first -/

/-- A number in `k` bytes, least significant first. -/
def leBytes : Nat → Nat → List Byte
  | 0, _ => []
  | k + 1, n => byte n :: leBytes k (n / 256)

/-- The number of a list of bytes, least significant first. -/
def leNat : List Byte → Nat
  | [] => 0
  | b :: bs => b.toNat + 256 * leNat bs

/-- R189: an absent two-byte field is FFFF. -/
def optWord : Option Nat → List Byte
  | none => [0xFF#8, 0xFF#8]
  | some n => leBytes 2 n

/-- R189: a second count or an entry time. -/
def timeBytes (t : Seconds) : List Byte := leBytes 4 t.toNat

/-- R189: a floor set. -/
def floorSetBytes (s : FloorSet) : List Byte := leBytes 8 s.toNat

/-- R189: a landing mask. -/
def maskBytes (m : LandingMask) : List Byte := leBytes 16 m.toNat

/-- R189: a stair set or a group mask. -/
def quadByte (s : QuadSet) : Byte := s.setWidth 8

/-- R189: a list of varying length: a one-byte count, then its entries. -/
def countedBytes (entries : List (List Byte)) : List Byte := byte entries.length :: entries.flatten

/-! ## Check values (R187) -/

/-- One bit of the CRC-16, most significant first, polynomial 1021 hexadecimal. -/
def crc16Bit (r : BitVec 16) : BitVec 16 := if r.msb then (r <<< 1) ^^^ 0x1021#16 else r <<< 1

/-- A function applied `n` times. -/
def iterate {α : Type} (f : α → α) : Nat → α → α
  | 0, x => x
  | n + 1, x => iterate f n (f x)

/-- One byte of the CRC-16. -/
def crc16Byte (r : BitVec 16) (b : Byte) : BitVec 16 :=
  iterate crc16Bit 8 (r ^^^ (b.setWidth 16 <<< 8))

/-- R187: the CRC-16 of a frame, its register started at FFFF. -/
def crc16 (bytes : List Byte) : BitVec 16 := bytes.foldl crc16Byte 0xFFFF#16

/-- R187: the CRC-16 sent low byte first. -/
def crc16Bytes (bytes : List Byte) : List Byte := leBytes 2 (crc16 bytes).toNat

/-- One bit of the CRC-32, least significant first: the polynomial 04C11DB7 hexadecimal with its bits reversed. -/
def crc32Bit (r : BitVec 32) : BitVec 32 := if r.getLsbD 0 then (r >>> 1) ^^^ 0xEDB88320#32 else r >>> 1

/-- One byte of the CRC-32. -/
def crc32Byte (r : BitVec 32) (b : Byte) : BitVec 32 := iterate crc32Bit 8 (r ^^^ b.setWidth 32)

/-- R187: the CRC-32 of the configuration image, its register started at FFFFFFFF and the result inverted. -/
def crc32 (bytes : List Byte) : BitVec 32 := ~~~(bytes.foldl crc32Byte 0xFFFFFFFF#32)

end Sys2Proof.Machine
end

