-- ==== Sys2Proof/Machine/Records.lean ====
section
/-!
DEFINITION. The configuration records on the line (R178, R190): the bytes of each table's record, their decoding with the
checks of R191, the replacement of a record of an image (R181), and the bytes that the CRC-32 covers (R178).
-/

namespace Sys2Proof.Machine

/-- A record of one of the ten tables of R178. -/
inductive ConfigRecord where
  | general (r : GeneralRec)
  | floor (r : FloorRec)
  | stair (r : StairRec)
  | zone (r : ZoneRec)
  | node (r : NodeRec)
  | group (r : GroupRec)
  | car (r : CarRec)
  | door (r : DoorRec)
  | message (r : MsgRec)
  | regimeMsgs (r : RegimeMsgRec)
  deriving DecidableEq, Repr

/-- R190: the record bytes of the tables, in the order of R178. -/
def recordBytes : List Nat := [12, 11, 6, 10, 3, 68, 3, 8, 4, 3]

/-- R178: how many records each table has. -/
def tableSizes : List Nat := [1, 64, 4, 1028, 31, 4, 16, 160, 64, 1]

/-! ## Bytes of a record -/

/-- R190: a GENERAL record. -/
def generalBytes (r : GeneralRec) : List Byte :=
  [byte r.floorCount, byte r.window] ++ leBytes 2 r.advanceLimit ++ [byte r.originLimit, byte r.retryInterval, byte r.dwell] ++
    leBytes 2 r.heldOpenLimit ++ [byte r.replyTimeout, byte r.channels, byte r.reserve]

/-- R190: a FLOOR record. -/
def floorBytes (r : FloorRec) : List Byte :=
  r.label ++ [codeOf egresses r.egress, byte r.primary, optByte r.secondary, byte r.weight, flagByte r.reEntry] ++
    leBytes 2 r.design

/-- R190: a STAIR record. -/
def stairBytes (r : StairRec) : List Byte :=
  [flagByte r.fitted, byte r.flow] ++ leBytes 2 r.high ++ leBytes 2 r.low

/-- R190: a ZONE record. -/
def zoneBytes (r : ZoneRec) : List Byte :=
  [flagByte r.inUse, byte r.link.code, byte r.number, byte r.floor, codeOf zoneKinds r.kind, codeOf latches r.latch,
    flagByte r.verify, quadByte r.groups, optByte r.stair, optCode polarities r.polarity]

/-- R190: a NODE record. -/
def nodeBytes (r : NodeRec) : List Byte := [flagByte r.inUse, byte r.port.code, byte r.address]

/-- R190: a GROUP record. -/
def groupBytes (r : GroupRec) : List Byte :=
  [flagByte r.inUse, byte r.address] ++ r.map.map optByte ++ [byte r.primary, byte r.alternate]

/-- R190: a CAR record. -/
def carBytes (r : CarRec) : List Byte := [flagByte r.inUse, byte r.group, byte r.place]

/-- R190: a DOOR_POINT record. -/
def doorBytes (r : DoorRec) : List Byte :=
  [flagByte r.inUse, byte r.loop.code, byte r.address, byte r.point, byte r.floor, byte r.stair,
    codeOf normalStates r.normal, flagByte r.supervised]

/-- R190: a MESSAGE record. -/
def msgBytes (r : MsgRec) : List Byte := [flagByte r.inUse, codeOf msgKinds r.kind] ++ leBytes 2 r.length

/-- R190: a REGIME_MESSAGES record. -/
def regimeMsgBytes (r : RegimeMsgRec) : List Byte := [byte r.evac, byte r.alert, optByte r.allClear]

/-- R190: the bytes of a record of any table. -/
def configBytes : ConfigRecord → List Byte
  | .general r => generalBytes r
  | .floor r => floorBytes r
  | .stair r => stairBytes r
  | .zone r => zoneBytes r
  | .node r => nodeBytes r
  | .group r => groupBytes r
  | .car r => carBytes r
  | .door r => doorBytes r
  | .message r => msgBytes r
  | .regimeMsgs r => regimeMsgBytes r

/-- R178: what the CRC-32 covers: every table in order, each record in the layout of R190 (log entry 20). -/
def imageBytes (i : Image) : List Byte :=
  generalBytes i.general ++ i.floors.flatMap floorBytes ++ i.stairs.flatMap stairBytes ++
    i.zones.flatMap zoneBytes ++ i.nodes.flatMap nodeBytes ++ i.groups.flatMap groupBytes ++
    i.cars.flatMap carBytes ++ i.doors.flatMap doorBytes ++ i.messages.flatMap msgBytes ++
    regimeMsgBytes i.regimeMsgs

/-- R179: the check value of an image. -/
def imageCheck (i : Image) : BitVec 32 := crc32 (imageBytes i)

/-! ## Decoding (R191) -/

/-- R189: a number in one byte, FF where it is absent. -/
def optNat (b : Byte) : Option Nat := if b = 0xFF#8 then none else some b.toNat

/-- R191: an enumerated field that may be absent. -/
def optValue {α : Type} (l : List α) (b : Byte) : Option (Option α) :=
  if b = 0xFF#8 then some none else (valueOf l b).map some

/-- R191: a floor index, at most 63. -/
def floorIndex (b : Byte) : Option Nat := if b.toNat ≤ 63 then some b.toNat else none

/-- R189: a link or port. -/
def lineOf (b : Byte) : Option Line := Line.ofCode b.toNat

/-- R190: a number in two bytes. -/
def word (lo hi : Byte) : Nat := lo.toNat + 256 * hi.toNat

/-- R191: a GENERAL record decoded. -/
def decodeGeneral : List Byte → Option GeneralRec
  | [fc, w, a0, a1, ol, ri, dw, h0, h1, rt, ch, rs] =>
    some ⟨fc.toNat, w.toNat, word a0 a1, ol.toNat, ri.toNat, dw.toNat, word h0 h1, rt.toNat, ch.toNat, rs.toNat⟩
  | _ => none

/-- R191: a FLOOR record decoded. DESIGN CHOICE (log entry 40): a primary stair or a weight of FF is the number 255. -/
def decodeFloor : List Byte → Option FloorRec
  | [l0, l1, l2, l3, e, p, s, w, r, d0, d1] =>
    match valueOf egresses e, flagOf r with
    | some e, some r => some ⟨[l0, l1, l2, l3], e, p.toNat, optNat s, w.toNat, r, word d0 d1⟩
    | _, _ => none
  | _ => none

/-- R191: a STAIR record decoded. -/
def decodeStair : List Byte → Option StairRec
  | [f, q, h0, h1, l0, l1] => (flagOf f).map (fun f => ⟨f, q.toNat, word h0 h1, word l0 l1⟩)
  | _ => none

/-- R191: a ZONE record decoded; bits 4–7 of the group mask are not kept (log entry 21). -/
def decodeZone : List Byte → Option ZoneRec
  | [u, k0, n, f, k, m, v, g, s, p] =>
    match flagOf u, lineOf k0, floorIndex f, valueOf zoneKinds k, valueOf latches m, flagOf v, optValue polarities p with
    | some u, some ln, some f, some k, some m, some v, some p =>
      some ⟨u, ln, n.toNat, f, k, m, v, g.setWidth 4, optNat s, p⟩
    | _, _, _, _, _, _, _ => none
  | _ => none

/-- R191: a NODE record decoded. DESIGN CHOICE (log entry 40): an address of FF is the number 255. -/
def decodeNode : List Byte → Option NodeRec
  | [u, p, a] =>
    match flagOf u, lineOf p with
    | some u, some p => some ⟨u, p, a.toNat⟩
    | _, _ => none
  | _ => none

/-- R191: a GROUP record decoded. -/
def decodeGroupRec (bytes : List Byte) : Option GroupRec :=
  match bytes, bytes.drop 66 with
  | u :: a :: rest, [p, q] =>
    match flagOf u, floorIndex p, floorIndex q with
    | some u, some p, some q => some ⟨u, a.toNat, (rest.take 64).map optNat, p, q⟩
    | _, _, _ => none
  | _, _ => none

/-- R191: a CAR record decoded. -/
def decodeCar : List Byte → Option CarRec
  | [u, g, p] => (flagOf u).map (fun u => ⟨u, g.toNat, p.toNat⟩)
  | _ => none

/-- R191: a DOOR_POINT record decoded. -/
def decodeDoor : List Byte → Option DoorRec
  | [u, k0, a, p, f, s, n, v] =>
    match flagOf u, lineOf k0, floorIndex f, valueOf normalStates n, flagOf v with
    | some u, some ln, some f, some n, some v => some ⟨u, ln, a.toNat, p.toNat, f, s.toNat, n, v⟩
    | _, _, _, _, _ => none
  | _ => none

/-- R191: a MESSAGE record decoded. -/
def decodeMessage : List Byte → Option MsgRec
  | [u, k, l0, l1] =>
    match flagOf u, valueOf msgKinds k with
    | some u, some k => some ⟨u, k, word l0 l1⟩
    | _, _ => none
  | _ => none

/-- R191: a REGIME_MESSAGES record decoded. DESIGN CHOICE (log entry 40): an EVAC or ALERT message of FF is the number 255. -/
def decodeRegimeMsgs : List Byte → Option RegimeMsgRec
  | [e, a, c] => some ⟨e.toNat, a.toNat, optNat c⟩
  | _ => none

/-- R191: the record of a table, whose length must be the table's; a table above 9 has none. DESIGN CHOICE (log entry 40): in
every table FF or FFFF in a number that may not be absent is that number. -/
def decodeRecord (table : Nat) (bytes : List Byte) : Option ConfigRecord :=
  match table with
  | 0 => (decodeGeneral bytes).map .general
  | 1 => (decodeFloor bytes).map .floor
  | 2 => (decodeStair bytes).map .stair
  | 3 => (decodeZone bytes).map .zone
  | 4 => (decodeNode bytes).map .node
  | 5 => if bytes.length = 68 then (decodeGroupRec bytes).map .group else none
  | 6 => (decodeCar bytes).map .car
  | 7 => (decodeDoor bytes).map .door
  | 8 => (decodeMessage bytes).map .message
  | 9 => (decodeRegimeMsgs bytes).map .regimeMsgs
  | _ => none

/-! ## Records of an image -/

/-- A table cut or filled to the number of records that R178 gives it. -/
def sized {α : Type} (n : Nat) (blank : α) (l : List α) : List α := (l ++ List.replicate n blank).take n

/-- R178: an image brought to the shape of the rule: the record count of every table, the four bytes of a label and the
64 entries of a landing map; everything else is as it stands. -/
def shapeImage (i : Image) : Image where
  general := i.general
  floors := (sized 64 default i.floors).map (fun r => { r with label := sized 4 0x20#8 r.label })
  stairs := sized 4 default i.stairs
  zones := sized 1028 default i.zones
  nodes := sized 31 default i.nodes
  groups := (sized 4 default i.groups).map (fun r => { r with map := sized 64 none r.map })
  cars := sized 16 default i.cars
  doors := sized 160 default i.doors
  messages := sized 64 default i.messages
  regimeMsgs := i.regimeMsgs

/-- R181: one record of an image replaced whole. -/
def putRecord (index : Nat) (r : ConfigRecord) (i : Image) : Image :=
  match r with
  | .general r => { i with general := r }
  | .floor r => { i with floors := i.floors.set index r }
  | .stair r => { i with stairs := i.stairs.set index r }
  | .zone r => { i with zones := i.zones.set index r }
  | .node r => { i with nodes := i.nodes.set index r }
  | .group r => { i with groups := i.groups.set index r }
  | .car r => { i with cars := i.cars.set index r }
  | .door r => { i with doors := i.doors.set index r }
  | .message r => { i with messages := i.messages.set index r }
  | .regimeMsgs r => { i with regimeMsgs := r }

/-- The table code of a record. -/
def ConfigRecord.table : ConfigRecord → Nat
  | .general _ => 0
  | .floor _ => 1
  | .stair _ => 2
  | .zone _ => 3
  | .node _ => 4
  | .group _ => 5
  | .car _ => 6
  | .door _ => 7
  | .message _ => 8
  | .regimeMsgs _ => 9

/-- R178: an index within the range of a record's table. -/
def ConfigRecord.inRange (r : ConfigRecord) (index : Nat) : Bool :=
  match tableSizes[r.table]? with
  | some n => decide (index < n)
  | none => false

/-- R189: a label of 1 to 4 printable characters (21–7E), padded on the right with 20 (log entry 22). -/
def printable : List Byte → Bool
  | [] => false
  | c :: cs =>
    let shown (b : Byte) : Bool := decide (0x21 ≤ b.toNat ∧ b.toNat ≤ 0x7E)
    shown c && (cs.dropWhile shown).all (fun b => b = 0x20#8)

/-- R180: the default image. The fields of records that are not in use, the figures of stairs that are not fitted, and the
stairs and re-entry flags of the floors are the model's (DESIGN CHOICE, log entry 23). -/
def defaultImage : Image where
  general := defaultGeneral
  floors := (List.range 64).map fallbackFloor
  stairs := List.replicate 4 unfittedStair
  zones := List.replicate 1028 ⟨false, .p 0, 0, 0, .smoke, .latching, false, 0, none, none⟩
  nodes := List.replicate 31 ⟨false, .p 0, 1⟩
  groups := List.replicate 4 ⟨false, 1, List.replicate 64 none, 0, 0⟩
  cars := List.replicate 16 ⟨false, 0, 0⟩
  doors := List.replicate 160 ⟨false, .d 0, 1, 0, 0, 0, .secure, false⟩
  messages := List.replicate 64 ⟨false, .evac, 1⟩
  regimeMsgs := ⟨0, 0, none⟩

end Sys2Proof.Machine
end

