-- ==== Sys2Proof/Machine/Operands.lean ====
section
/-!
DEFINITION. The operands of the requests (R190): the payload length of each kind, and the decoding of a payload into the
request's operands with the checks of R191. `none` is a payload that fails a check.
-/

namespace Sys2Proof.Machine

/-- R190: whether a body length fits a kind whose payload has `n` bytes. -/
def lengthIs (n : Nat) (payload : List Byte) : Bool := payload.length = n

/-- R190, R191: the lengths that WRITE_CONFIG's payload may have: 3 plus the record bytes of some table. -/
def configLength (payload : List Byte) : Bool := recordBytes.any (fun n => decide (payload.length = 3 + n))

/-- A request without operands. -/
def noOperands (payload : List Byte) : Option Unit := if payload = [] then some () else none

/-- One number. -/
def oneNumber : List Byte → Option Nat
  | [a] => some a.toNat
  | _ => none

/-- One floor index. -/
def oneFloor : List Byte → Option Nat
  | [f] => floorIndex f
  | _ => none

/-- A link and a zone number. -/
def linkZone : List Byte → Option (Line × Nat)
  | [k, z] => (lineOf k).map (fun ln => (ln, z.toNat))
  | _ => none

/-- R190: the three forms of READ_ANNOUNCEMENT. -/
inductive AnnForm where
  | record (id : Nat)
  | pool
  | floor (f : Nat)
  deriving DecidableEq, Repr

/-- R190, R191: READ_ANNOUNCEMENT. DESIGN CHOICE (log entry 34): the value of the form POOL is not tested. -/
def annForm : List Byte → Option AnnForm
  | [form, v] =>
    if form = 0 then some (.record v.toNat)
    else if form = 1 then some .pool
    else if form = 2 then (floorIndex v).map .floor
    else none
  | _ => none

/-- R191: READ_NODE: a port, at most 12, and an address. -/
def portAddress : List Byte → Option (Line × Nat)
  | [p, a] => if p.toNat ≤ 12 then (lineOf p).map (fun ln => (ln, a.toNat)) else none
  | _ => none

/-- A span: its lower and its upper index. -/
def spanOperands : List Byte → Option (Nat × Nat)
  | [lo, hi] =>
    match floorIndex lo, floorIndex hi with
    | some l, some h => some (l, h)
    | _, _ => none
  | _ => none

/-- R190: SET_OCCUPANCY. -/
def occupancyOperands : List Byte → Option (Nat × Nat)
  | [f, v0, v1] => (floorIndex f).map (fun f => (f, word v0 v1))
  | _ => none

/-- R190: FIRE_SERVICE. -/
def fireOperands : List Byte → Option (Nat × Bool)
  | [c, b] => (flagOf b).map (fun b => (c.toNat, b))
  | _ => none

/-- R191: a stair set, its bits 4–7 clear. -/
def stairSet (b : Byte) : Option QuadSet := if b.toNat < 16 then some (b.setWidth 4) else none

/-- R190: RELEASE_DOORS and RESTORE_DOORS. -/
def doorOperands : List Byte → Option (Nat × Nat × QuadSet)
  | [lo, hi, st] =>
    match floorIndex lo, floorIndex hi, stairSet st with
    | some l, some h, some q => some (l, h, q)
    | _, _, _ => none
  | _ => none

/-- The operands of ANNOUNCE. -/
structure AnnounceOperands where
  message : Nat
  lo : Nat
  hi : Nat
  repeats : Nat
  deriving DecidableEq, Repr

/-- R190: ANNOUNCE. -/
def announceOperands : List Byte → Option AnnounceOperands
  | [m, lo, hi, r] =>
    match floorIndex lo, floorIndex hi with
    | some l, some h => some ⟨m.toNat, l, h, r.toNat⟩
    | _, _ => none
  | _ => none

/-- R190: RESTART. -/
def restartOperand : List Byte → Option RestartForm
  | [f] => valueOf restartForms f
  | _ => none

/-- R190, R191: WRITE_CONFIG: the index, and the record that the table's layout gives. -/
def configOperands : List Byte → Option (Nat × ConfigRecord)
  | t :: i0 :: i1 :: record => (decodeRecord t.toNat record).map (fun r => (word i0 i1, r))
  | _ => none

end Sys2Proof.Machine
end

