-- ==== Sys2Proof/Machine/Clamp.lean ====
section
/-!
DEFINITION. What COMMIT_CONFIG does to the staged image before the store write: the clamped image with the list of clamped
values (R182), and its validation (R183).
-/

namespace Sys2Proof.Machine

/-- A number set to the nearer end of its range. -/
def clampTo (lo hi n : Nat) : Nat := max lo (min hi n)

/-- The positions at which `changed` is set, counted from 0. -/
def changedFields (changed : List Bool) : List Nat :=
  ((indexedFrom 0 changed).filter (·.2)).map (·.1)

/-! ## Clamping, table by table (R182); each with the field positions that it changes

R182 clamps the staged image whole: records whose in-use flag is clear are clamped like the others, and only R183 tests
configured records alone. -/

/-- R182: GENERAL. -/
def clampGeneral (r : GeneralRec) : GeneralRec where
  floorCount := clampTo 2 64 r.floorCount
  window := clampTo 10 120 r.window
  advanceLimit := clampTo 60 900 r.advanceLimit
  originLimit := clampTo 1 8 r.originLimit
  retryInterval := clampTo 1 15 r.retryInterval
  dwell := clampTo 2 30 r.dwell
  heldOpenLimit := clampTo 30 600 r.heldOpenLimit
  replyTimeout := clampTo 20 200 r.replyTimeout
  channels := clampTo 1 8 r.channels
  reserve := clampTo 0 4 r.reserve

/-- The fields of two GENERAL records that differ. -/
def diffGeneral (a b : GeneralRec) : List Nat :=
  changedFields [a.floorCount != b.floorCount, a.window != b.window, a.advanceLimit != b.advanceLimit,
    a.originLimit != b.originLimit, a.retryInterval != b.retryInterval, a.dwell != b.dwell,
    a.heldOpenLimit != b.heldOpenLimit, a.replyTimeout != b.replyTimeout, a.channels != b.channels,
    a.reserve != b.reserve]

/-- R182: the secondary stair of a floor: in its range, and absent where it equals the primary. -/
def clampSecondary (primary : Nat) (secondary : Option Nat) : Option Nat :=
  (secondary.map (clampTo 0 3)).filter (fun s => s != primary)

/-- R182: FLOOR. -/
def clampFloor (r : FloorRec) : FloorRec :=
  let p := clampTo 0 3 r.primary
  let s := clampSecondary p r.secondary
  { r with
    primary := p
    secondary := s
    weight := if s.isNone then 100 else clampTo 1 100 r.weight
    design := if r.egress = .none then 0 else clampTo 0 2000 r.design }

/-- The fields of two FLOOR records that differ. -/
def diffFloor (a b : FloorRec) : List Nat :=
  changedFields [a.label != b.label, a.egress != b.egress, a.primary != b.primary, a.secondary != b.secondary,
    a.weight != b.weight, a.reEntry != b.reEntry, a.design != b.design]

/-- R182, R49: STAIR. The two watermarks of a fitted stair are held apart. -/
def clampStair (r : StairRec) : StairRec :=
  let h := clampTo 1 65535 r.high
  let l := clampTo 0 65534 r.low
  { r with flow := clampTo 1 240 r.flow, high := h, low := if r.fitted ∧ h ≤ l then h - 1 else l }

/-- The fields of two STAIR records that differ. -/
def diffStair (a b : StairRec) : List Nat :=
  changedFields [a.fitted != b.fitted, a.flow != b.flow, a.high != b.high, a.low != b.low]

/-- R182: the zone kinds that carry a group mask. -/
def takesGroups : ZoneKind → Bool
  | .liftLobby | .hoistway | .machineRoom | .recallKey => true
  | _ => false

/-- R182: the polarity of a zone, by its link. -/
def clampPolarity (link : Line) (p : Option Polarity) : Option Polarity :=
  if link.isPanel then none
  else if link = .l then some (p.getD .alarmHigh)
  else p

/-- R182: ZONE. The zone number and the floor fit their ranges in every record that WRITE_CONFIG can have written. -/
def clampZone (r : ZoneRec) : ZoneRec :=
  { r with
    number := clampTo 0 255 r.number
    floor := clampTo 0 63 r.floor
    verify := r.verify && decide (r.kind = .smoke)
    groups := if takesGroups r.kind then r.groups else 0
    stair := if r.kind = .stairSmoke then r.stair.map (clampTo 0 3) else none
    polarity := clampPolarity r.link r.polarity }

/-- The fields of two ZONE records that differ; the in-use flag is field 0. -/
def diffZone (a b : ZoneRec) : List Nat :=
  changedFields [false, a.link != b.link, a.number != b.number, a.floor != b.floor, a.kind != b.kind,
    a.latch != b.latch, a.verify != b.verify, a.groups != b.groups, a.stair != b.stair, a.polarity != b.polarity]

/-- R182: NODE. -/
def clampNode (r : NodeRec) : NodeRec := { r with address := clampTo 1 31 r.address }

/-- The fields of two NODE records that differ. -/
def diffNode (a b : NodeRec) : List Nat := changedFields [false, a.port != b.port, a.address != b.address]

/-- R182: the landing map of a group over `n` configured floors. -/
def clampMap (n : Nat) (map : List (Option Nat)) : List (Option Nat) :=
  (indexedFrom 0 map).map (fun e => if n ≤ e.1 then none else e.2.map (clampTo 1 127))

/-- R182: GROUP. -/
def clampGroup (n : Nat) (r : GroupRec) : GroupRec :=
  { r with
    address := clampTo 1 31 r.address
    map := clampMap n r.map
    primary := clampTo 0 63 r.primary
    alternate := clampTo 0 63 r.alternate }

/-- The fields of two GROUP records that differ. Each landing-map entry that differs is a change of its own, and is named
by the position of the landing map (log entry 25). -/
def diffGroup (a b : GroupRec) : List Nat :=
  changedFields [false, a.address != b.address] ++
    ((a.map.zip b.map).filter (fun e => e.1 != e.2)).map (fun _ => 2) ++
    changedFields [false, false, false, a.primary != b.primary, a.alternate != b.alternate]

/-- R182: CAR. -/
def clampCar (r : CarRec) : CarRec := { r with group := clampTo 0 3 r.group, place := clampTo 0 15 r.place }

/-- The fields of two CAR records that differ. -/
def diffCar (a b : CarRec) : List Nat := changedFields [false, a.group != b.group, a.place != b.place]

/-- R182: DOOR_POINT. -/
def clampDoor (r : DoorRec) : DoorRec :=
  { r with
    address := clampTo 1 31 r.address
    point := clampTo 0 7 r.point
    floor := clampTo 0 63 r.floor
    stair := clampTo 0 3 r.stair }

/-- The fields of two DOOR_POINT records that differ. -/
def diffDoor (a b : DoorRec) : List Nat :=
  changedFields [false, a.loop != b.loop, a.address != b.address, a.point != b.point, a.floor != b.floor,
    a.stair != b.stair, a.normal != b.normal, a.supervised != b.supervised]

/-- R182: MESSAGE. -/
def clampMessage (r : MsgRec) : MsgRec := { r with length := clampTo 1 600 r.length }

/-- The fields of two MESSAGE records that differ. -/
def diffMessage (a b : MsgRec) : List Nat := changedFields [false, a.kind != b.kind, a.length != b.length]

/-- R182: REGIME_MESSAGES. -/
def clampRegimeMsgs (r : RegimeMsgRec) : RegimeMsgRec :=
  ⟨clampTo 0 63 r.evac, clampTo 0 63 r.alert, r.allClear.map (clampTo 0 63)⟩

/-- The fields of two REGIME_MESSAGES records that differ. -/
def diffRegimeMsgs (a b : RegimeMsgRec) : List Nat :=
  changedFields [a.evac != b.evac, a.alert != b.alert, a.allClear != b.allClear]

/-- R182: the clamped image. -/
def clampImage (i : Image) : Image where
  general := clampGeneral i.general
  floors := i.floors.map clampFloor
  stairs := i.stairs.map clampStair
  zones := i.zones.map clampZone
  nodes := i.nodes.map clampNode
  groups := i.groups.map (clampGroup (clampGeneral i.general).floorCount)
  cars := i.cars.map clampCar
  doors := i.doors.map clampDoor
  messages := i.messages.map clampMessage
  regimeMsgs := clampRegimeMsgs i.regimeMsgs

/-- The clamped values of one table, as table, index and field position. -/
def diffTable {α : Type} (table : Nat) (diff : α → α → List Nat) (old new : List α) : List (Nat × Nat × Nat) :=
  (indexedFrom 0 (old.zip new)).flatMap (fun e => (diff e.2.1 e.2.2).map (fun p => (table, e.1, p)))

/-- R182, R183: the clamped values in table and index order. -/
def clampedValues (i j : Image) : List (Nat × Nat × Nat) :=
  diffTable 0 diffGeneral [i.general] [j.general] ++ diffTable 1 diffFloor i.floors j.floors ++
    diffTable 2 diffStair i.stairs j.stairs ++ diffTable 3 diffZone i.zones j.zones ++
    diffTable 4 diffNode i.nodes j.nodes ++ diffTable 5 diffGroup i.groups j.groups ++
    diffTable 6 diffCar i.cars j.cars ++ diffTable 7 diffDoor i.doors j.doors ++
    diffTable 8 diffMessage i.messages j.messages ++ diffTable 9 diffRegimeMsgs [i.regimeMsgs] [j.regimeMsgs]

/-! ## Validation (R183) -/

/-- The index of the first record that `bad` holds of, given its index and the records before it. -/
def firstBad {α : Type} (bad : Nat → List α → α → Bool) : Nat → List α → List α → Option Nat
  | _, _, [] => none
  | n, seen, x :: xs => if bad n seen x then some n else firstBad bad (n + 1) (x :: seen) xs

/-- Whether a stair is fitted. -/
def isFitted (i : Image) (s : Nat) : Bool :=
  match i.stairs[s]? with
  | some st => st.fitted
  | none => false

/-- Whether an image configures a node at an address of a port. -/
def hasNode (i : Image) (port : Line) (address : Nat) : Bool :=
  i.nodes.any (fun n => n.inUse && n.port = port && n.address = address)

/-- R183: FLOOR; records at and above the floor count are not configured. -/
def badFloor (i : Image) (n : Nat) (_seen : List FloorRec) (r : FloorRec) : Bool :=
  decide (n < i.general.floorCount) && decide (r.egress = .stair) &&
    (!isFitted i r.primary || r.secondary.any (fun s => !isFitted i s))

/-- R183: ZONE. -/
def badZone (i : Image) (_n : Nat) (seen : List ZoneRec) (r : ZoneRec) : Bool :=
  r.inUse &&
    (!(r.link.isPanel || r.link = .l) || !decide (r.floor < i.general.floorCount) ||
      (decide (r.kind = .stairSmoke) && !r.stair.any (isFitted i)) ||
      (decide (r.link = .l) && decide (3 < r.number)) ||
      seen.any (fun z => z.inUse && z.link = r.link && z.number = r.number) ||
      (r.link.isPanel && decide (1024 ≤ (seen.filter (fun z => z.inUse && z.link.isPanel)).length)))

/-- R183: how many nodes a port may have. -/
def portRoom : Line → Nat
  | .d _ => 10
  | _ => 1

/-- R183: a group link whose GROUP record is not in use or names another node address. -/
def groupMismatch (i : Image) (r : NodeRec) : Bool :=
  match r.port with
  | .g n =>
    match i.groups[n.val]? with
    | some g => !(g.inUse && g.address = r.address)
    | none => true
  | _ => false

/-- R183: NODE. -/
def badNode (i : Image) (_n : Nat) (seen : List NodeRec) (r : NodeRec) : Bool :=
  r.inUse &&
    (decide (r.port = .l) || seen.any (fun m => m.inUse && m.port = r.port && m.address = r.address) ||
      decide (portRoom r.port ≤ (seen.filter (fun m => m.inUse && m.port = r.port)).length) ||
      groupMismatch i r ||
      (r.port.isDoor && !i.doors.any (fun d => d.inUse && d.loop = r.port && d.address = r.address)))

/-- R183: a recall floor that the landing map serves. -/
def mapServes (map : List (Option Nat)) (f : Nat) : Bool := (map[f]?).join.isSome

/-- R183: GROUP. -/
def badGroup (i : Image) (n : Nat) (_seen : List GroupRec) (r : GroupRec) : Bool :=
  r.inUse && (!hasNode i (.ofGroup n) r.address || !mapServes r.map r.primary || !mapServes r.map r.alternate)

/-- R183: CAR. -/
def badCar (i : Image) (_n : Nat) (seen : List CarRec) (r : CarRec) : Bool :=
  r.inUse &&
    (!(i.groups[r.group]?).any (·.inUse) || !i.nodes.any (fun n => n.inUse && n.port = .ofGroup r.group) ||
      seen.any (fun c => c.inUse && c.group = r.group && c.place = r.place))

/-- R183: DOOR_POINT. -/
def badDoor (i : Image) (_n : Nat) (seen : List DoorRec) (r : DoorRec) : Bool :=
  r.inUse &&
    (!r.loop.isDoor || !hasNode i r.loop r.address ||
      seen.any (fun d => d.inUse && d.loop = r.loop && d.address = r.address && d.point = r.point))

/-- R183: the first failing record, by table and index. -/
def firstInvalid (i : Image) : Option (Nat × Nat) :=
  let mark (table : Nat) (r : Option Nat) : Option (Nat × Nat) := r.map (fun n => (table, n))
  (mark 1 (firstBad (badFloor i) 0 [] i.floors)).or <|
  (mark 3 (firstBad (badZone i) 0 [] i.zones)).or <|
  (mark 4 (firstBad (badNode i) 0 [] i.nodes)).or <|
  (mark 5 (firstBad (badGroup i) 0 [] i.groups)).or <|
  (mark 6 (firstBad (badCar i) 0 [] i.cars)).or <|
  mark 7 (firstBad (badDoor i) 0 [] i.doors)

end Sys2Proof.Machine
end

