-- ==== Sys2Proof/Machine/Lifts.lean ====
section
/-!
DEFINITION. The Lift Coordinator (chapter 04): landing lockout, recall and its target, the command handshake, arrival
and inspection, retarget, fire service, release, node loss and return, and FALLBACK. Every operation changes the LC's
own record and lists its effects; `State.liftLc` carries them out.
-/

namespace Sys2Proof.Machine

/-- What the LC reads of the other blocks: the level, the floor table, and whether the FALLBACK set is in force. -/
structure LEnv where
  level : Level
  floors : List Floor
  fallback : Bool

/-- What the LC reads in a given state of the part. -/
def State.lenv (s : State) : LEnv := ⟨s.rc.level, s.rc.floors, s.cs.fallback⟩

/-- The LC in the course of a change. -/
abbrev LAcc := Acc LC

/-- The LC's record changed. -/
def LAcc.lc (f : LC → LC) (a : LAcc) : LAcc := Acc.upd f a

/-- One effect more. -/
def LAcc.tell (e : Eff) (a : LAcc) : LAcc := Acc.emit e a

/-- One effect more, where `b` holds. -/
def LAcc.tellIf (b : Bool) (e : Eff) (a : LAcc) : LAcc := Acc.emitIf b e a

/-! ## Groups, landings and cars -/

/-- The group record of a number. -/
def findGroup (x : LC) (n : Nat) : Option Group := x.groups.find? (fun g => g.number = n)

/-- The car record of a number. -/
def findCar (x : LC) (n : Nat) : Option Car := x.cars.find? (fun c => c.number = n)

/-- One group record changed. -/
def LAcc.modGroup (n : Nat) (f : Group → Group) (a : LAcc) : LAcc :=
  a.lc (fun x => { x with groups := mapIf (fun g => g.number = n) f x.groups })

/-- One car record replaced. -/
def LAcc.putCar (c : Car) (a : LAcc) : LAcc :=
  a.lc (fun x => { x with cars := mapIf (fun e => e.number = c.number) (fun _ => c) x.cars })

/-- The numbers of a group's cars, in car order. -/
def carsOf (x : LC) (g : Nat) : List Nat := (x.cars.filter (fun c => c.group = g)).map (·.number)

/-- R75: the landing of a floor, where the group serves it. -/
def landingOf (map : List (Option Nat)) (f : Nat) : Option Nat := (map[f]?).join

/-- R75: a floor is served when its map entry is present. -/
def serves (map : List (Option Nat)) (f : Nat) : Bool := (landingOf map f).isSome

/-- R75: the mapped floor of a landing: the lowest floor that carries it; landing 0 has none. -/
def mappedFloor (map : List (Option Nat)) (landing : Nat) : Option Nat :=
  if landing = 0 then none
  else (List.range map.length).find? (fun f => landingOf map f = some landing)

/-- The landing of a target. -/
def targetLanding (g : Group) : Target → Nat
  | .floor f => (landingOf g.map f).getD 0
  | .landing l => l

/-- A target as reports and replies give it. -/
def targetView (floors : List Floor) (g : Group) : Option Target → Option TargetView
  | none => none
  | some (.floor f) => some ⟨some f, some (labelOf floors f), (landingOf g.map f).getD 0⟩
  | some (.landing l) => some ⟨none, none, l⟩

/-! ## Landing lockout -/

/-- R77: the floors that are locked out, served by the group, and not its target. -/
def lockoutSet (floors : List Floor) (g : Group) : FloorSet :=
  setWhere 64 64 (fun f => isLocked floors f && serves g.map f && g.target != some (.floor f))

/-- R77: the landings that a lockout set maps to. -/
def maskOf (map : List (Option Nat)) (set : FloorSet) : LandingMask :=
  (members set).foldl (fun m f =>
    match landingOf map f with
    | some l => addBit m l
    | none => m) 0

/-- R77: a group's lockout set and mask image recomputed; a changed image is marked dirty. -/
def LAcc.recomputeLockout (env : LEnv) (a : LAcc) (n : Nat) : LAcc :=
  match findGroup a.st n with
  | none => a
  | some g =>
    let set := lockoutSet env.floors g
    let mask := maskOf g.map set
    (a.modGroup n (fun g => { g with lockout := set, mask := mask })).tellIf (mask != g.mask)
      (.dirty (.ofGroup n) g.address .lockoutMask)

/-! ## Target -/

/-- R80: the trigger list holds a LIFT_LOBBY entry on the floor. -/
def lobbyOn (g : Group) (f : Nat) : Bool := g.triggers.zones.any (fun z => z.kind = .liftLobby && z.floor = f)

/-- R80: the choice of a group's target. In FALLBACK a target once fixed stays, and otherwise the lowest reported landing
is taken (R99). DESIGN CHOICE (log entry 31): an alternate that is the primary floor is chosen by line 2 of the table where
it is not locked, also with a LIFT_LOBBY entry there. -/
def chooseTarget (env : LEnv) (g : Group) : Option Target :=
  if env.fallback then
    match g.target with
    | some t => some t
    | none => g.lowest.map .landing
  else
    match g.primary, g.alternate with
    | some p, some q =>
      if !isLocked env.floors p && !lobbyOn g p then some (.floor p)
      else if !isLocked env.floors q then some (.floor q)
      else
        ((List.range g.map.length).find? (fun f =>
          serves g.map f && !isLocked env.floors f && !(decide (f = p) && lobbyOn g p))).map .floor
    | _, _ => none

/-! ## Car commands -/

/-- R97: the report of a car's change of service mode. -/
def carReport (env : LEnv) (c : Car) : Eff :=
  .report (if c.service = .recallFailed then .trouble else .routine)
    (.car c ((c.cache.bind (·.floor)).map (labelOf env.floors)))

/-- A car changed from `old` to `new`: the trouble notice of a car that enters or leaves RECALL_FAILED (R18), then the
report of a changed service mode (R97). R85 orders them so at the entry; at the leaving it is DESIGN CHOICE (log entry 39). -/
def LAcc.replaceCar (env : LEnv) (old new : Car) (a : LAcc) : LAcc :=
  (((a.putCar new).tellIf (old.service = .recallFailed && new.service != .recallFailed) (.trouble .cars false)).tellIf
    (old.service != .recallFailed && new.service = .recallFailed) (.trouble .cars true)).tellIf
    (old.service != new.service) (carReport env new)

/-- R82: a car's command image set: SENT, attempts 0, no retry timer, and the image marked dirty. -/
def LAcc.command (env : LEnv) (g : Group) (service : Service) (cmd : Command) (c : Car) (a : LAcc) : LAcc :=
  (a.replaceCar env c
    { c with service := service, image := some cmd, cmdState := .sent, attempts := 0, retry := none }).tell
    (.dirty (.ofGroup g.number) g.address (.carCommand c.number))

/-- R81: the cache shows the car standing at the landing with its door open, held by the group. -/
def parkedAt (cache : Option Cache) (landing : Nat) : Bool :=
  match cache with
  | some k => k.landing = landing && k.door = .isOpen && k.mode = .parked
  | none => false

/-- R81: the recall step of a car that it reaches. No cache hit occurs while NODE_DOWN stands (R96), whatever a reply in
TRAINING has written into the cache. DESIGN CHOICE (log entry 31): between power-on and the first NODE_UP no NODE_DOWN stands,
and a cache hit may occur. -/
def LAcc.recallCar (env : LEnv) (a : LAcc) (n : Nat) : LAcc :=
  match findCar a.st n with
  | none => a
  | some c =>
    match findGroup a.st c.group with
    | none => a
    | some g =>
      match g.target with
      | none => a.command env g .hold (.recall 0) c
      | some t =>
        let l := targetLanding g t
        if !g.down && parkedAt c.cache l then
          a.replaceCar env c
            { c with service := .recalled, image := some (.recall l), cmdState := .accepted, attempts := 0, retry := none }
        else a.command env g .recalling (.recall l) c

/-- R81: the cars that the recall step reaches. -/
def recallReaches (c : Car) : Bool :=
  match c.service with
  | .auto | .recalling | .recalled | .hold | .releasing => true
  | .recallFailed => c.image != some .fireOff
  | _ => false

/-- R88, R92: the cars that a retarget or RECALL_GROUP commands afresh. -/
def retargetReaches (c : Car) : Bool :=
  match c.service with
  | .recalling | .recalled | .hold => true
  | .recallFailed => c.image != some .fireOff
  | _ => false

/-- R89: the cars that the recovery from HOLD commands afresh. -/
def holdReaches (c : Car) : Bool :=
  match c.service with
  | .hold => true
  | .recallFailed => c.image != some .fireOff
  | _ => false

/-- R93: the cars that the release step reaches. -/
def releaseReaches (c : Car) : Bool := retargetReaches c

/-- A step applied to the cars of a group that `p` holds of, in car order. -/
def LAcc.eachCar (g : Nat) (p : Car → Bool) (step : LAcc → Nat → LAcc) (a : LAcc) : LAcc :=
  (carsOf a.st g).foldl (fun b n =>
    match findCar b.st n with
    | some c => if p c then step b n else b
    | none => b) a

/-- R93: the release step of a car that it reaches. -/
def LAcc.releaseCar (env : LEnv) (a : LAcc) (n : Nat) : LAcc :=
  match findCar a.st n with
  | none => a
  | some c =>
    match findGroup a.st c.group with
    | none => a
    | some g => a.command env g .releasing .release c

/-! ## Starting, renewing and ending a recall -/

/-- R97: a group report. -/
def LAcc.groupReport (env : LEnv) (cause : GroupCause) (n : Nat) (a : LAcc) : LAcc :=
  match findGroup a.st n with
  | none => a
  | some g => a.tell (.report .routine (.group cause n (targetView env.floors g g.target)))

/-- R79: a trigger noted in a trigger list. -/
def Triggers.note (t : Triggers) (trigger : TriggerName) (zone : Option TriggerZone) : Triggers :=
  match trigger, zone with
  | .general, _ => { t with general := true }
  | .request, _ => { t with request := true }
  | .zone _ _, some z =>
    if t.zones.any (fun e => e.link = z.link && e.number = z.number) then
      { t with zones := mapIf (fun e => e.link = z.link && e.number = z.number) (fun e => { e with standing := true }) t.zones }
    else { t with zones := t.zones ++ [z] }
  | .zone _ _, none => t

/-- R79: the start of a recall. -/
def LAcc.startRecall (env : LEnv) (trigger : TriggerName) (zone : Option TriggerZone) (n : Nat) (a : LAcc) : LAcc :=
  let a := a.modGroup n (fun g =>
    { g with active := true, triggers := (⟨false, false, []⟩ : Triggers).note trigger zone })
  let a := a.groupReport env (.recallStarted trigger) n
  let a := a.modGroup n (fun g => { g with target := chooseTarget env g })
  let a := a.recomputeLockout env n
  a.eachCar n recallReaches (LAcc.recallCar env)

/-- R79: a trigger of a group's recall other than RECALL_GROUP. -/
def LAcc.trigger (env : LEnv) (trigger : TriggerName) (zone : Option TriggerZone) (a : LAcc) (n : Nat) : LAcc :=
  match findGroup a.st n with
  | none => a
  | some g =>
    if g.active then a.modGroup n (fun g => { g with triggers := g.triggers.note trigger zone })
    else a.startRecall env trigger zone n

/-- R88, R89, R92: the target chosen again, with the RETARGETED report of a choice that differs. -/
def LAcc.retarget (env : LEnv) (n : Nat) (reaches : Car → Bool) (a : LAcc) : LAcc :=
  match findGroup a.st n with
  | none => a
  | some g =>
    let a := a.modGroup n (fun g => { g with target := chooseTarget env g })
    let a := if chooseTarget env g = g.target then a
      else a.groupReport env (.retargeted (targetView env.floors g g.target)) n
    (a.eachCar n reaches (LAcc.recallCar env)).recomputeLockout env n

/-- R92: RECALL_GROUP of a configured group. -/
def LAcc.recallRequest (env : LEnv) (n : Nat) (a : LAcc) : LAcc :=
  match findGroup a.st n with
  | none => a
  | some g =>
    if g.active then
      (a.modGroup n (fun g => { g with triggers := { g.triggers with request := true } })).retarget env n retargetReaches
    else a.startRecall env .request none n

/-- R94: the end of a group's recall. -/
def LAcc.endRecall (env : LEnv) (cause : EndOrigin) (n : Nat) (a : LAcc) : LAcc :=
  let a := a.modGroup n (fun g => { g with active := false, triggers := ⟨false, false, []⟩, target := none })
  let a := a.groupReport env (.recallEnded cause) n
  (a.eachCar n releaseReaches (LAcc.releaseCar env)).recomputeLockout env n

/-- R94: reset completion ends every recall that is active. -/
def LAcc.regimeEnded (env : LEnv) (a : LAcc) : LAcc :=
  ((a.st.groups.filter (·.active)).map (·.number)).foldl (fun b n => b.endRecall env .resetComplete n) a

/-- R94: no STANDING zone entry and neither mark. -/
def Triggers.spent (t : Triggers) : Bool := !t.general && !t.request && !t.zones.any (·.standing)

/-- R94: a clearance of a zone at one group. -/
def LAcc.clearance (env : LEnv) (link : Line) (number : Nat) (a : LAcc) (n : Nat) : LAcc :=
  match findGroup a.st n with
  | none => a
  | some g =>
    if g.active && g.triggers.zones.any (fun z => z.link = link && z.number = number) then
      let zones := mapIf (fun z => z.link = link && z.number = number) (fun z => { z with standing := false })
        g.triggers.zones
      let a := a.modGroup n (fun g => { g with triggers := { g.triggers with zones := zones } })
      if env.level = .normal && ({ g.triggers with zones := zones } : Triggers).spent then
        a.endRecall env .lastTrigger n
      else a
    else a

/-- The numbers of the groups. -/
def groupNumbers (x : LC) : List Nat := x.groups.map (·.number)

/-- R25, R94: a clearance handed on to every group. -/
def LAcc.clearances (env : LEnv) (link : Line) (number : Nat) (a : LAcc) : LAcc :=
  (groupNumbers a.st).foldl (LAcc.clearance env link number) a

/-- R77 at regime entry: every group's lockout set rebuilt. -/
def LAcc.rebuildLockouts (env : LEnv) (a : LAcc) : LAcc := (groupNumbers a.st).foldl (LAcc.recomputeLockout env) a

/-- R77, R88: a lockout flag set on floor `f`, at one group. -/
def LAcc.lockedOut (env : LEnv) (f : Nat) (a : LAcc) (n : Nat) : LAcc :=
  match findGroup a.st n with
  | none => a
  | some g =>
    if g.active && g.target = some (.floor f) then a.retarget env n retargetReaches
    else if serves g.map f then a.recomputeLockout env n
    else a

/-- R77, R89: a lockout flag cleared on floor `f`, at one group. -/
def LAcc.lockoutCleared (env : LEnv) (f : Nat) (a : LAcc) (n : Nat) : LAcc :=
  match findGroup a.st n with
  | none => a
  | some g =>
    if serves g.map f then
      if g.active && g.target.isNone && (chooseTarget env g).isSome then a.retarget env n holdReaches
      else a.recomputeLockout env n
    else a

/-- R5: a change of a floor's lockout flag handed to the LC. -/
def LAcc.lockoutChange (env : LEnv) (f : Nat) (a : LAcc) : LAcc :=
  (groupNumbers a.st).foldl
    (if isLocked env.floors f then LAcc.lockedOut env f else LAcc.lockoutCleared env f) a

/-! ## The command handshake -/

/-- The three answers of a group to a car command (R192). -/
inductive GroupAnswer where
  | accept | defer | reject
  deriving DecidableEq, Repr, Inhabited

/-- The answer block of a GROUP_STATUS reply. -/
structure AnswerBlock where
  place : Nat
  answer : GroupAnswer
  kind : Command
  deriving DecidableEq, Repr

/-- R85: a car fails; its image stays for READ_CAR and is sent no further. -/
def LAcc.fail (env : LEnv) (g : Group) (c : Car) (a : LAcc) : LAcc :=
  (a.replaceCar env c { c with service := .recallFailed, cmdState := .failed, retry := none }).tell
    (.withdraw (.ofGroup g.number) g.address (.carCommand c.number))

/-- R83: DEFER: the attempts rise, and the retry timer starts or the car fails. -/
def LAcc.defer (env : LEnv) (g : Group) (c : Car) (a : LAcc) : LAcc :=
  let c' := { c with cmdState := .deferred, attempts := c.attempts + 1 }
  if Config.attemptLimit ≤ c'.attempts then (a.putCar c').fail env g c'
  else a.putCar { c' with retry := some a.st.retryInterval }

/-- R83, R87: a car left without a command; the image, where it was not none, is marked dirty as its content changes (R152). -/
def LAcc.uncommand (env : LEnv) (g : Group) (service : Service) (c : Car) (a : LAcc) : LAcc :=
  (a.replaceCar env c
    { c with service := service, image := none, cmdState := .none, attempts := 0, retry := none }).tellIf c.image.isSome
    (.dirty (.ofGroup g.number) g.address (.carCommand c.number))

/-- R83: ACCEPT of a car's image. -/
def LAcc.accept (env : LEnv) (g : Group) (c : Car) (a : LAcc) : LAcc :=
  let c' := { c with cmdState := .accepted }
  match c.image with
  | some .release => a.uncommand env g .auto c
  | some .fireOn => a.replaceCar env c { c' with service := .fireService }
  | some .fireOff =>
    if g.active then (a.putCar c').recallCar env c.number else a.uncommand env g .auto c
  | _ => a.putCar c'

/-- R83: the answer of a reply to a car's command frame; a stale one is ignored, and none is taken while NODE_DOWN
stands (R96). -/
def LAcc.answer (env : LEnv) (n : Nat) (b : AnswerBlock) (a : LAcc) : LAcc :=
  match findGroup a.st n with
  | none => a
  | some g =>
    match a.st.cars.find? (fun c => c.group = n && c.place = b.place) with
    | none => a
    | some c =>
      if !g.down && c.cmdState = .sent && c.image = some b.kind then
        match b.answer with
        | .accept => a.accept env g c
        | .defer => a.defer env g c
        | .reject => a.fail env g c
      else a

/-- R84: a miss on a slot that carried a car's command image. -/
def LAcc.missed (env : LEnv) (car : Nat) (a : LAcc) : LAcc :=
  match findCar a.st car with
  | none => a
  | some c =>
    match findGroup a.st c.group with
    | none => a
    | some g =>
      if !g.down && c.cmdState = .sent then
        (a.defer env g c).tell (.withdraw (.ofGroup g.number) g.address (.carCommand c.number))
      else a

/-- R84: the expiry of a car's retry timer, due when it has come down to 0 (log entry 4). -/
def LAcc.retryExpired (car : Nat) (a : LAcc) : LAcc :=
  match findCar a.st car with
  | none => a
  | some c =>
    match findGroup a.st c.group with
    | none => a
    | some g =>
      if c.retry = some 0 then
        (a.putCar { c with cmdState := .sent, retry := none }).tell
          (.dirty (.ofGroup g.number) g.address (.carCommand c.number))
      else a

/-! ## State entries -/

/-- A state entry of a GROUP_STATUS reply. -/
structure CarEntry where
  place : Nat
  landing : Nat
  direction : Direction
  door : CarDoor
  mode : GroupMode
  deriving DecidableEq, Repr

/-- R78: the echoed mask written, and the image marked dirty again where they differ and it is clean. -/
def LAcc.echo (n : Nat) (echo : LandingMask) (clean : Bool) (a : LAcc) : LAcc :=
  match findGroup a.st n with
  | none => a
  | some g =>
    (a.modGroup n (fun g => { g with echo := some echo })).tellIf (echo != g.mask && clean)
      (.dirty (.ofGroup n) g.address .lockoutMask)

/-- R99: in FALLBACK an entry for a place with no car makes a car record, while fewer than 16 exist. -/
def LAcc.makeCar (env : LEnv) (n place : Nat) (a : LAcc) : LAcc :=
  if env.fallback && !a.st.cars.any (fun c => c.group = n && c.place = place) && a.st.cars.length < Config.carCap then
    match findGroup a.st n with
    | none => a
    | some g =>
      let number := a.st.cars.length
      (a.lc (fun x => { x with cars := x.cars ++ [bootCar number n place] })).tell
        (.addImage (.ofGroup n) g.address (.carCommand number))
  else a

/-- R86: a RECALLING car reported parked at the landing of its image. -/
def LAcc.parkTest (env : LEnv) (c : Car) (a : LAcc) : LAcc :=
  match c.image with
  | some (.recall l) =>
    if c.service = .recalling && l != 0 && parkedAt c.cache l then
      a.replaceCar env c { c with service := .recalled, cmdState := .accepted, retry := none }
    else a
  | _ => a

/-- R87: INSPECTION, and the return from it or from UNKNOWN. -/
def LAcc.inspectionTest (env : LEnv) (g : Group) (mode : GroupMode) (c : Car) (a : LAcc) : LAcc :=
  if mode = .inspection then
    if c.service != .fireService && c.service != .outOfService then
      a.uncommand env g .outOfService c
    else a
  else if c.service = .outOfService || c.service = .unknown then
    if g.active then a.recallCar env c.number else a.uncommand env g .auto c
  else a

/-- R99: the lowest reported landing of a group, and the target that the first one gives a recall without target. -/
def LAcc.noteLanding (env : LEnv) (n landing : Nat) (a : LAcc) : LAcc :=
  if env.fallback && landing != 0 then
    match findGroup a.st n with
    | none => a
    | some g =>
      let low := match g.lowest with
        | some m => min m landing
        | none => landing
      let a := a.modGroup n (fun g => { g with lowest := some low })
      if g.active && g.target.isNone then a.retarget env n recallReaches else a
  else a

/-- R76: one state entry: the cache is written, then the tests of R86 and R87 are made. DESIGN CHOICE (log entry 33): in
FALLBACK the lowest reported landing (R99) is noted between the two, and an entry that is discarded does not move it. -/
def LAcc.entry (env : LEnv) (n : Nat) (a : LAcc) (e : CarEntry) : LAcc :=
  let a := a.makeCar env n e.place
  match a.st.cars.find? (fun c => c.group = n && c.place = e.place), findGroup a.st n with
  | some c, some g =>
    let cache : Cache := ⟨e.landing, mappedFloor g.map e.landing, e.direction, e.door, e.mode⟩
    let a := (a.putCar { c with cache := some cache }).noteLanding env n e.landing
    match findCar a.st c.number with
    | none => a
    | some c1 =>
      let a := a.parkTest env c1
      match findCar a.st c.number, findGroup a.st n with
      | some c2, some g2 => a.inspectionTest env g2 e.mode c2
      | _, _ => a
  | _, _ => a

/-- R76: the state entries of a reply, in ascending place order. -/
def LAcc.entries (env : LEnv) (n : Nat) (es : List CarEntry) (a : LAcc) : LAcc :=
  (sortBy (fun e => e.place) es).foldl (LAcc.entry env n) a

/-! ## Fire service -/

/-- R90: FIRE_SERVICE on, of a RECALLED car with another image. -/
def LAcc.fireOn (env : LEnv) (car : Nat) (a : LAcc) : LAcc :=
  match findCar a.st car with
  | none => a
  | some c =>
    match findGroup a.st c.group with
    | none => a
    | some g =>
      if c.service = .recalled && c.image != some .fireOn then a.command env g .recalled .fireOn c else a

/-- R91: FIRE_SERVICE off. -/
def LAcc.fireOff (env : LEnv) (car : Nat) (a : LAcc) : LAcc :=
  match findCar a.st car with
  | none => a
  | some c =>
    match findGroup a.st c.group with
    | none => a
    | some g =>
      if c.service = .fireService || (c.service = .recallFailed && c.image = some .fireOff) then
        a.command env g .fireService .fireOff c
      else if c.service = .recalled && c.image = some .fireOn then a.recallCar env car
      else a

/-! ## Node loss and return -/

/-- R96: a car after NODE_DOWN. -/
def carAfterDown (c : Car) : Car :=
  { c with cache := none, retry := none, cmdState := if c.cmdState = .deferred then .sent else c.cmdState }

/-- R96: NODE_DOWN for a group's node. -/
def LAcc.nodeDown (n : Nat) (a : LAcc) : LAcc :=
  (a.modGroup n (fun g => { g with echo := none, down := true })).lc
    (fun x => { x with cars := mapIf (fun c => c.group = n) carAfterDown x.cars })

/-- R96: what becomes of one failed car at NODE_UP. DESIGN CHOICE (log entry 31): its report (R97) is made as the service mode
changes, ahead of the rule's last step, and carries the command state FAILED and the attempts as they stood. -/
def LAcc.reviveCar (env : LEnv) (g : Group) (c : Car) (a : LAcc) : LAcc :=
  if c.service = .recallFailed then
    match c.image with
    | some .release => a.replaceCar env c { c with service := .releasing }
    | some .fireOff => a.replaceCar env c { c with service := .fireService }
    | some (.recall l) =>
      if g.active then a.replaceCar env c { c with service := if l = 0 then .hold else .recalling }
      else a.releaseCar env c.number
    | some .fireOn => if g.active then a.recallCar env c.number else a.releaseCar env c.number
    | none => a
  else a

/-- R96: NODE_UP at one car of the group. -/
def LAcc.carUp (env : LEnv) (g : Group) (a : LAcc) (n : Nat) : LAcc :=
  match findCar a.st n with
  | none => a
  | some c =>
    let a := a.reviveCar env g c
    match findCar a.st n with
    | none => a
    | some c' =>
      if c'.image.isSome then a.putCar { c' with attempts := 0, cmdState := .sent, retry := none } else a

/-- R96: NODE_UP for a group's node. -/
def LAcc.nodeUp (env : LEnv) (n : Nat) (a : LAcc) : LAcc :=
  let a := a.modGroup n (fun g => { g with down := false })
  match findGroup a.st n with
  | none => a
  | some g => (carsOf a.st n).foldl (LAcc.carUp env g) a

end Sys2Proof.Machine
end

