-- ==== Sys2Proof/Machine/Frames.lean ====
section
/-!
DEFINITION. The field frames (R192): the content of the frames the part sends, their bytes, and the decoding of the
replies it receives with the checks of R193.
-/

namespace Sys2Proof.Machine

/-! ## Frames sent -/

/-- R192: the code of the frame that carries an image. -/
def imageCode : ImageName → Byte
  | .lockoutMask => 0x04#8
  | .carCommand _ => 0x05#8
  | .outputs => 0x06#8
  | .channel _ => 0x07#8

/-- R192: the code of the frame that carries an action. -/
def actionCode : Action → Byte
  | .resetDetectors _ => 0x02#8
  | .askSnapshot => 0x03#8

/-- R189: the code of a command kind. -/
def commandCode : Command → Byte
  | .recall _ => 0
  | .release => 1
  | .fireOn => 2
  | .fireOff => 3

/-- R192: the landing that goes with a command kind; 0 for the kinds without one. -/
def commandLanding : Command → Nat
  | .recall l => l
  | _ => 0

/-- R189: a programme. -/
def programmeByte : Programme → Byte
  | .message id => byte id
  | .live => 0xFE#8
  | .silence => 0xFF#8

/-- R192: CAR_COMMAND. DESIGN CHOICE (log entry 36): a car that holds no command has its command kind coded absent, with
landing 0. -/
def carCommandPayload (c : Car) : List Byte :=
  match c.image with
  | some cmd => [byte c.place, commandCode cmd, byte (commandLanding cmd)]
  | none => [byte c.place, 0xFF#8, 0x00#8]

/-- R192: one byte of OUTPUTS, from the entries that `p` holds of. -/
def outputByte (p : Drive × Bool → Bool) (outputs : List (Drive × Bool)) : Byte :=
  setWhere 8 8 (fun n =>
    match outputs[n]? with
    | some e => p e
    | none => false)

/-- R192: OUTPUTS. -/
def outputsPayload (m : Module) : List Byte :=
  [outputByte (fun e => e.1 = .release) m.outputs, outputByte (fun e => e.2) m.outputs]

/-- R192: CHANNEL. -/
def channelPayload (n : Nat) (c : Channel) : List Byte :=
  [byte n, programmeByte c.programme, byte c.generation] ++ floorSetBytes c.routing

/-- R149: the content of an image as its owner holds it. -/
def imagePayload (s : State) (port : Line) (address : Nat) : ImageName → List Byte
  | .lockoutMask =>
    match s.lc.groups.find? (fun g => Line.ofGroup g.number = port) with
    | some g => maskBytes g.mask
    | none => maskBytes 0
  | .carCommand n =>
    match findCar s.lc n with
    | some c => carCommandPayload c
    | none => []
  | .outputs =>
    match s.ds.modules.find? (fun m => m.loop = port && m.address = address) with
    | some m => outputsPayload m
    | none => [0, 0]
  | .channel n =>
    match s.ar.channels[n]? with
    | some c => channelPayload n c
    | none => []

/-- R192: the payload of an action's frame. -/
def actionPayload : Action → List Byte
  | .resetDetectors z => [byte z]
  | .askSnapshot => []

/-- R149: the frame of a slot, with the node's sequence bit. -/
def slotFrame (s : State) (n : Node) : Carried → FieldFrame
  | .poll => ⟨n.address, 0x01#8, flagByte n.seqBit, []⟩
  | .action a => ⟨n.address, actionCode a, flagByte n.seqBit, actionPayload a⟩
  | .image i => ⟨n.address, imageCode i, flagByte n.seqBit, imagePayload s n.port n.address i⟩

/-- R192: the bytes of a field frame ahead of its check value. -/
def FieldFrame.head (f : FieldFrame) : List Byte :=
  [byte f.address, f.kind, f.control] ++ leBytes 2 f.payload.length ++ f.payload

/-- R192: the bytes of a field frame. -/
def FieldFrame.bytes (f : FieldFrame) : List Byte := f.head ++ crc16Bytes f.head

/-! ## Replies received -/

/-- R192: what a field reply carries. -/
inductive FieldReply where
  | quiet
  | changes (entries : List (Nat × Input))
  | snapshot (entries : List (Nat × Input))
  | group (echo : LandingMask) (answer : Option AnswerBlock) (entries : List CarEntry)
  | module (sensed : List Sensed)
  | matrix (marks : List Nat)
  deriving DecidableEq, Repr

/-- R193: QUIET. -/
def decodeQuiet : List Byte → Option FieldReply
  | [] => some .quiet
  | _ => none

/-- R192: zone entries in pairs of bytes. DESIGN CHOICE (log entry 37): every input byte above 2 fails, not code 3 alone. -/
def decodePairs : List Byte → Option (List (Nat × Input))
  | [] => some []
  | [_] => none
  | z :: i :: rest =>
    match valueOf inputs i, decodePairs rest with
    | some x, some l => some ((z.toNat, x) :: l)
    | _, _ => none

/-- R193: CHANGES. -/
def decodeChanges : List Byte → Option FieldReply
  | [] => none
  | n :: rest =>
    if 1 ≤ n.toNat ∧ n.toNat ≤ 63 ∧ rest.length = 2 * n.toNat then (decodePairs rest).map .changes else none

/-- R192: code `n` of a payload of four two-bit codes to the byte. -/
def twoBits (payload : List Byte) (n : Nat) : Nat :=
  match payload[n / 4]? with
  | some b => b.toNat / 4 ^ (n % 4) % 4
  | none => 3

/-- R192: the zones that a SNAPSHOT lists, in ascending order; code 3 is a zone the panel does not know. -/
def snapshotEntries (payload : List Byte) : List (Nat × Input) :=
  (List.range 256).filterMap (fun n => (inputs[twoBits payload n]?).map (fun i => (n, i)))

/-- R193: SNAPSHOT. -/
def decodeSnapshot (payload : List Byte) : Option FieldReply :=
  if payload.length = 64 then some (.snapshot (snapshotEntries payload)) else none

/-- R192: the three answers, coded in this order. -/
def groupAnswers : List GroupAnswer := [.accept, .defer, .reject]

/-- R189: the command of a kind code and a landing. -/
def commandOf (kind landing : Byte) : Option Command :=
  if kind = 0 then some (.recall landing.toNat)
  else if kind = 1 then some .release
  else if kind = 2 then some .fireOn
  else if kind = 3 then some .fireOff
  else none

/-- R193: the answer block; the inner `none` is a block whose place is FF. -/
def decodeAnswer (place answer kind landing : Byte) : Option (Option AnswerBlock) :=
  match valueOf groupAnswers answer, commandOf kind landing with
  | some a, some c =>
    if 127 < landing.toNat then none
    else if place = 0xFF#8 then some none
    else if place.toNat ≤ 15 then some (some ⟨place.toNat, a, c⟩)
    else none
  | _, _ => none

/-- R193: one car entry, its packed byte holding direction, door and group-side mode. -/
def decodeEntry (place landing packed : Byte) : Option CarEntry :=
  let p := packed.toNat
  match directions[p % 4]?, carDoors[p / 4 % 4]?, groupModes[p / 16 % 8]? with
  | some d, some o, some m =>
    if place.toNat ≤ 15 ∧ landing.toNat ≤ 127 ∧ p < 128 then some ⟨place.toNat, landing.toNat, d, o, m⟩ else none
  | _, _, _ => none

/-- R192: car entries in threes of bytes. -/
def decodeEntries : List Byte → Option (List CarEntry)
  | [] => some []
  | p :: l :: k :: rest =>
    match decodeEntry p l k, decodeEntries rest with
    | some e, some es => some (e :: es)
    | _, _ => none
  | _ => none

/-- R193: GROUP_STATUS. -/
def decodeGroup (payload : List Byte) : Option FieldReply :=
  match payload.drop 16 with
  | place :: answer :: kind :: landing :: count :: rest =>
    let echo := leNat (payload.take 16)
    match decodeAnswer place answer kind landing, decodeEntries rest with
    | some b, some es =>
      if echo % 2 = 0 ∧ count.toNat ≤ 16 ∧ rest.length = 3 * count.toNat then
        some (.group (BitVec.ofNat 128 echo) b es)
      else none
    | _, _ => none
  | _ => none

/-- R193: MODULE_STATUS. -/
def decodeModule (payload : List Byte) : Option FieldReply :=
  if payload.length = 2 ∧ (List.range 8).all (fun n => twoBits payload n != 3) then
    some (.module ((List.range 8).filterMap (fun n => sensedStates[twoBits payload n]?)))
  else none

/-- R193: MATRIX_STATUS. -/
def decodeMatrix (payload : List Byte) : Option FieldReply :=
  if payload.length = 8 then some (.matrix (payload.map (·.toNat))) else none

/-- R192, R193: the reply of a kind and a payload. -/
def decodeReply (kind : Byte) (payload : List Byte) : Option FieldReply :=
  if kind = 0x41#8 then decodeQuiet payload
  else if kind = 0x42#8 then decodeChanges payload
  else if kind = 0x43#8 then decodeSnapshot payload
  else if kind = 0x44#8 then decodeGroup payload
  else if kind = 0x45#8 then decodeModule payload
  else if kind = 0x46#8 then decodeMatrix payload
  else none

/-- R150: a reply answers the frame that a slot carried, by the node's kind. -/
def answersFrame (port : Line) (c : Carried) : FieldReply → Bool
  | .quiet => port.isPanel && c != .action .askSnapshot
  | .changes _ => port.isPanel && c != .action .askSnapshot
  | .snapshot _ => port.isPanel && c = .action .askSnapshot
  | .group _ _ _ =>
    match port with
    | .g _ => true
    | _ => false
  | .module _ => port.isDoor
  | .matrix _ => port = .a

end Sys2Proof.Machine
end

