-- ==== Sys2Proof/Machine/Announce.lean ====
section
/-!
DEFINITION. The Announcement Router (chapter 06): records, claims and owners, the channel pool and its settlement,
channel images and plays, and the AR's responses to the regime, to the host and to the matrix node. Every operation
changes the AR's own record and lists its effects; `State.liftAr` carries them out.
-/

namespace Sys2Proof.Machine

/-- What the AR reads of the other blocks: the level, the state of each configured floor, and the address of the matrix
node. -/
structure AEnv where
  level : Level
  states : List FloorState
  matrix : Nat

/-- What the AR reads in a given state of the part. -/
def State.aenv (s : State) : AEnv :=
  ⟨s.rc.level, s.rc.floors.map (·.state), (soleAddress s.flc .a).getD 0⟩

/-- The AR in the course of a change. -/
abbrev AAcc := Acc ArCtx

/-- The AR's record changed. -/
def AAcc.ar (f : AR → AR) (a : AAcc) : AAcc := a.upd (fun c => { c with ar := f c.ar })

/-- The scratch record changed. -/
def AAcc.ev (f : Scratch → Scratch) (a : AAcc) : AAcc := a.upd (fun c => { c with ev := f c.ev })

/-- R130: the AR changes claims, records or channels in this event. -/
def AAcc.touch (a : AAcc) : AAcc := a.ev (fun e => { e with arTouched := true })

/-! ## Records -/

/-- The record of an id. -/
def findRec (a : AR) (id : Nat) : Option Rec := a.records.find? (fun r => r.id = id)

/-- One record changed. -/
def AAcc.modRec (id : Nat) (f : Rec → Rec) (a : AAcc) : AAcc :=
  a.ar (fun x => { x with records := mapIf (fun r => r.id = id) f x.records })

/-- R143: the class of an announcement report. -/
def annClass : AnnCause → Cls
  | .noChannel => .trouble
  | _ => .routine

/-- R143: a report of the record of an id as it now stands, with the given floors or else its owned floors. -/
def AAcc.report (cause : AnnCause) (id : Nat) (a : AAcc) (floors : Option FloorSet := none) : AAcc :=
  match findRec a.st.ar id with
  | some r => a.emit (.report (annClass cause) (.announcement cause r (floors.getD r.owned)))
  | none => a

/-- The rank of a class, LIVE highest (R125). -/
def classRank : RecClass → Nat
  | .live => 3
  | .evac => 2
  | .alert => 1
  | .tenant => 0

/-- R125: one record's claim ranks above another's: by class, and within a class the newer above the older. -/
def beats (x y : Rec) : Bool :=
  classRank y.cls < classRank x.cls || (classRank x.cls = classRank y.cls && y.creation < x.creation)

/-- R129: one waiter stands before another: by class, and within a class the older first. -/
def waitsBefore (x y : Rec) : Bool :=
  classRank y.cls < classRank x.cls || (classRank x.cls = classRank y.cls && x.creation < y.creation)

/-- An id put into a list of ids before the first that `before` places after it. -/
def insertId (a : AR) (before : Rec → Rec → Bool) (x : Rec) : List Nat → List Nat
  | [] => [x.id]
  | y :: ys =>
    match findRec a y with
    | some r => if before x r then x.id :: y :: ys else y :: insertId a before x ys
    | none => y :: insertId a before x ys

/-- R124: the floors a record may be heard on. -/
def eligible (env : AEnv) (r : Rec) (f : Nat) : Bool :=
  match env.states[f]? with
  | none => false
  | some st =>
    match r.state with
    | .ended => false
    | _ =>
      match r.requested with
      | some set => hasBit set f && (r.cls != .tenant || decide (env.level = .normal))
      | none =>
        match r.cls with
        | .evac => decide (st = .evac)
        | .alert => decide (st = .alert)
        | _ => false

/-- R132: the generation after one raise; 0 is not given again. -/
def raiseGeneration (g : Nat) : Nat := if 255 ≤ g then 1 else g + 1

/-- R134: the length of a play timer. -/
def playLength (a : AR) (message : Nat) : Nat :=
  match a.library[message]? with
  | some m => if m.inUse then m.length + Config.playMargin else Config.unlistedPlay
  | none => Config.unlistedPlay

/-! ## Channel images -/

/-- R132: a channel changed; a change of what its image carries marks the image dirty. -/
def AAcc.modChannel (env : AEnv) (n : Nat) (f : Channel → Channel) (a : AAcc) : AAcc :=
  match a.st.ar.channels[n]? with
  | none => a
  | some c =>
    let c' := f c
    (a.ar (fun x => { x with channels := x.channels.modify n f })).emitIf
      (c'.routing != c.routing || c'.programme != c.programme || c'.generation != c.generation)
      (.dirty .a env.matrix (.channel n))

/-- R132: the play timer that a channel's programme starts, where the matrix is up. -/
def startedTimer (a : AR) (p : Programme) : Option Nat :=
  match p with
  | .message m => if a.up then some (playLength a m) else none
  | _ => none

/-- R132: a channel released. -/
def releaseChannel (c : Channel) : Channel :=
  { c with holder := none, routing := 0, programme := .silence, playTimer := none }

/-- R132: the programme of a record's channel. -/
def programmeOf (r : Rec) : Programme :=
  match r.message with
  | some m => .message m
  | none => .live

/-- R128, R132: a record is granted a channel. -/
def AAcc.grant (env : AEnv) (id n : Nat) (a : AAcc) : AAcc :=
  match findRec a.st.ar id with
  | none => a
  | some r =>
    ((((a.modChannel env n (fun c =>
        { c with
          holder := some id
          routing := r.owned
          programme := programmeOf r
          generation := raiseGeneration c.generation
          playTimer := startedTimer a.st.ar (programmeOf r) })).modRec id (fun r =>
        { r with channel := some n, state := .playing })).ar (fun x =>
        { x with waitList := x.waitList.erase id })).touch).report .granted id

/-- R132: a record's channel, where it holds one, is released. -/
def AAcc.releaseOf (env : AEnv) (id : Nat) (a : AAcc) : AAcc :=
  match (findRec a.st.ar id).bind (·.channel) with
  | none => a
  | some n => (a.modChannel env n releaseChannel).modRec id (fun r => { r with channel := none })

/-! ## Claims and ownership -/

/-- The claims of one floor. -/
def claimsOf (a : AR) (f : Nat) : Claims := (a.claims[f]?).getD ⟨none, []⟩

/-- The claims of one floor replaced. -/
def AAcc.setClaims (f : Nat) (c : Claims) (a : AAcc) : AAcc :=
  (a.ar (fun x => { x with claims := x.claims.set f c })).touch

/-- Whether a record has a claim on a floor, as owner or on the stack. -/
def Claims.has (c : Claims) (id : Nat) : Bool := c.owner = some id || c.stack.contains id

/-- R123: whether a record has a claim on some claim stack. -/
def onSomeStack (a : AR) (id : Nat) : Bool := a.claims.any (fun c => c.stack.contains id)

/-- R123, R129: a record enters WAITING and the wait list. -/
def AAcc.enterWaiting (id : Nat) (a : AAcc) : AAcc :=
  let b := a.modRec id (fun r => { r with state := .waiting })
  match findRec b.st.ar id with
  | none => b
  | some r =>
    (b.ar (fun x => { x with waitList := insertId x waitsBefore r x.waitList })).ev
      (fun e => { e with evacWaited := e.evacWaited || decide (r.cls = .evac) })

/-- R123: a record adds a floor to its owned floors; with its first floor a SUSPENDED record enters WAITING. The first
such move of a record made in the same event is not reported (R143). -/
def AAcc.gain (id f : Nat) (a : AAcc) : AAcc :=
  match findRec a.st.ar id with
  | none => a
  | some r =>
    let b := a.modRec id (fun r => { r with owned := addBit r.owned f })
    if r.owned = 0 && r.state = .suspended then
      if b.st.ev.made.contains id then
        (b.enterWaiting id).ev (fun e => { e with made := e.made.erase id })
      else (b.enterWaiting id).report .claimed id
    else b

/-- R126: the first eligible entry of a floor's stack becomes its owner; ineligible entries above it are discarded. -/
def AAcc.promote (env : AEnv) (f : Nat) (a : AAcc) : AAcc :=
  let rest := (claimsOf a.st.ar f).stack.dropWhile (fun id =>
    match findRec a.st.ar id with
    | some r => !eligible env r f
    | none => true)
  match rest with
  | [] => a.setClaims f ⟨none, []⟩
  | id :: ids => (a.setClaims f ⟨some id, ids⟩).gain id f

/-- R122 step 1 on one floor: the ended record's claim goes, and an owned floor passes on. -/
def AAcc.endClaimOfEnded (env : AEnv) (id : Nat) (a : AAcc) (f : Nat) : AAcc :=
  let c := claimsOf a.st.ar f
  if c.owner = some id then (a.setClaims f ⟨none, c.stack⟩).promote env f
  else if c.stack.contains id then a.setClaims f ⟨c.owner, c.stack.erase id⟩
  else a

/-- R125, R143: the FLOORS_DISPLACED report of one record, once per event. -/
def AAcc.flushDisplaced (id : Nat) (a : AAcc) : AAcc :=
  match a.st.ev.displaced.find? (fun d => d.1 = id) with
  | none => a
  | some d =>
    (a.report .floorsDisplaced id (some d.2)).ev
      (fun e => { e with displaced := e.displaced.filter (fun x => x.1 != id) })

/-- R122: a record is ended: its claims, its wait list entry and its channel go, it is reported and its slot freed. -/
def AAcc.endRecord (env : AEnv) (cause : AnnCause) (id : Nat) (a : AAcc) : AAcc :=
  match findRec a.st.ar id with
  | none => a
  | some _ =>
    let a := a.flushDisplaced id
    let a := a.modRec id (fun r => { r with state := .ended, owned := 0 })
    let a := (List.range a.st.ar.claims.length).foldl (AAcc.endClaimOfEnded env id) a
    let a := a.ar (fun x => { x with waitList := x.waitList.erase id })
    let a := a.releaseOf env id
    let a := a.report cause id
    let a := a.ev (fun e => { e with made := e.made.erase id })
    (a.ar (fun x => { x with records := x.records.filter (fun r => r.id != id) })).touch

/-- R123: a record moved to SUSPENDED leaves the wait list. DESIGN CHOICE (log entry 33): its report (R143) gives the channel
that it holds until the settlement (R130). -/
def AAcc.suspend (id : Nat) (a : AAcc) : AAcc :=
  ((a.modRec id (fun r => { r with state := .suspended })).ar
    (fun x => { x with waitList := x.waitList.erase id })).report .suspended id

/-- R123: a record loses an owned floor, and moves by the table where it was the last. -/
def AAcc.lose (env : AEnv) (id f : Nat) (a : AAcc) : AAcc :=
  let b := a.modRec id (fun r => { r with owned := dropBit r.owned f })
  match findRec b.st.ar id with
  | none => b
  | some r =>
    if r.owned != 0 then b
    else
      match r.state with
      | .waiting | .playing =>
        match r.source with
        | .system => b.suspend id
        | .requested => if onSomeStack b.st.ar id then b.suspend id else b.endRecord env .displaced id
      | .ending => b.endRecord env .cancelled id
      | _ => b

/-- R125: the lowest claim of a full stack is dropped. -/
def AAcc.dropClaim (env : AEnv) (f id : Nat) (a : AAcc) : AAcc :=
  let b := (a.modRec id (fun r => { r with requested := r.requested.map (dropBit · f) })).ev (fun e =>
    { e with displaced :=
        if e.displaced.any (fun d => d.1 = id) then
          mapIf (fun d => d.1 = id) (fun d => (d.1, addBit d.2 f)) e.displaced
        else e.displaced ++ [(id, addBit 0 f)] })
  match findRec b.st.ar id with
  | none => b
  | some r =>
    if r.source = .requested && r.owned = 0 && !onSomeStack b.st.ar id then b.endRecord env .displaced id else b

/-- R125: a record claims a floor. -/
def AAcc.claimFloor (env : AEnv) (id : Nat) (a : AAcc) (f : Nat) : AAcc :=
  match findRec a.st.ar id with
  | none => a
  | some x =>
    let c := claimsOf a.st.ar f
    let cut (b : AAcc) (full : List Nat) : AAcc :=
      if Config.stackCap < full.length then
        match full.getLast? with
        | some low => b.dropClaim env f low
        | none => b
      else b
    match c.owner with
    | none => (a.setClaims f ⟨some id, c.stack⟩).gain id f
    | some old =>
      match findRec a.st.ar old with
      | none => (a.setClaims f ⟨some id, c.stack⟩).gain id f
      | some o =>
        if beats x o then
          let full := insertId a.st.ar beats o c.stack
          cut (((a.setClaims f ⟨some id, full.take Config.stackCap⟩).lose env old f).gain id f) full
        else
          let full := insertId a.st.ar beats x c.stack
          cut (a.setClaims f ⟨c.owner, full.take Config.stackCap⟩) full

/-- R126: a record's claim on one floor ends because the record has ceased to be eligible for it. -/
def AAcc.endClaim (env : AEnv) (f : Nat) (a : AAcc) (id : Nat) : AAcc :=
  let c := claimsOf a.st.ar f
  if c.owner = some id then
    ((a.setClaims f ⟨none, c.stack⟩).lose env id f).promote env f
  else a.setClaims f ⟨c.owner, c.stack.erase id⟩

/-- R127: one floor is tested: claims of records no longer eligible end, then records newly eligible claim it, highest
rank first. -/
def AAcc.testFloor (env : AEnv) (a : AAcc) (f : Nat) : AAcc :=
  let c := claimsOf a.st.ar f
  let gone := (c.owner.toList ++ c.stack).filter (fun id =>
    match findRec a.st.ar id with
    | some r => !eligible env r f
    | none => true)
  let a := gone.foldl (AAcc.endClaim env f) a
  let fresh := a.st.ar.records.filter (fun r => eligible env r f && !(claimsOf a.st.ar f).has r.id)
  let order := fresh.foldl (fun acc r => insertId a.st.ar beats r acc) []
  order.foldl (fun b id => AAcc.claimFloor env id b f) a

/-! ## Making a record -/

/-- R122: the first id at or after the counter that no record has. -/
def freshId (a : AR) : Nat → Nat → Nat
  | 0, id => id
  | fuel + 1, id => if (findRec a id).isSome then freshId a fuel (if 255 ≤ id then 1 else id + 1) else id

/-- R122: the creation numbers of the table renumbered 1, 2 and so on, in their order. DESIGN CHOICE (log entry 41): with an
empty table the counter is set to 0. -/
def renumber (a : AR) : AR :=
  let order := (sortBy (fun r => r.creation) a.records).map (·.id)
  { a with
    records := a.records.map (fun r => { r with creation := (positionOf r.id order).getD r.creation })
    creation := a.records.length }

/-- R122: the creation counter raised by one, after a renumbering where it stands at its end. -/
def nextCreation (a : AR) : AR :=
  let b := if a.creation + 1 < 2 ^ 32 then a else renumber a
  { b with creation := b.creation + 1 }

/-- R122: the lowest free slot. -/
def freeSlot (a : AR) : Option Nat :=
  leastOf ((List.range Config.recordSlots).filter (fun n => !a.records.any (fun r => r.slot = n)))

/-- R122, R127: a record is made in the lowest free slot, reported, and claims the floors it is eligible for in
ascending order. -/
def AAcc.make (env : AEnv) (cls : RecClass) (source : RecSource) (message : Option Nat) (repeats : Nat)
    (requested : Option FloorSet) (a : AAcc) : AAcc :=
  match freeSlot a.st.ar with
  | none => a
  | some slot =>
    let id := freshId a.st.ar 256 a.st.ar.nextId
    let a := a.ar nextCreation
    let r : Rec := ⟨slot, id, a.st.ar.creation, cls, source, message, repeats, 0, requested, 0, none, .suspended⟩
    let a := a.ar (fun x =>
      { x with
        records := insertBy (fun r => r.slot) r x.records
        nextId := if 255 ≤ id then 1 else id + 1 })
    let a := ((a.ev (fun e => { e with made := id :: e.made })).touch).report .created id
    ((List.range env.states.length).filter (eligible env r)).foldl (AAcc.claimFloor env id) a

/-! ## The pool -/

/-- R128: the free channels, lowest first. -/
def freeChannels (a : AR) : List Nat :=
  (List.range a.channels.length).filter (fun n =>
    match a.channels[n]? with
    | some c => c.holder.isNone
    | none => false)

/-- R131: the victim of a preemption, if one stands. -/
def victim (a : AR) : Option Rec :=
  let holding := a.records.filter (fun r => r.channel.isSome)
  let oldest (l : List Rec) : Option Rec := (sortBy (fun r => r.creation) l).head?
  match oldest (holding.filter (fun r => r.cls = .tenant && (r.state = .playing || r.state = .ending))) with
  | some r => some r
  | none => oldest (holding.filter (fun r => r.cls = .alert && r.state = .playing))

/-- R131: a PLAYING victim gives its channel up and joins the wait list. -/
def AAcc.yieldChannel (env : AEnv) (id : Nat) (a : AAcc) : AAcc :=
  ((a.releaseOf env id).enterWaiting id).report .preempted id

/-- R130 step 3 for one waiter: a grant by R128, or a preemption by R131. -/
def AAcc.serve (env : AEnv) (id : Nat) (a : AAcc) : AAcc :=
  match findRec a.st.ar id with
  | none => a
  | some r =>
    let free := freeChannels a.st.ar
    match r.cls with
    | .tenant =>
      match free with
      | n :: _ => if a.st.ar.reserve < free.length then a.grant env id n else a
      | [] => a
    | _ =>
      match free with
      | n :: _ => a.grant env id n
      | [] =>
        if r.cls = .alert then a
        else
          match victim a.st.ar with
          | none => a
          | some v =>
            match v.channel with
            | none => a
            | some n =>
              if v.state = .ending then (a.endRecord env .cancelled v.id).grant env id n
              else (a.yieldChannel env v.id).grant env id n

/-- R130 step 3: the wait list taken in order; a waiter met once is not met again, and a victim that joins behind is
met later. -/
def AAcc.servePass (env : AEnv) : Nat → List Nat → AAcc → AAcc
  | 0, _, a => a
  | fuel + 1, met, a =>
    match a.st.ar.waitList.find? (fun id => !met.contains id) with
    | none => a
    | some id => AAcc.servePass env fuel (id :: met) (a.serve env id)

/-- R130 step 1: channels of records that own no floor, or that play no more, are released. -/
def AAcc.releaseIdle (env : AEnv) (a : AAcc) : AAcc :=
  (a.st.ar.records.filter (fun r => r.channel.isSome &&
    (r.owned = 0 || !(r.state = .playing || r.state = .ending)))).foldl (fun b r => b.releaseOf env r.id) a

/-- R130 step 2: every held channel's routing is its holder's owned floor set. -/
def AAcc.routeHeld (env : AEnv) (a : AAcc) : AAcc :=
  (a.st.ar.records.filter (fun r => r.channel.isSome)).foldl (fun b r =>
    match r.channel with
    | some n => b.modChannel env n (fun c => { c with routing := r.owned })
    | none => b) a

/-- R130: the system EVAC record entered WAITING in this event and waits still. -/
def AAcc.reportNoChannel (a : AAcc) : AAcc :=
  if a.st.ev.evacWaited then
    match a.st.ar.records.find? (fun r => r.cls = .evac && r.state = .waiting) with
    | some r => a.report .noChannel r.id
    | none => a
  else a

/-- R125, R143: the FLOORS_DISPLACED reports that the event still owes. -/
def AAcc.flushAllDisplaced (a : AAcc) : AAcc :=
  (a.st.ev.displaced.map (·.1)).foldl (fun b id => b.flushDisplaced id) a

/-- R130: the settlement of the pool. Step 2 is made again at the end, so that floors that passed on when an ENDING
victim ended in step 3 are routed (R132). -/
def AAcc.settle (env : AEnv) (a : AAcc) : AAcc :=
  let a := a.flushAllDisplaced
  let a := (a.releaseIdle env).routeHeld env
  ((AAcc.servePass env 64 [] a).routeHeld env).reportNoChannel

/-! ## Plays -/

/-- R133: a play is counted on a channel. -/
def AAcc.countPlay (env : AEnv) (n : Nat) (a : AAcc) : AAcc :=
  match (a.st.ar.channels[n]?).bind (·.holder) with
  | none => a
  | some id =>
    let a := a.modRec id (fun r => { r with plays := min 255 (r.plays + 1) })
    let a := a.modChannel env n (fun c => { c with playTimer := none })
    match findRec a.st.ar id with
    | none => a
    | some r =>
      if r.state = .ending then a.endRecord env .cancelled id
      else if r.repeats = 0 || r.plays < r.repeats then
        a.modChannel env n (fun c =>
          { c with
            generation := raiseGeneration c.generation
            playTimer := startedTimer a.st.ar c.programme })
      else a.endRecord env .completed id

/-- R133: whether a carried mark counts a play on a channel. -/
def markCounts (a : AR) (c : Channel) (mark : Nat) : Bool :=
  a.up && c.lastSeen != some mark && mark = c.generation && c.holder.isSome &&
    (match c.programme with
      | .message _ => true
      | _ => false)

/-- R133: the completion mark of one channel. -/
def AAcc.takeMark (env : AEnv) (a : AAcc) (nm : Nat × Nat) : AAcc :=
  match a.st.ar.channels[nm.1]? with
  | none => a
  | some c =>
    let b := a.ar (fun x => { x with channels := x.channels.modify nm.1 (fun c => { c with lastSeen := some nm.2 }) })
    if markCounts a.st.ar c nm.2 then b.countPlay env nm.1 else b

/-- R133: the marks of a valid reply, in ascending channel order; those of channels not fitted are not read. -/
def AAcc.takeMarks (env : AEnv) (marks : List Nat) (a : AAcc) : AAcc :=
  (indexedFrom 0 marks).foldl (AAcc.takeMark env) a

/-- R134: the expiry of a channel's play timer, due when it has come down to 0 (log entry 4). -/
def AAcc.overrun (env : AEnv) (n : Nat) (a : AAcc) : AAcc :=
  match a.st.ar.channels[n]? with
  | none => a
  | some c =>
    match c.playTimer, c.holder with
    | some 0, some id => (a.report .playOverrun id).countPlay env n
    | _, _ => a

/-! ## Responses -/

/-- R127: the admission of a floor. -/
def AAcc.floorAdmitted (env : AEnv) (f : Nat) (a : AAcc) : AAcc := a.testFloor env f

/-- The ids of the records that satisfy `p`, in ascending slot order. -/
def idsWhere (a : AR) (p : Rec → Bool) : List Nat := (a.records.filter p).map (·.id)

/-- R121, R124: the ALL_CLEAR record: of class ALERT with a requested floor set. -/
def Rec.isAllClear (r : Rec) : Bool := r.cls = .alert && r.requested.isSome

/-- R137: the response to regime entry, after every floor has gone to ALERT. In FALLBACK no ALERT message is named and
the ALERT record is not made (R145). -/
def AAcc.regimeEntered (env : AEnv) (a : AAcc) : AAcc :=
  let a := (idsWhere a.st.ar (fun r => r.cls = .tenant)).foldl (fun b id => b.endRecord env .cancelled id) a
  let a := (idsWhere a.st.ar Rec.isAllClear).foldl (fun b id => b.endRecord env .cancelled id) a
  let a := a.make env .evac .system (some a.st.ar.evacMsg) 0 none
  match a.st.ar.alertMsg with
  | some m => a.make env .alert .system (some m) 0 none
  | none => a

/-- R138: the response to reset completion, after every floor has gone to QUIET. -/
def AAcc.regimeEnded (env : AEnv) (a : AAcc) : AAcc :=
  let a := (idsWhere a.st.ar (fun r => r.cls = .evac)).foldl (fun b id => b.endRecord env .regimeEnded id) a
  let a := (idsWhere a.st.ar (fun r => r.cls = .alert && r.requested.isNone)).foldl
    (fun b id => b.endRecord env .regimeEnded id) a
  match a.st.ar.allClearMsg with
  | some m => a.make env .alert .system (some m) 1 (some (setWhere 64 env.states.length (fun _ => true)))
  | none => a

/-- R142: NODE_DOWN for the matrix node. -/
def AAcc.matrixDown (a : AAcc) : AAcc :=
  (a.ar (fun x => { x with up := false, channels := x.channels.map (fun c => { c with playTimer := none }) })).emit
    (.report .trouble (.matrixDown (a.st.ar.records.filter (fun r => r.channel.isSome)).length))

/-- R142: NODE_UP for the matrix node: every held message channel starts its message afresh. -/
def AAcc.matrixUp (env : AEnv) (a : AAcc) : AAcc :=
  let a := a.ar (fun x => { x with up := true })
  (List.range a.st.ar.channels.length).foldl (fun b n =>
    b.modChannel env n (fun c =>
      match c.holder, c.programme with
      | some _, .message m =>
        { c with generation := raiseGeneration c.generation, playTimer := some (playLength b.st.ar m) }
      | _, _ => c)) a

/-- R136: CANCEL_ANNOUNCEMENT of a TENANT record. -/
def AAcc.cancelTenant (env : AEnv) (id : Nat) (a : AAcc) : AAcc :=
  match findRec a.st.ar id with
  | none => a
  | some r =>
    match r.state with
    | .playing => ((a.modRec id (fun r => { r with state := .ending })).touch).report .cancelRequested id
    | .waiting | .suspended => a.endRecord env .cancelled id
    | _ => a

/-- R139: the LIVE record, where one is in the table. -/
def liveRec (a : AR) : Option Rec := a.records.find? (fun r => r.cls = .live)

/-- R139: the oldest TENANT record. -/
def oldestTenant (a : AR) : Option Rec :=
  (sortBy (fun r => r.creation) (a.records.filter (fun r => r.cls = .tenant))).head?

/-- R139: the LIVE record made, the oldest TENANT record ended first where every slot is occupied. -/
def AAcc.beginLive (env : AEnv) (floors : FloorSet) (a : AAcc) : AAcc :=
  let a := match freeSlot a.st.ar, oldestTenant a.st.ar with
    | none, some t => a.endRecord env .displaced t.id
    | _, _ => a
  a.make env .live .requested none 0 (some floors)

/-- R141: the LIVE record ended. -/
def AAcc.endLive (env : AEnv) (a : AAcc) : AAcc :=
  match liveRec a.st.ar with
  | some r => a.endRecord env .liveEnded r.id
  | none => a

end Sys2Proof.Machine
end

