-- ==== Sys2Proof/Machine/Doors.lean ====
section
/-!
DEFINITION. The Door Supervisor (chapter 05): required states, drive and confirmation, held-open supervision, release in
GENERAL, manual release, module loss and return. Every operation changes the DS's own record and lists its effects;
`State.liftDs` carries them out.
-/

namespace Sys2Proof.Machine

/-- What the DS reads of the Regime Core: the level and the floor table. -/
structure DEnv where
  level : Level
  floors : List Floor

/-- What the DS reads in a given state of the part. -/
def State.denv (s : State) : DEnv := ⟨s.rc.level, s.rc.floors⟩

/-- The DS in the course of a change. -/
abbrev DAcc := Acc DS

/-- The DS's record changed. -/
def DAcc.ds (f : DS → DS) (a : DAcc) : DAcc := Acc.upd f a

/-- One effect more. -/
def DAcc.tell (e : Eff) (a : DAcc) : DAcc := Acc.emit e a

/-- One effect more, where `b` holds. -/
def DAcc.tellIf (b : Bool) (e : Eff) (a : DAcc) : DAcc := Acc.emitIf b e a

/-- The points that satisfy `p` changed by `f`. -/
def DS.modDoors (p : Door → Bool) (f : Door → Door) (x : DS) : DS := { x with doors := mapIf p f x.doors }

/-- The record of one module changed by `f`. -/
def DS.modModule (loop : Line) (address : Nat) (f : Module → Module) (x : DS) : DS :=
  { x with modules := mapIf (fun m => m.loop = loop && m.address = address) f x.modules }

/-! ## Required state -/

/-- R114: a pair of floor and stair is in the manual release set. -/
def inManual (manual : List FloorSet) (floor stair : Nat) : Bool :=
  match manual[stair]? with
  | some set => hasBit set floor
  | none => false

/-- R103, R189: the reasons that hold for a point: GENERAL bit 0, RE_ENTRY bit 1, EVAC bit 2, MANUAL bit 3. A floor with
no record counts as QUIET without the re-entry flag (R101). -/
def doorReasons (env : DEnv) (manual : List FloorSet) (d : Door) : QuadSet :=
  let fl := env.floors[d.floor]?
  let re := (fl.map (·.reEntry)).getD false
  let ev := decide ((fl.map (·.state)) = some .evac)
  setWhere 4 4 (fun n =>
    match n with
    | 0 => decide (env.level = .general)
    | 1 => decide (env.level = .phased) && re
    | 2 => ev
    | _ => inManual manual d.floor d.stair)

/-- R103: the required state of a point. -/
def requiredDrive (env : DEnv) (manual : List FloorSet) (d : Door) : Drive :=
  if doorReasons env manual d = 0 then normalDrive d.normal else .release

/-! ## One point changed -/

/-- R117: a report of a point as it now stands. -/
def doorReport (env : DEnv) (cause : DoorCause) (d : Door) : Eff :=
  .report (match cause with
    | .dwellExpired | .heldOpen => .trouble
    | _ => .routine) (.door cause d (labelOf env.floors d.floor))

/-- R101: a module's output image brought to what its points hold; a change marks the image dirty. -/
def DAcc.syncModule (loop : Line) (address : Nat) (a : DAcc) : DAcc :=
  let img := outputImage a.st.doors loop address
  if a.st.modules.any (fun m => m.loop = loop && m.address = address && m.outputs != img) then
    (a.ds (DS.modModule loop address (fun m => { m with outputs := img }))).tell (.dirty loop address .outputs)
  else a

/-- One point replaced, its module's image following (R101). -/
def DAcc.put (d : Door) (a : DAcc) : DAcc :=
  (a.ds (DS.modDoors (fun e => e.index = d.index) (fun _ => d))).syncModule d.loop d.address

/-- R105: what becomes of a point whose latch is changed. -/
def redriven (dwell : Nat) (goal : Drive) (d : Door) : Door :=
  if d.supervised && d.cond != .unknown then { d with drive := goal, cond := .pending, dwell := some dwell }
  else { d with drive := goal }

/-- R104, R105: a point's latch set to a state it does not hold, with the report of a point that leaves FAULT or
HELD_OPEN and the fall of the door point count. -/
def DAcc.setDrive (env : DEnv) (goal : Drive) (a : DAcc) (d : Door) : DAcc :=
  if d.drive = goal then a
  else
    let d' := redriven a.st.dwell goal d
    let left := d.supervised && (d.cond = .fault || d.cond = .heldOpen)
    ((a.put d').tellIf left (doorReport env .redriven d')).tellIf (d.supervised && d.cond = .fault)
      (.trouble .doors false)

/-- R104: the points that satisfy `p` recomputed. DESIGN CHOICE (log entry 32): they are taken in ascending index order, at
regime entry (R10), at an admission (R6), at a manual release (R114) and at reset completion (R112). -/
def DAcc.recompute (env : DEnv) (p : Door → Bool) (a : DAcc) : DAcc :=
  (a.st.doors.filter p).foldl (fun b d => b.setDrive env (requiredDrive env b.st.manual d) d) a

/-! ## Replies of a module (R106) -/

/-- R107, R110: the agreement test of a supervised point, and what becomes of a point in HELD_OPEN seen closed. -/
def afterAgreement (dwell : Nat) (d : Door) : Door :=
  match d.cond with
  | .pending => if agrees d.drive d.sensed then { d with cond := .normal, dwell := none } else d
  | .fault => if agrees d.drive d.sensed then { d with cond := .normal } else d
  | .heldOpen =>
    if d.sensed = .secure || d.sensed = .unsecure then
      if agrees d.drive d.sensed then { d with cond := .normal } else { d with cond := .pending, dwell := some dwell }
    else d
  | _ => d

/-- R110: the held-open timer of a supervised point after a reply. -/
def afterHeldOpen (level : Level) (limit : Nat) (d : Door) : Door :=
  match d.sensed with
  | .isOpen =>
    if d.heldOpen.isNone && d.cond != .heldOpen && level != .normal then { d with heldOpen := some limit } else d
  | .secure | .unsecure => { d with heldOpen := none }
  | .unknown => d

/-- R106: the tests of one point after its sensed state was written. -/
def DAcc.testPoint (env : DEnv) (a : DAcc) (d : Door) : DAcc :=
  if d.supervised then
    let d' := afterHeldOpen env.level a.st.heldOpenLimit (afterAgreement a.st.dwell d)
    let agreed := d.cond = .fault && d'.cond = .normal
    let closed := d.cond = .heldOpen && d'.cond != .heldOpen
    (((a.put d').tellIf agreed (doorReport env .agreed d')).tellIf agreed (.trouble .doors false)).tellIf closed
      (doorReport env .closed d')
  else a

/-- R106: the sensed states of a reply written into the points of the module. -/
def writeSensed (loop : Line) (address : Nat) (sensed : List Sensed) (doors : List Door) : List Door :=
  mapIf (fun d => d.onModule loop address) (fun d => { d with sensed := (sensed[d.point]?).getD d.sensed }) doors

/-- The configured points of a module, in ascending point order. -/
def pointsOf (doors : List Door) (loop : Line) (address : Nat) : List Door :=
  sortBy (fun d => d.point) (doors.filter (fun d => d.onModule loop address))

/-- R106, R109: a valid reply of a module; `answered` says that it answers a frame carrying the output image. DEDUCED (log
entry 32): the replies of a module in TRAINING are taken too, as R106 and R151 say, where the worked sequence of chapter 05
shows sensed UNKNOWN up to NODE_UP. -/
def DAcc.moduleReply (env : DEnv) (loop : Line) (address : Nat) (sensed : List Sensed) (answered : Bool)
    (a : DAcc) : DAcc :=
  let a := a.ds (fun x => { x with doors := writeSensed loop address sensed x.doors })
  let a := (pointsOf a.st.doors loop address).foldl (DAcc.testPoint env) a
  if answered then
    a.ds (DS.modDoors (fun d => d.onModule loop address && !d.supervised && d.cond = .unknown)
      (fun d => { d with cond := .normal }))
  else a

/-! ## Timers -/

/-- R108: the expiry of a PENDING point's dwell, due when it has come down to 0 (log entry 4). -/
def DAcc.dwellExpired (env : DEnv) (index : Nat) (a : DAcc) : DAcc :=
  match a.st.doors.find? (fun d => d.index = index) with
  | none => a
  | some d =>
    if d.cond = .pending && d.dwell = some 0 then
      let d' := { d with cond := .fault, dwell := none }
      ((a.put d').tell (doorReport env .dwellExpired d')).tell (.trouble .doors true)
    else a

/-- R111: the expiry of a point's held-open timer, due when it has come down to 0 (log entry 4). DESIGN CHOICE (log entry
32): a point in UNKNOWN, whose timer a reply in TRAINING may have started, stays so without report, and the timer is gone. -/
def DAcc.heldOpenExpired (env : DEnv) (index : Nat) (a : DAcc) : DAcc :=
  match a.st.doors.find? (fun d => d.index = index) with
  | none => a
  | some d =>
    if d.heldOpen = some 0 then
      if d.cond = .normal then
        let d' := { d with cond := .heldOpen, heldOpen := none }
        (a.put d').tell (doorReport env .heldOpen d')
      else a.put { d with heldOpen := none }
    else a

/-! ## The regime -/

/-- R104, R110: the response to regime entry. -/
def DAcc.regimeEntered (env : DEnv) (a : DAcc) : DAcc :=
  let a := a.recompute env (fun _ => true)
  a.ds (DS.modDoors (fun d => d.supervised && d.sensed = .isOpen)
    (fun d => { d with heldOpen := some a.st.heldOpenLimit }))

/-- R112: held-open supervision ended on one point. -/
def DAcc.endHeldOpen (env : DEnv) (a : DAcc) (d : Door) : DAcc :=
  if d.cond = .heldOpen then
    let d' := { d with cond := .normal, heldOpen := none }
    (a.put d').tell (doorReport env .regimeNormal d')
  else if d.heldOpen.isSome then a.put { d with heldOpen := none }
  else a

/-- R112, R104: the response to reset completion. DESIGN CHOICE (log entry 32): the points are taken in ascending index
order. -/
def DAcc.regimeEnded (env : DEnv) (a : DAcc) : DAcc :=
  (a.st.doors.foldl (DAcc.endHeldOpen env) a).recompute env (fun _ => true)

/-- R104: the response to an admission. -/
def DAcc.floorAdmitted (env : DEnv) (f : Nat) (a : DAcc) : DAcc := a.recompute env (fun d => d.floor = f)

/-- R113: GENERAL entry: RELEASE_ALL on both loops, every latch to RELEASE, every output image dirty. DESIGN CHOICE (log
entry 32): the points are taken in ascending index order. -/
def DAcc.generalEntered (env : DEnv) (a : DAcc) : DAcc :=
  let a := (a.tell (.broadcast (.d 0))).tell (.broadcast (.d 1))
  let a := a.st.doors.foldl (fun b d => b.setDrive env .release d) a
  a.st.modules.foldl (fun b m => b.tell (.dirty m.loop m.address .outputs)) a

/-! ## Manual release -/

/-- R114: the manual release set after the pairs of a floor set and a stair set are added (`add`) or removed. -/
def changeManual (add : Bool) (floors : FloorSet) (stairs : QuadSet) (manual : List FloorSet) : List FloorSet :=
  (indexedFrom 0 manual).map (fun e =>
    if hasBit stairs e.1 then (if add then e.2 ||| floors else e.2 &&& ~~~floors) else e.2)

/-- R114: RELEASE_DOORS (`add`) or RESTORE_DOORS over a floor set and a stair set; the points of the pairs added or
removed are recomputed. -/
def DAcc.manualChange (env : DEnv) (add : Bool) (floors : FloorSet) (stairs : QuadSet) (a : DAcc) : DAcc :=
  let before := a.st.manual
  let a := a.ds (fun x => { x with manual := changeManual add floors stairs x.manual })
  a.recompute env (fun d => inManual before d.floor d.stair != inManual a.st.manual d.floor d.stair)

/-! ## Module loss and return -/

/-- R115: NODE_DOWN for a module's node. Of a module that is down already, as at a fall from TRAINING or a warm restart of a
LOST module, no point changes and the module's report is queued again. DESIGN CHOICE (log entry 33): the points made UNKNOWN
(R117) are those whose condition was another one. -/
def DAcc.moduleDown (loop : Line) (address : Nat) (a : DAcc) : DAcc :=
  let wasUp := a.st.modules.any (fun m => m.loop = loop && m.address = address && m.up)
  let points := if wasUp then a.st.doors.filter (fun d => d.onModule loop address) else []
  let faults := (points.filter (fun d => d.cond = .fault)).length
  let made := (points.filter (fun d => d.cond != .unknown)).length
  let a := (a.ds (DS.modModule loop address (fun m => { m with up := false }))).ds
    (DS.modDoors (fun d => wasUp && d.onModule loop address)
      (fun d => { d with sensed := .unknown, cond := .unknown, dwell := none, heldOpen := none }))
  (List.range faults).foldl (fun b _ => b.tell (.trouble .doors false))
    (a.tell (.report .trouble (.moduleDown loop address made faults)))

/-- R116: NODE_UP for a module's node. A point that stands in FAULT leaves it with the fall of R18. -/
def DAcc.moduleUp (loop : Line) (address : Nat) (a : DAcc) : DAcc :=
  let faults := (a.st.doors.filter (fun d => d.onModule loop address && d.supervised && d.cond = .fault)).length
  let dwell := a.st.dwell
  let a := (a.ds (DS.modModule loop address (fun m => { m with up := true }))).ds
    (DS.modDoors (fun d => d.onModule loop address) (fun d =>
      if d.supervised then { d with enable := true, cond := .pending, dwell := some dwell }
      else { d with enable := true }))
  (List.range faults).foldl (fun b _ => b.tell (.trouble .doors false)) (a.syncModule loop address)

end Sys2Proof.Machine
end

