-- ==== Sys2Proof/Machine/Floors.lean ====
section
/-!
DEFINITION. The floor table (chapter 01): admissions (R6) with the responses of the Door Supervisor and the Announcement
Router, and the lockout flag with the response of the Lift Coordinator (R5).
-/

namespace Sys2Proof.Machine

/-- One floor record changed. -/
def RC.modFloor (f : Nat) (g : Floor → Floor) (r : RC) : RC := { r with floors := r.floors.modify f g }

/-- R4, R5: a FLOOR_EVENT of a floor as it now stands. DESIGN CHOICE (log entry 33): the event of a lockout flag carries the
admission that stands too. -/
def reportFloor (cls : Cls) (cause : FloorCause) (f : Nat) (s : State) : State :=
  match s.rc.floors[f]? with
  | some fl => offer cls (.floor cause f fl) s
  | none => s

/-- The state of a configured floor. -/
def floorState (s : State) (f : Nat) : Option FloorState := (s.rc.floors[f]?).map (·.state)

/-- R6: the floor record of an admitted floor. -/
def admittedFloor (kind : AdmKind) (shares : Option (List (Nat × Nat))) (time : Seconds) (fl : Floor) : Floor :=
  { fl with state := .evac, admission := some ⟨kind, shares, time⟩ }

/-- R6: an admission handed to the RC. A floor that is not in ALERT is refused and nothing changes. Otherwise the floor
enters EVAC with its admission record, is reported where `told` (R4), and the DS and then the AR respond. DESIGN CHOICE (log
entry 30): these responses, with their reports, come before the ES's additions and STAIR_EVENTs for the floor (R59). -/
def admitFloor (kind : AdmKind) (shares : Option (List (Nat × Nat))) (told : Bool) (f : Nat) (s : State) : State :=
  if floorState s f = some .alert then
    let s := s.modRc (fun r => r.modFloor f (admittedFloor kind shares r.secondCount))
    let s := if told then reportFloor .alarm .admitted f s else s
    let s := s.liftDs (DAcc.floorAdmitted s.denv f)
    s.liftAr (AAcc.floorAdmitted s.aenv f)
  else s

/-- R5: the alarm count of a floor changed, its lockout flag following. A change of the flag is handed to the LC and
reported. -/
def moveAlarmCount (change : Nat → Nat) (f : Nat) (s : State) : State :=
  match s.rc.floors[f]? with
  | none => s
  | some fl =>
    let n := change fl.alarmCount
    let s := s.modRc (fun r => r.modFloor f (fun x => { x with alarmCount := n, lockout := decide (0 < n) }))
    if fl.lockout = decide (0 < n) then s
    else
      let s := s.liftLc (LAcc.lockoutChange s.lenv f)
      reportFloor .routine .lockout f s

end Sys2Proof.Machine
end

