-- ==== Sys2Proof/Machine/Egress.lean ====
section
/-!
DEFINITION. The Egress Scheduler (chapter 03): the pending evacuation list, shares, the admission step, drains,
congestion, admission attempts, the advance timer and compromise.
-/

namespace Sys2Proof.Machine

/-! ## Shares (R55–R58) -/

/-- R49, R55: a stair that may receive: fitted and not compromised. -/
def usable (stairs : List Stair) (i : Nat) : Bool :=
  match stairs[i]? with
  | some st => st.fitted && !st.compromised
  | none => false

/-- R55: the fitted stair that is not compromised with the lowest load, the lowest index among equal loads. -/
def leastLoaded (stairs : List Stair) : Option Nat :=
  ((sortBy (fun e => e.2.load) ((indexedFrom 0 stairs).filter (fun e => e.2.fitted && !e.2.compromised))).head?).map (·.1)

/-- R56: the share of the primary stair of two. -/
def primaryShare (occupancy weight : Nat) : Nat := (occupancy * weight + 50) / 100

/-- R55, R56: the receiving stairs of a floor with their shares; none where every fitted stair is compromised. -/
def sharesOf (stairs : List Stair) (fl : Floor) : List (Nat × Nat) :=
  let a := fl.primary
  let o := fl.occupancy
  if usable stairs a then
    match fl.secondary with
    | some b =>
      if usable stairs b then [(a, primaryShare o fl.weight), (b, o - primaryShare o fl.weight)] else [(a, o)]
    | none => [(a, o)]
  else
    match fl.secondary.filter (usable stairs) with
    | some b => [(b, o)]
    | none =>
      match leastLoaded stairs with
      | some i => [(i, o)]
      | none => []

/-- R57: the amount that a share adds to a load. -/
def addedAmount (load share : Nat) : Nat := min Config.loadCap (load + share) - load

/-- R58: the share list of an admission. -/
def shareList (stairs : List Stair) (fl : Floor) : List (Nat × Nat) :=
  match sharesOf stairs fl with
  | [] => (fl.primary, 0) :: (fl.secondary.toList.map (fun b => (b, 0)))
  | l => l.map (fun e => (e.1, addedAmount ((stairs[e.1]?).map (·.load) |>.getD 0) e.2))

/-! ## Stairs -/

/-- One stair record changed. -/
def ES.modStair (i : Nat) (f : Stair → Stair) (x : ES) : ES := { x with stairs := x.stairs.modify i f }

/-- R72: a STAIR_EVENT of a stair as it now stands. -/
def reportStair (cause : StairCause) (i : Nat) (floor : Option (Nat × Label)) (s : State) : State :=
  match s.es.stairs[i]? with
  | some st => offer .routine (.stair cause i st floor) s
  | none => s

/-- R57, R62: a stair after an addition: the load saturates, and a load above the high watermark is CONGESTED. -/
def loadedStair (share : Nat) (st : Stair) : Stair :=
  { st with
    load := min Config.loadCap (st.load + share)
    cond := if st.cond = .available ∧ st.high < min Config.loadCap (st.load + share) then .congested else st.cond
    saturated := st.saturated || decide (Config.loadCap < st.load + share) }

/-- R57, R59 step 5, R62: one share added to its stair, with the reports of CONGESTED and SATURATED. A share of 0 is no
addition. -/
def addShare (s : State) (e : Nat × Nat) : State :=
  match s.es.stairs[e.1]? with
  | none => s
  | some st =>
    if e.2 = 0 then s
    else
      let st' := loadedStair e.2 st
      let s := s.modEs (ES.modStair e.1 (loadedStair e.2))
      let s := if st'.cond = st.cond then s else reportStair .congested e.1 none s
      if st'.saturated = st.saturated then s else reportStair .saturated e.1 none s

/-! ## The admission step (R59) -/

/-- R59: a STAIR floor admitted with a given kind. -/
def admitStep (kind : AdmKind) (f : Nat) (s : State) : State :=
  match s.rc.floors[f]? with
  | none => s.modEs (fun x => { x with waiting := x.waiting.erase f })
  | some fl =>
    let s := s.modEs (fun x => { x with waiting := x.waiting.erase f })
    if fl.state = .alert then
      let shares := sharesOf s.es.stairs fl
      let s := admitFloor kind (some (shareList s.es.stairs fl)) true f s
      match shares with
      | [] => reportStair .noStair fl.primary (some (f, fl.label)) s
      | _ => shares.foldl addShare s
    else s

/-- R67: the advance timer started or restarted at the advance limit. -/
def restartAdvance (s : State) : State := s.modEs (fun x => { x with advanceTimer := some x.advanceLimit })

/-- R67: the advance timer stopped. -/
def stopAdvance (s : State) : State := s.modEs (fun x => { x with advanceTimer := none })

/-! ## Admission attempts (R65) -/

/-- R65 step 3: a receiving stair whose share is above 0 is CONGESTED. -/
def heldBack (stairs : List Stair) (shares : List (Nat × Nat)) : Bool :=
  shares.any (fun e => decide (0 < e.2) && decide ((stairs[e.1]?).map (·.cond) = some .congested))

/-- R65: an admission attempt; each round takes a floor off the list, so the list's length bounds the rounds. -/
def attemptRounds : Nat → State → State
  | 0, s => s
  | fuel + 1, s =>
    match s.es.waiting with
    | [] => s
    | f :: _ =>
      match s.rc.floors[f]? with
      | none => attemptRounds fuel (restartAdvance (admitStep .ordered f s))
      | some fl =>
        if heldBack s.es.stairs (sharesOf s.es.stairs fl) then s
        else attemptRounds fuel (restartAdvance (admitStep .ordered f s))

/-- R65: an admission attempt. -/
def attempt (s : State) : State := attemptRounds s.es.waiting.length s

/-! ## Regime start, new origins, manual evacuation -/

/-- R51: the candidates around an origin, in order, for `n` configured floors. -/
def candidates (n o : Nat) : List Nat :=
  (if o + 1 < n then [o + 1] else []) ++ (if 0 < o ∧ o - 1 < n then [o - 1] else []) ++
    (List.range n).filter (fun f => decide (o + 2 ≤ f)) ++
    ((List.range n).filter (fun f => decide (f + 2 ≤ o))).reverse

/-- The egress of a configured floor. -/
def egressOf (s : State) (f : Nat) : Option Egress := (s.rc.floors[f]?).map (·.egress)

/-- R51: the pending list built around an origin. -/
def buildList (o : Nat) (s : State) : List Nat :=
  (candidates s.rc.floors.length o).filter (fun f => decide (egressOf s f = some .stair))

/-- R51, R52: REGIME_START. -/
def regimeStart (o : Nat) (s : State) : State :=
  let s := s.modEs (fun x => { x with waiting := buildList o s })
  let s := if egressOf s o = some .stair then admitStep .origin o s else s
  attempt (restartAdvance s)

/-- R53: a floor of the list moved to its head. -/
def moveToHead (f : Nat) (l : List Nat) : List Nat := if l.contains f then f :: l.erase f else l

/-- R53: the neighbours of a new origin moved to the head, the floor below it first. -/
def promoteNeighbours (o : Nat) (l : List Nat) : List Nat :=
  moveToHead (o + 1) (if o = 0 then l else moveToHead (o - 1) l)

/-- R53: NEW_ORIGIN. DESIGN CHOICE (log entry 39): the moves count as a change where the list after them is not the list
before, so that neighbours which stood at the head with the lower one first, and are exchanged, bring an attempt. -/
def newOrigin (o : Nat) (s : State) : State :=
  let before := s.es.waiting
  let s := if before.contains o then admitStep .origin o s else s
  let s := s.modEs (fun x => { x with waiting := promoteNeighbours o x.waiting })
  if s.es.waiting = before then s else attempt s

/-- R13, R54: one floor of an EVACUATE_FLOORS span. -/
def evacuateFloor (s : State) (f : Nat) : State :=
  if s.es.waiting.contains f then admitStep .manual f s
  else if floorState s f = some .alert && egressOf s f != some .stair then admitFloor .manual none true f s
  else s

/-- R13, R54: the floors of a span taken in ascending order, then the timer and the attempt. -/
def evacuateSpan (floors : List Nat) (s : State) : State :=
  let moved := floors.any (fun f => s.es.waiting.contains f && decide (floorState s f = some .alert) ||
    (decide (floorState s f = some .alert) && egressOf s f != some .stair))
  let left := floors.any (fun f => s.es.waiting.contains f)
  let s := floors.foldl evacuateFloor s
  let s := if moved then restartAdvance s else s
  if left then attempt s else s

/-! ## Drains (R60–R63) -/

/-- R61, R60: a stair's load and credit after a drain, its timer started again. -/
def drainedStair (st : Stair) : Stair :=
  let c := st.credit + st.flow
  let l := st.load - c / 6
  { st with load := l, credit := if l = 0 then 0 else c % 6, drainTimer := some Config.drainPeriod }

/-- R63: a CONGESTED stair at or below its low watermark is AVAILABLE. -/
def reopenedStair (st : Stair) : Stair :=
  { st with cond := if st.cond = .congested ∧ st.load ≤ st.low then .available else st.cond }

/-- R60, R61, R63: the expiry of a stair's drain timer, due when it has come down to 0 (log entry 4). -/
def drainExpired (i : Nat) (s : State) : State :=
  match s.es.stairs[i]? with
  | none => s
  | some st =>
    if st.drainTimer = some 0 then
      let st' := reopenedStair (drainedStair st)
      let s := s.modEs (ES.modStair i (fun x => reopenedStair (drainedStair x)))
      if st'.cond = st.cond then s else attempt (reportStair .available i none s)
    else s

/-! ## Forced advance, compromise, GENERAL entry, reset completion -/

/-- R67, R68: the expiry of the advance timer, due when it has come down to 0; a timer that was restarted before its
expiry is handled is no longer due. -/
def advanceExpired (s : State) : State :=
  if s.es.advanceTimer = some 0 then
    match s.es.waiting with
    | [] => stopAdvance s
    | f :: _ => attempt (restartAdvance (admitStep .forced f s))
  else s

/-- R69: a stair marked compromised. -/
def compromise (i : Nat) (s : State) : State :=
  match s.es.stairs[i]? with
  | none => s
  | some st =>
    if st.compromised then s
    else
      attempt (reportStair .compromised i none (s.modEs (ES.modStair i (fun x => { x with compromised := true }))))

/-- R70: the bulk admission of GENERAL entry. -/
def bulkAdmission (s : State) : State := stopAdvance (s.es.waiting.foldl (fun b f => admitStep .general f b) s)

/-- R71: a stair at reset completion. -/
def clearedStair (st : Stair) : Stair :=
  { st with load := 0, credit := 0, cond := .available, compromised := false, saturated := false }

/-- R71: the ES's response to reset completion. -/
def clearEgress (s : State) : State :=
  s.modEs (fun x => { x with waiting := [], advanceTimer := none, stairs := x.stairs.map clearedStair })

end Sys2Proof.Machine
end

