-- ==== Sys2Proof/Machine/Regime.lean ====
section
/-!
DEFINITION. The Regime Core (chapter 01): regime entry and its responses (R10), GENERAL (R11), origins and confirmations
(R7–R9, R21), the notices that the Zone Engine hands over (R25), and the end of a regime reset (R16, R17).
-/

namespace Sys2Proof.Machine

/-- One floor table changed in every record. -/
def RC.eachFloor (g : Floor → Floor) (r : RC) : RC := { r with floors := r.floors.map g }

/-- R185: the configuration session, where one is open and no store write is in flight, ends on an alarm. -/
def abortSession (s : State) : State :=
  if s.cs.staged.isSome && s.cs.writing.isNone then
    offer .routine (.device .commissionAborted none none) (s.modCs (fun c => { c with staged := none }))
  else s

/-! ## Regime entry (R10) -/

/-- R4: a QUIET floor goes to ALERT. -/
def alertedFloor (fl : Floor) : Floor := if fl.state = .quiet then { fl with state := .alert } else fl

/-- R10 steps 1 and 2 with the responses to them: the level, every floor to ALERT, then the AR, the DS, the LC and the
CS (R185). -/
def enterRegime (level : Level) (cause : RegimeCause) (s : State) : State :=
  let s := (changeLevel level cause s).modRc (RC.eachFloor alertedFloor)
  let s := s.liftAr (AAcc.regimeEntered s.aenv)
  let s := s.liftDs (DAcc.regimeEntered s.denv)
  let s := s.liftLc (LAcc.rebuildLockouts s.lenv)
  abortSession s

/-- The configured floors that satisfy `p`, in ascending order. -/
def floorsWhere (s : State) (p : Floor → Bool) : List Nat :=
  (List.range s.rc.floors.length).filter (fun f =>
    match s.rc.floors[f]? with
    | some fl => p fl
    | none => false)

/-- Floors admitted without shares and without a FLOOR_EVENT of their own (R4). -/
def admitQuietly (kind : AdmKind) (floors : List Nat) (s : State) : State :=
  floors.foldl (fun b f => admitFloor kind none false f b) s

/-- R10: the entry at PHASED with its first origin: the DIRECT floors with kind ORDERED, then REGIME_START. -/
def enterPhased (origin : Nat) (s : State) : State :=
  let s := enterRegime .phased .origin s
  let s := admitQuietly .ordered (floorsWhere s (fun fl => fl.egress = .direct)) s
  regimeStart origin s

/-! ## GENERAL (R11) -/

/-- R11 steps 1 to 4. -/
def generalSteps (s : State) : State :=
  let s := bulkAdmission s
  let s := admitQuietly .general (floorsWhere s (fun fl => fl.state = .alert)) s
  let s := s.liftLc (fun a => (groupNumbers a.st).foldl (LAcc.trigger s.lenv .general none) a)
  s.liftDs (DAcc.generalEntered s.denv)

/-- R11: GENERAL is entered at a cause, unless the level is GENERAL already. -/
def enterGeneral (cause : RegimeCause) (s : State) : State :=
  match s.rc.level with
  | .general => s
  | .phased => generalSteps (changeLevel .general cause s)
  | .normal => generalSteps (enterRegime .general cause s)

/-! ## Confirmations (R7, R8, R21) -/

/-- R3: the origin list takes floor `o`. -/
def takesOrigin (origins : List Nat) (o : Nat) : Bool :=
  !origins.contains o && decide (origins.length < Config.originCap)

/-- R3: the origin list and the origin flag updated. -/
def recordOrigin (o : Nat) (s : State) : State :=
  if takesOrigin s.rc.origins o then
    s.modRc (fun r => { r.modFloor o (fun fl => { fl with origin := true }) with origins := r.origins ++ [o] })
  else s

/-- R8: a confirmation of an origin at floor `o`. -/
def originAt (o : Nat) (s : State) : State :=
  let appended := takesOrigin s.rc.origins o
  let s := recordOrigin o s
  let s := match s.rc.level with
    | .normal => enterPhased o s
    | .phased => if appended then newOrigin o s else s
    | .general => s
  if s.rc.level ≠ .general ∧ s.rc.originLimit ≤ s.rc.origins.length then enterGeneral .originLimit s else s

/-- R7, R79: the groups of a zone's mask handed to the LC for recall, with the zone as trigger. -/
def recallByZone (z : Zone) (s : State) : State :=
  s.liftLc (fun a => (members z.groups).foldl
    (LAcc.trigger s.lenv (.zone z.link z.number) (some ⟨z.link, z.number, z.kind, z.floor, true⟩)) a)

/-- R7, and R21 in FALLBACK: a confirmation handled by the zone's kind. -/
def confirmation (z : Zone) (s : State) : State :=
  if s.cs.fallback then enterGeneral .fallback (recordOrigin 0 s)
  else
    match z.kind with
    | .smoke | .heat | .manualCall | .sprinklerFlow => originAt z.floor s
    | .liftLobby | .hoistway | .machineRoom => recallByZone z (originAt z.floor s)
    | .stairSmoke =>
      match z.stair with
      | some i => originAt z.floor (compromise i s)
      | none => originAt z.floor s
    | .generalKey => enterGeneral .generalKey s
    | .recallKey => recallByZone z s

/-- R25: a clearance with a group mask handed on to the LC. -/
def clearance (z : Zone) (s : State) : State :=
  if z.groups = 0 then s else s.liftLc (LAcc.clearances s.lenv z.link z.number)

/-! ## The end of a regime reset (R16, R17) -/

/-- R17: a pending reset is abandoned. -/
def abandonReset (s : State) : State :=
  if s.rc.resetPending then
    let s := s.modRc (fun r => { r with resetPending := false })
    let s := s.modZe (fun x => { x with zones := x.zones.map (fun z => { z with clearOnRestore := false }) })
    reportRegime .resetAbandoned s
  else s

/-- R16 steps 2 and 3 on one floor. -/
def quietFloor (fl : Floor) : Floor := { fl with state := .quiet, origin := false, admission := none }

/-- R16: the completion of a reset, with the responses of the ES, the LC, the DS and the AR. -/
def completeReset (s : State) : State :=
  let s := changeLevel .normal .resetComplete (s.modRc (fun r => { r with resetPending := false }))
  let s := s.modRc (fun r => { r.eachFloor quietFloor with origins := [] })
  let s := clearEgress s
  let s := s.liftLc (LAcc.regimeEnded s.lenv)
  let s := s.liftDs (DAcc.regimeEnded s.denv)
  s.liftAr (AAcc.regimeEnded s.aenv)

/-- R16: a pending reset completes where every alarm count is 0. -/
def testCompletion (s : State) : State :=
  if s.rc.resetPending && s.rc.floors.all (fun fl => fl.alarmCount = 0) then completeReset s else s

/-- R5, R17, R185: a rise of a floor's alarm count: it abandons a pending reset, moves the count, and ends a session. -/
def riseNotice (f : Nat) (s : State) : State := abortSession (moveAlarmCount (· + 1) f (abandonReset s))

/-- R5, R16: a fall of a floor's alarm count outside the pass of a reset. -/
def fallNotice (f : Nat) (s : State) : State := testCompletion (moveAlarmCount (· - 1) f s)

end Sys2Proof.Machine
end

