-- ==== Sys2Proof/Machine/Zones.lean ====
section
/-!
DEFINITION. The Zone Engine (chapter 02): changes of a zone's state with their reports and notices, arrivals of inputs,
verification windows, node loss and snapshots, the pass of a regime reset, disabling and enabling, and the local lines.
-/

namespace Sys2Proof.Machine

/-! ## Records -/

/-- The zone record of a link and zone number. -/
def findZone (x : ZE) (link : Line) (number : Nat) : Option Zone :=
  x.zones.find? (fun z => z.link = link && z.number = number)

/-- One zone record replaced. -/
def ZE.putZone (z : Zone) (x : ZE) : ZE :=
  { x with zones := mapIf (fun e => e.link = z.link && e.number = z.number) (fun _ => z) x.zones }

/-- R24: the link record of a panel link changed; L has none to change. -/
def ZE.modLink (link : Line) (f : LinkRec → LinkRec) (x : ZE) : ZE :=
  match link with
  | .p i => { x with links := x.links.modify i.val f }
  | _ => x

/-- R24: the link record of a link; the one of L is up at all times. -/
def linkRec (x : ZE) (link : Line) : LinkRec :=
  match link with
  | .p i => (x.links[i.val]?).getD ⟨false, false⟩
  | _ => ⟨true, false⟩

/-! ## Actions (R33, R35, R154) -/

/-- R154: an action offered for the panel node of a link. -/
def queueAction (link : Line) (a : Action) (s : State) : State :=
  match soleAddress s.flc link with
  | some addr => s.modFlc (FLC.pushAction link addr a)
  | none => s

/-- R154: whether the offer finds room. -/
def offerTaken (link : Line) (s : State) : Bool :=
  match soleAddress s.flc link with
  | some addr => actionRoom s.flc link addr
  | none => false

/-- R33, R35: RESET_DETECTORS offered for a zone on a panel link; an offer that finds the queue full is dropped. -/
def offerReset (z : Zone) (s : State) : State :=
  if z.link.isPanel then queueAction z.link (.resetDetectors z.number) s else s

/-- R35, R160: ASK_SNAPSHOT offered for a link; the link owes a snapshot where the queue was full, and owes none once an
offer is taken. -/
def offerSnapshot (link : Line) (s : State) : State :=
  let taken := offerTaken link s
  (queueAction link .askSnapshot s).modZe (ZE.modLink link (fun l => { l with snapshotOwed := !taken }))

/-! ## A change of state (R25, R26, R45) -/

/-- R45: the ZONE_EVENT of one zone. -/
def reportZone (cls : Cls) (cause : ZoneCause) (z : Zone) (s : State) : State :=
  offer cls (.zone cause z (labelOf s.rc.floors z.floor)) s

/-- R26: the trouble notice of a change of state. -/
def zoneTrouble (old new : Zone) (s : State) : State :=
  if old.inTrouble = new.inTrouble then s else troubleMove .zones new.inTrouble s

/-- R25: the notices of a change of state, in the order of the rule. -/
def zoneNotices (old new : Zone) (s : State) : State :=
  match old.state, new.state with
  | .verifying, .verifying | .confirmed, .confirmed => s
  | _, .verifying => riseNotice new.floor s
  | .verifying, .confirmed => confirmation new s
  | _, .confirmed => confirmation new (riseNotice new.floor s)
  | .confirmed, _ => fallNotice new.floor (clearance old s)
  | .verifying, _ => fallNotice new.floor s
  | _, _ => s

/-- R45, R25, R26: a zone changed from `old` to `new`: its report, then its notices, then its trouble notice. -/
def changeZone (cls : Cls) (cause : ZoneCause) (old new : Zone) (s : State) : State :=
  zoneTrouble old new (zoneNotices old new (reportZone cls cause new (s.modZe (ZE.putZone new))))

/-! ## Arrivals (R27–R32) -/

/-- A zone confirmed: its window, if it has one, removed. -/
def Zone.confirm (z : Zone) : Zone := { z with state := .confirmed, window := none }

/-- R28: another zone of the same floor is in VERIFYING or CONFIRMED. -/
def corroborated (zones : List Zone) (z : Zone) : Bool :=
  zones.any (fun e => e.floor = z.floor && e.counted && !(e.link = z.link && e.number = z.number))

/-- R29 step 2: one verifying zone of the floor confirmed. -/
def corroborateZone (s : State) (z : Zone) : State :=
  match findZone s.ze z.link z.number with
  | some e => if e.state = .verifying then changeZone .alarm .corroborated e e.confirm s else s
  | none => s

/-- R29: the arriving zone confirmed, and every verifying zone of its floor with it. -/
def corroborate (z : Zone) (s : State) : State :=
  let s := changeZone .alarm .corroborated z z.confirm s
  (s.ze.zones.filter (fun e => e.floor = z.floor && e.state = .verifying)).foldl corroborateZone s

/-- R33: a window starts. -/
def startWindow (z : Zone) (s : State) : State :=
  let z' := { z with state := .verifying, window := some ⟨s.ze.window, false, false⟩ }
  offerReset z (changeZone .routine .arrival z z' s)

/-- R28, R30: an ALARM. -/
def takeAlarm (z : Zone) (s : State) : State :=
  match z.state with
  | .normal | .unknown | .trouble =>
    if corroborated s.ze.zones z then corroborate z s
    else if z.verify then startWindow z s
    else changeZone .alarm .arrival z z.confirm s
  | .verifying =>
    if (z.window.map (·.restoreSeen)).getD false then changeZone .alarm .reAlarm z z.confirm s else s
  | .confirmed | .disabled => s

/-- R31: a NORMAL. -/
def takeNormal (z : Zone) (s : State) : State :=
  match z.state with
  | .unknown | .trouble => changeZone .routine .arrival z { z with state := .normal } s
  | .verifying =>
    s.modZe (ZE.putZone { z with window := z.window.map (fun w => { w with restoreSeen := true }) })
  | .confirmed =>
    if z.latch = .following || z.clearOnRestore then
      changeZone .routine (if z.clearOnRestore then .restored else .followed) z
        { z with state := .normal, clearOnRestore := false } s
    else s
  | .normal | .disabled => s

/-- R32: a FAULT; `cause` tells a zone missing from a snapshot from one that is listed. -/
def takeFault (cause : ZoneCause) (z : Zone) (s : State) : State :=
  match z.state with
  | .normal | .unknown => changeZone .trouble cause z { z with state := .trouble } s
  | .trouble | .verifying | .confirmed | .disabled => s

/-- R27 steps 2 and 3, and the handling by input. -/
def takeInput (cause : ZoneCause) (input : Input) (z : Zone) (s : State) : State :=
  let z' := { z with lastInput := some input }
  let s := s.modZe (ZE.putZone z')
  match input with
  | .alarm => takeAlarm z' s
  | .normal => takeNormal z' s
  | .fault => takeFault cause z' s

/-- R47: a record made by an arrival in FALLBACK. -/
def madeZone (link : Line) (number : Nat) : Zone where
  link := link
  number := number
  floor := 0
  kind := .manualCall
  latch := .latching
  verify := false
  groups := 0
  stair := none
  polarity := if link = .l then some .alarmHigh else none
  state := .unknown
  lastInput := none
  clearOnRestore := false
  disabled := false
  window := none

/-- R47: the making of a record, with its trouble rise. -/
def makeZone (link : Line) (number : Nat) (s : State) : State :=
  troubleMove .zones true
    (s.modZe (fun x => { x with zones := insertBy Zone.key (madeZone link number) x.zones }))

/-- R47, R7: an ALARM that finds the FALLBACK table full: its ZONE_EVENT, then the confirmation, with no rise and no record.
DESIGN CHOICE (log entry 30): the event has the cause ARRIVAL and carries the zone that a record would have held, CONFIRMED
with the last input ALARM. -/
def confirmWithoutRecord (link : Line) (number : Nat) (s : State) : State :=
  let z := { (madeZone link number).confirm with lastInput := some .alarm }
  confirmation z (reportZone .alarm .arrival z s)

/-- R24, R27, R47: an arrival for a link and zone number; `listed` says that it comes from a change list and is subject
to the repeat test. An ALARM that finds the FALLBACK table full is a confirmation without a record. -/
def arrive (listed : Bool) (cause : ZoneCause) (link : Line) (number : Nat) (input : Input) (s : State) : State :=
  match findZone s.ze link number with
  | some z => if listed && z.state != .unknown && z.lastInput = some input then s else takeInput cause input z s
  | none =>
    if s.cs.fallback then
      if s.ze.zones.length < Config.zoneCap then takeInput cause input (madeZone link number) (makeZone link number s)
      else if input = .alarm then confirmWithoutRecord link number s
      else s
    else s

/-! ## Windows (R34) -/

/-- R34: the expiry of a zone's window, due when its deadline has come down to 0 (log entry 4). -/
def windowExpired (link : Line) (number : Nat) (s : State) : State :=
  match findZone s.ze link number with
  | none => s
  | some z =>
    match z.window with
    | none => s
    | some w =>
      if z.state != .verifying || w.deadline != 0 then s
      else if w.linkLost then changeZone .alarm .windowExpiry z z.confirm s
      else
        match z.lastInput with
        | some .normal => changeZone .routine .verifyDropped z { z with state := .normal, window := none } s
        | some .fault => changeZone .routine .verifyDropped z { z with state := .trouble, window := none } s
        | _ => changeZone .alarm .windowExpiry z z.confirm s

/-! ## The panel side (R36–R39) -/

/-- R36: the entries of a change list, in list order. -/
def takeChanges (link : Line) (entries : List (Nat × Input)) (s : State) : State :=
  entries.foldl (fun b e => arrive true .arrival link e.1 e.2 b) s

/-- R39: the two passes over a snapshot, and the link's snapshot-owed flag cleared. -/
def takeSnapshot (link : Line) (entries : List (Nat × Input)) (s : State) : State :=
  let s := s.modZe (ZE.modLink link (fun l => { l with snapshotOwed := false }))
  let s := entries.foldl (fun b e => arrive false .arrival link e.1 e.2 b) s
  let missing := s.ze.zones.filter (fun z => z.link = link && !entries.any (fun e => e.1 = z.number))
  missing.foldl (fun b z => arrive false .snapshotMissing link z.number .fault b) s

/-- R37: a zone after NODE_DOWN for its link. -/
def zoneAfterDown (z : Zone) : Zone :=
  match z.state with
  | .normal | .trouble => { z with state := .unknown }
  | .verifying => { z with window := z.window.map (fun w => { w with linkLost := true }) }
  | .confirmed | .unknown | .disabled => z

/-- R37: NODE_DOWN for a panel link, with the link's ZONE_EVENT and the trouble rises. -/
def zonesDown (link : Line) (s : State) : State :=
  let mine := s.ze.zones.filter (fun z => z.link = link)
  let entered := (mine.filter (fun z => z.state = .normal || z.state = .trouble)).length
  let rises := (mine.filter (fun z => z.state = .normal)).length
  let s := s.modZe (fun x =>
    { x.modLink link (fun _ => ⟨false, false⟩) with zones := mapIf (fun z => z.link = link) zoneAfterDown x.zones })
  let s := offer .trouble (.zoneLink link entered (mine.filter (fun z => z.state = .confirmed)).length
    (mine.filter (fun z => z.state = .verifying)).length) s
  (List.range rises).foldl (fun b _ => troubleMove .zones true b) s

/-- R38: NODE_UP for a panel link. -/
def zonesUp (link : Line) (s : State) : State := s.modZe (ZE.modLink link (fun l => { l with up := true }))

/-! ## The regime reset (R40) -/

/-- R40: one zone in the pass. Falls of the pass are not tested for completion one by one. -/
def resetZone (s : State) (z : Zone) : State :=
  match findZone s.ze z.link z.number with
  | none => s
  | some z =>
    match z.state with
    | .confirmed =>
      if z.lastInput = some .normal then
        let s := s.modZe (ZE.putZone { z with state := .normal, clearOnRestore := false })
        moveAlarmCount (· - 1) z.floor (clearance z s)
      else s.modZe (ZE.putZone { z with clearOnRestore := true })
    | .verifying =>
      let s := s.modZe (ZE.putZone { z with state := .normal, window := none })
      offerReset z (moveAlarmCount (· - 1) z.floor s)
    | _ => s

/-- R40: the pass over the zone table. -/
def resetPass (s : State) : State := s.ze.zones.foldl resetZone s

/-- R15: an accepted RESET_REGIME: the pending mark, its report, the pass and the test for completion. -/
def startReset (s : State) : State :=
  testCompletion (resetPass (reportRegime .resetStarted (s.modRc (fun r => { r with resetPending := true }))))

/-! ## Out of service and back (R42, R43) -/

/-- R42: a zone that is neither CONFIRMED nor DISABLED taken out of service. -/
def disableZone (z : Zone) (s : State) : State :=
  changeZone .routine .disabled z { z with state := .disabled, disabled := true, window := none } s

/-- R43: a DISABLED zone back in service. -/
def enableZone (z : Zone) (s : State) : State :=
  match z.lastInput with
  | some input =>
    if (linkRec s.ze z.link).up then
      let z' := { z with state := .normal, disabled := false }
      takeInput .arrival input z' (changeZone .routine .enabled z z' s)
    else changeZone .routine .enabled z { z with state := .unknown, disabled := false } s
  | none => changeZone .routine .enabled z { z with state := .unknown, disabled := false } s

/-! ## The local lines (R44) -/

/-- One line record changed. -/
def ZE.modLine (n : Nat) (f : LocalLine → LocalLine) (x : ZE) : ZE := { x with lines := x.lines.modify n f }

/-- R44: a change of the level at a line starts its debounce timer; a level that is the present one is no change. -/
def changedLine (level : LineLevel) (l : LocalLine) : LocalLine :=
  if l.pin = level then l else { l with pin := level, debouncing := true }

/-- R44: the input that a level is for a zone of L. -/
def lineInput (polarity : Option Polarity) (level : LineLevel) : Input :=
  match polarity, level with
  | some .alarmLow, .low | some .alarmHigh, .high | none, .high => .alarm
  | some .alarmLow, .high | some .alarmHigh, .low | none, .low => .normal

/-- R44: the expiry of a line's debounce timer. -/
def debounced (n : Nat) (s : State) : State :=
  match s.ze.lines[n]? with
  | none => s
  | some l =>
    if l.debouncing then
      let s := s.modZe (ZE.modLine n (fun x => { x with debouncing := false, delivered := some x.pin }))
      if l.delivered = some l.pin then s
      else
        arrive false .arrival .l n (lineInput ((findZone s.ze .l n).bind (·.polarity)) l.pin) s
    else s

end Sys2Proof.Machine
end

