-- ==== Sys2Proof/Machine/Field.lean ====
section
/-!
DEFINITION. The Field Link Controller (chapter 07): slots and the choice of their frames, valid replies and misses,
delivery to the owners, supervision of the nodes, and the notices NODE_UP and NODE_DOWN.
-/

namespace Sys2Proof.Machine

/-! ## The start of a slot (R148, R149) -/

/-- R149: the index of the first dirty image from the rotation position, going round. -/
def nextDirty (n : Node) : Option Nat :=
  ((List.range n.images.length).map (fun i => (n.rotation + i) % n.images.length)).find? (fun i =>
    match n.images[i]? with
    | some m => m.dirty
    | none => false)

/-- R149: what the frame of a slot carries. -/
def chooseCarried (n : Node) : Carried :=
  match n.actions with
  | a :: _ => .action a
  | [] =>
    match (nextDirty n).bind (n.images[·]?) with
    | some m => .image m.name
    | none => .poll

/-- R149 step 2: the node as the frame of an image is sent: the rotation goes on and the image's mark is cleared. -/
def sentFrom (n : Node) : Node :=
  match n.actions, nextDirty n with
  | [], some i =>
    { n with
      rotation := (i + 1) % n.images.length
      images := n.images.modify i (fun m => { m with changed := false }) }
  | _, _ => n

/-- R148, R157: the start of a slot on a port whose line is idle: a pending broadcast, then the frame. -/
def startSlot (port : Line) (s : State) : State :=
  match findPort s.flc.ports port with
  | none => s
  | some p =>
    match p.slot, findNode s.flc.nodes port p.cursor with
    | none, some n =>
      let c := chooseCarried n
      let frames := (if p.broadcast then [releaseAllFrame] else []) ++ [slotFrame s n c]
      s.modFlc (fun x =>
        (x.modNode port n.address sentFrom).modPort port (fun p =>
          { p with slot := some ⟨n.address, c, true⟩, broadcast := false, sent := frames }))
    | _, _ => s

/-- R148: the node address after `a` on a port, going back to the lowest after the highest. -/
def addressAfter (nodes : List Node) (port : Line) (a : Nat) : Nat :=
  match leastOf (((nodes.filter (fun n => n.port = port)).map (·.address)).filter (fun b => decide (a < b))) with
  | some b => b
  | none => lowestAddress nodes port

/-- R148 steps 4 and 5: the slot of a port ends and the cursor moves on. -/
def endSlot (port : Line) (x : FLC) : FLC :=
  x.modPort port (fun p => { p with slot := none, cursor := addressAfter x.nodes port p.cursor })

/-! ## Notices to the owners -/

/-- R160: NODE_UP told to the owner of a node. -/
def tellUp (port : Line) (address : Nat) (s : State) : State :=
  match port with
  | .p i => zonesUp (.p i) s
  | .g i => s.liftLc (LAcc.nodeUp s.lenv i.val)
  | .d i => s.liftDs (DAcc.moduleUp (.d i) address)
  | .a => s.liftAr (AAcc.matrixUp s.aenv)
  | .l => s

/-- R160: NODE_DOWN told to the owner of a node. -/
def tellDown (port : Line) (address : Nat) (s : State) : State :=
  match port with
  | .p i => zonesDown (.p i) s
  | .g i => s.liftLc (LAcc.nodeDown i.val)
  | .d i => s.liftDs (DAcc.moduleDown (.d i) address)
  | .a => s.liftAr AAcc.matrixDown
  | .l => s

/-! ## Supervision (R158–R160) -/

/-- One node record changed. -/
def modNodeAt (port : Line) (address : Nat) (f : Node → Node) (s : State) : State :=
  s.modFlc (FLC.modNode port address f)

/-- R161: a NODE_EVENT of a node as it now stands. -/
def reportNode (cls : Cls) (cause : NodeCause) (port : Line) (address : Nat) (s : State) : State :=
  match findNode s.flc.nodes port address with
  | some n => offer cls (.node cause n) s
  | none => s

/-- R158: the counters after a valid reply. -/
def countGood (n : Node) : Node := { n with miss := 0, good := min 255 (n.good + 1) }

/-- R158: the counters after a miss. -/
def countMiss (n : Node) : Node := { n with good := 0, miss := min 15 (n.miss + 1) }

/-- A node with a new link state. -/
def Node.enter (l : LinkState) (n : Node) : Node := { n with link := l }

/-- R154: a node at its entry to OFFLINE or LOST. -/
def Node.fallTo (l : LinkState) (n : Node) : Node := { n with link := l, actions := [] }

/-- R160 step 1: every image dirty and the rotation at the start. -/
def Node.goLive (n : Node) : Node :=
  { n with link := .live, rotation := 0, images := n.images.map (fun m => { m with dirty := true }) }

/-- R160: the entry to LIVE from TRAINING. DESIGN CHOICE (log entry 33): its NODE_EVENT (R161) is queued after the first two
steps, ahead of the notices, and so counts the images made dirty and the ASK_SNAPSHOT queued there. -/
def enterLive (port : Line) (address : Nat) (s : State) : State :=
  let s := modNodeAt port address Node.goLive s
  let s := if port.isPanel then offerSnapshot port s else s
  let s := reportNode .routine .nodeUp port address s
  troubleMove .nodes false (tellUp port address s)

/-- R160: the entry to LOST from SUSPECT. DESIGN CHOICE (log entry 33): its NODE_EVENT (R161) is queued after the first step,
ahead of the notices, and so counts no action. -/
def enterLost (port : Line) (address : Nat) (s : State) : State :=
  let s := reportNode .trouble .nodeLost port address (modNodeAt port address (Node.fallTo .lost) s)
  troubleMove .nodes true (tellDown port address s)

/-- R159: the link state after a valid reply whose counters have moved. -/
def stateAfterReply (port : Line) (address : Nat) (n : Node) (s : State) : State :=
  match n.link with
  | .offline | .lost => modNodeAt port address (Node.enter .training) s
  | .training => if n.good = 4 then enterLive port address s else s
  | .live => s
  | .suspect => reportNode .routine .recovered port address (modNodeAt port address (Node.enter .live) s)

/-- R159: the link state after a miss whose counters have moved. -/
def stateAfterMiss (port : Line) (address : Nat) (n : Node) (s : State) : State :=
  match n.link with
  | .offline | .lost => s
  | .training => tellDown port address (modNodeAt port address (Node.fallTo .offline) s)
  | .live =>
    if n.miss = 3 then reportNode .routine .suspect port address (modNodeAt port address (Node.enter .suspect) s) else s
  | .suspect => if n.miss = 15 then enterLost port address s else s

/-- R158, R159: the supervision of a slot's outcome. -/
def supervise (valid : Bool) (port : Line) (address : Nat) (s : State) : State :=
  let s := modNodeAt port address (if valid then countGood else countMiss) s
  match findNode s.flc.nodes port address with
  | none => s
  | some n => if valid then stateAfterReply port address n s else stateAfterMiss port address n s

/-! ## A valid reply (R151) -/

/-- R152: the marks of an image that a valid reply answers. -/
def answeredMark (m : ImageMark) : ImageMark := { m with dirty := m.dirty && m.changed, changed := false }

/-- R151 steps 1 and 2: the image or the action that the slot carried. -/
def answeredNode (c : Carried) (n : Node) : Node :=
  match c with
  | .poll => n
  | .action _ => { n with actions := n.actions.drop 1 }
  | .image name => n.modImage name answeredMark

/-- R35: ASK_SNAPSHOT offered again by the ZE at a valid reply, where the link owes a snapshot. -/
def offerAgain (port : Line) (s : State) : State :=
  if (linkRec s.ze port).snapshotOwed then offerSnapshot port s else s

/-- R83: the answer block of a reply, taken where the slot carried a car command. -/
def LAcc.answerTo (env : LEnv) (n : Nat) (c : Carried) (answer : Option AnswerBlock) (a : LAcc) : LAcc :=
  match c, answer with
  | .image (.carCommand _), some b => a.answer env n b
  | _, _ => a

/-- R78, R83, R76: a group's reply at the LC, in one response: the echo, the answer, the entries. -/
def deliverGroup (n : Nat) (c : Carried) (echo : LandingMask) (answer : Option AnswerBlock) (entries : List CarEntry)
    (s : State) : State :=
  let clean := match findGroup s.lc n with
    | some g => !isDirty s.flc (.ofGroup n) g.address .lockoutMask
    | none => false
  s.liftLc (fun (a : LAcc) => ((a.echo n echo clean).answerTo s.lenv n c answer).entries s.lenv n entries)

/-- R151 step 3: the content of a reply handed to the owner of the node. -/
def deliver (port : Line) (address : Nat) (c : Carried) (r : FieldReply) (s : State) : State :=
  match r with
  | .quiet => offerAgain port s
  | .changes es => offerAgain port (takeChanges port es s)
  | .snapshot es => offerAgain port (takeSnapshot port es s)
  | .group echo answer es =>
    match port with
    | .g i => deliverGroup i.val c echo answer es s
    | _ => s
  | .module sensed => s.liftDs (DAcc.moduleReply s.denv port address sensed (decide (c = .image .outputs)))
  | .matrix marks => s.liftAr (AAcc.takeMarks s.aenv marks)

/-- R155: the sequence bit toggles at a CHANGES reply to a POLL. -/
def sequenceNode (c : Carried) (r : FieldReply) (n : Node) : Node :=
  match c, r with
  | .poll, .changes _ => { n with seqBit := !n.seqBit }
  | _, _ => n

/-- R151 step 6: the rotation of a node with no dirty image. -/
def restRotation (n : Node) : Node := if n.images.any (·.dirty) then n else { n with rotation := 0 }

/-- R151: a valid reply handled. -/
def takeReply (port : Line) (sl : Slot) (r : FieldReply) (s : State) : State :=
  let s := s.modFlc (endSlot port)
  let s := modNodeAt port sl.address (answeredNode sl.carried) s
  let s := deliver port sl.address sl.carried r s
  let s := modNodeAt port sl.address (sequenceNode sl.carried r) s
  let s := supervise true port sl.address s
  modNodeAt port sl.address restRotation s

/-- R150, R193: a frame received on a port with a sound check value; it is a valid reply only where a slot's window is
open and it passes every test, and is otherwise discarded. -/
def receiveReply (kind : Byte) (port : Line) (address control : Byte) (payload : List Byte) (s : State) : State :=
  match (findPort s.flc.ports port).bind (·.slot) with
  | none => s
  | some sl =>
    match decodeReply kind payload with
    | none => s
    | some r =>
      if sl.windowOpen ∧ address.toNat = sl.address ∧ control.toNat ≤ 1 ∧ answersFrame port sl.carried r then
        takeReply port sl r s
      else s

/-! ## A miss (R152, R153) -/

/-- R153: the car whose command the LC is told was missed. -/
def missedCar (x : FLC) (port : Line) (sl : Slot) : Option Nat :=
  match sl.carried with
  | .image (.carCommand n) =>
    match findNode x.nodes port sl.address with
    | some nd => if nd.images.any (fun m => m.name = .carCommand n && !m.changed) then some n else none
    | none => none
  | _ => none

/-- R152: the changed-in-flight mark cleared at a miss. -/
def missedNode (c : Carried) (n : Node) : Node :=
  match c with
  | .image name => n.modImage name (fun m => { m with changed := false })
  | _ => n

/-- R148, R152, R153, R158: the end of a reply window with no valid reply. -/
def missSlot (port : Line) (s : State) : State :=
  match (findPort s.flc.ports port).bind (·.slot) with
  | none => s
  | some sl =>
    let car := missedCar s.flc port sl
    let s := modNodeAt port sl.address (missedNode sl.carried) (s.modFlc (endSlot port))
    let s := match car with
      | some n => s.liftLc (LAcc.missed s.lenv n)
      | none => s
    supervise false port sl.address s

end Sys2Proof.Machine
end

