-- ==== Sys2Proof/Machine/Restart.lean ====
section
/-!
DEFINITION. Power and restarts: loss of power and power-on (R176, R179), the load of the stored image (R179), the cold
restart (R23, R48, R74, R100, R120, R146, R162) and the warm restart (R162, R175).
-/

namespace Sys2Proof.Machine

/-- R179: the tables that a power-on or a cold restart loads: the stored image where its CRC-32 equals its check value. -/
def loadedTables : Store → Tables
  | .holds i check => if imageCheck i = check then some i else none
  | .torn _ => none

/-- R170: the class of the DEVICE_EVENT of a power-on or a cold restart. -/
def restartClass (t : Tables) : Cls := if t.isNone then .trouble else .routine

/-- R177: the mode after a power-on or a cold restart. -/
def restartMode (t : Tables) : Mode := if t.isNone then .fallback else .operate

/-- The levels that stand at LI0–LI3. -/
def pinsOf (x : ZE) : List LineLevel := x.lines.map (·.pin)

/-- Every block but the SP and the CS in its power-on state, with the second count and COMMON_TROUBLE as given. -/
def bootBlocks (t : Tables) (count : Seconds) (troubleLine : Bool) (s : State) : State :=
  { s with
    flc := bootFLC t
    ze := bootZE t (pinsOf s.ze)
    rc := bootRC t count troubleLine
    es := bootES t
    lc := bootLC t
    ds := bootDS t
    ar := bootAR t
    ev := Scratch.clear }

/-- R184: the store as loss of power leaves it: a write in flight is interrupted. -/
def interruptWrite (s : State) : State :=
  if s.cs.writing.isSome then
    { s with cs := { s.cs with store := .torn s.freeCount, writing := none }, freeCount := s.freeCount + 1 }
  else s

/-- LOSS_OF_POWER. What the blocks held is lost at the power-on that follows, which builds them afresh. -/
def losePower (s : State) : State := { interruptWrite s with powered := false }

/-- R2, R20, R176, R179: power-on: the stored image loaded, every block in its power-on state, the second count at 0, then
POWER_ON offered and COMMON_TROUBLE brought to the trouble total. -/
def powerUp (s : State) : State :=
  let s := interruptWrite s
  let t := loadedTables s.cs.store
  let s := bootBlocks t 0 false { s with sp := bootSP, cs := ⟨s.cs.store, none, t.isNone, none⟩, powered := true }
  refreshTroubleLine (offer (restartClass t) (.device .powerOn (some (restartMode t)) none) s)

/-- R175, R179: a cold restart after its load: the report, then every block but the SP in its power-on state. -/
def coldBoot (t : Tables) (cls : Cls) (report : Body) (s : State) : State :=
  let s := offer cls report { s with cs := ⟨s.cs.store, none, t.isNone, none⟩ }
  refreshTroubleLine (bootBlocks t s.rc.secondCount s.rc.commonTrouble s)

/-- R175: the requested cold restart. -/
def restartCold (s : State) : State :=
  let s := s.modSp (fun p => { p with restart := none, restartDue := false })
  let t := loadedTables s.cs.store
  coldBoot t (restartClass t) (.device .coldRestart (some (restartMode t)) none) s

/-- R162: a node at a warm restart. -/
def warmNode (n : Node) : Node :=
  { n with
    link := .offline, good := 0, miss := 0, actions := []
    images := n.images.map (fun m => { m with dirty := true, changed := false })
    rotation := 0, seqBit := false }

/-- R162: the ports at a warm restart; each door loop keeps its broadcast pending flag. -/
def warmPorts (x : FLC) : List PortRec :=
  x.ports.map (fun p => { p with cursor := lowestAddress x.nodes p.port, slot := none, sent := [] })

/-- R162: NODE_DOWN told for one node, and the rise of the node count where it was up. -/
def warmDown (s : State) (n : Node) : State :=
  let s := tellDown n.port n.address s
  if nodeInTrouble n.link then s else troubleMove .nodes true s

/-- R162, R175: the requested warm restart. -/
def restartWarm (s : State) : State :=
  let s := s.modSp (fun p => { p with restart := none, restartDue := false })
  let s := offer .routine (.device .warmRestart (some (deviceMode s.cs)) none) s
  let nodes := s.flc.nodes
  let s := s.modFlc (fun x => { x with nodes := x.nodes.map warmNode, ports := warmPorts x })
  nodes.foldl warmDown s

end Sys2Proof.Machine
end

