-- ==== Sys2Proof/Machine/Store.lean ====
section
/-!
DEFINITION. The Configuration Store (chapter 09): the four configuration requests and the end of a store write.
-/

namespace Sys2Proof.Machine

/-- R178: the tables that stand in the store. What a failed write left there has the shape of R178 too; the values of its
records are free (log entry 2). -/
def storedImage : Store → Image
  | .holds i _ => i
  | .torn k => shapeImage (Config.tornImage k)

/-- R180: the staged image of a session that opens. -/
def openedImage (c : CS) : Image := if c.fallback then defaultImage else storedImage c.store

/-- R180: BEGIN_COMMISSION. -/
def beginCommission (s : State) : Answer × State :=
  if s.cs.writing.isSome then (.bare .busy, s)
  else if s.rc.level ≠ .normal then (.refused .regimeActive, s)
  else if s.cs.staged.isSome then (.done, s)
  else
    (.done, offer .routine (.device .commissionBegun none none)
      (s.modCs (fun c => { c with staged := some (openedImage c) })))

/-- R181: a label with a character that is not printable. -/
def badLabel : ConfigRecord → Bool
  | .floor r => !printable r.label
  | _ => false

/-- R181: WRITE_CONFIG. -/
def writeConfig (index : Nat) (r : ConfigRecord) (s : State) : Answer × State :=
  if s.cs.writing.isSome then (.bare .busy, s)
  else
    match s.cs.staged with
    | none => (.refused .notCommissioning, s)
    | some i =>
      if !r.inRange index || badLabel r then (.bare .badArgument, s)
      else (.done, s.modCs (fun c => { c with staged := some (putRecord index r i) }))

/-- R183, R190: the most clamped values that a reply lists. -/
def clampedListed : Nat := 40

/-- R182, R183: COMMIT_CONFIG. -/
def commitConfig (s : State) : Answer × State :=
  if s.cs.writing.isSome then (.bare .busy, s)
  else
    match s.cs.staged with
    | none => (.refused .notCommissioning, s)
    | some i =>
      let j := clampImage i
      match firstInvalid j with
      | some e => (⟨.refused, some .configInvalid, .invalid e.1 e.2⟩, s)
      | none =>
        let values := clampedValues i j
        let s := s.modCs (fun c => { c with staged := some j, writing := some (imageCheck j) })
        (if values.isEmpty then .done else ⟨.clamped, none, .clamped values.length (values.take clampedListed)⟩, s)

/-- R185: ABANDON_COMMISSION. -/
def abandonCommission (s : State) : Answer × State :=
  if s.cs.writing.isSome then (.bare .busy, s)
  else if s.cs.staged.isNone then (.refused .notCommissioning, s)
  else
    (.done, offer .routine (.device .commissionAbandoned none none) (s.modCs (fun c => { c with staged := none })))

/-- R184: the end of a store write. -/
def writeComplete (readBackEqual : Bool) (s : State) : State :=
  match s.cs.writing, s.cs.staged with
  | some check, some i =>
    if readBackEqual then
      coldBoot (some i) .routine (.device .configApplied (some .operate) (some check))
        (s.modCs (fun c => { c with store := .holds i check }))
    else
      let s := { s.modCs (fun c => { c with store := .torn s.freeCount, writing := none }) with
        freeCount := s.freeCount + 1 }
      offer .trouble (.device .storeFailed none none) s
  | _, _ => s

end Sys2Proof.Machine
end

