-- ==== Sys2Proof/Machine/Requests.lean ====
section
/-!
DEFINITION. The handling of each request by the block that owns its matter (R165): the queries first, then the requests
that act. A handler gives the answer and the part as the request leaves it.
-/

namespace Sys2Proof.Machine

/-- What a query finds: its record, or NO_SUCH. -/
def queried (c : Option Content) : Answer :=
  match c with
  | some x => .carrying x
  | none => .bare .noSuch

/-! ## Queries: each reads the state and changes nothing (R169) -/

/-- R22: what READ_REGIME finds. -/
def regimeContent (s : State) : Option Content :=
  some (.regime ⟨s.rc.level, s.rc.resetPending, s.rc.origins, s.rc.originLimit, s.rc.entryTime, s.rc.secondCount,
    s.rc.commonAlarm, s.rc.commonTrouble, s.rc.trouble, deviceMode s.cs⟩)

/-- R22, R50: what READ_FLOOR finds. -/
def floorContent (f : Nat) (s : State) : Option Content :=
  (s.rc.floors[f]?).map (fun fl => .floor fl (positionOf f s.es.waiting))

/-- R46: what READ_ZONE finds. -/
def zoneContent (link : Line) (number : Nat) (s : State) : Option Content :=
  (findZone s.ze link number).map (fun z => .zone z (labelOf s.rc.floors z.floor))

/-- R73: what READ_STAIR finds. -/
def stairContent (i : Nat) (s : State) : Option Content :=
  (s.es.stairs[i]?).map (fun st =>
    .stair st s.es.waiting.length s.es.waiting.head? s.es.advanceLimit s.es.advanceTimer)

/-- R98: what READ_CAR finds. -/
def carContent (n : Nat) (s : State) : Option Content :=
  (findCar s.lc n).bind (fun c =>
    (findGroup s.lc c.group).map (fun g =>
      .car c g (targetView s.rc.floors g g.target) (isDirty s.flc (.ofGroup g.number) g.address .lockoutMask)))

/-- R118: what READ_DOOR finds. -/
def doorContent (n : Nat) (s : State) : Option Content :=
  (s.ds.doors.find? (fun d => d.index = n)).bind (fun d =>
    (s.ds.modules.find? (fun m => m.loop = d.loop && m.address = d.address)).map (fun m =>
      .door d (labelOf s.rc.floors d.floor) (requiredDrive s.denv s.ds.manual d) (doorReasons s.denv s.ds.manual d) m
        (isDirty s.flc d.loop d.address .outputs)))

/-- R144: what READ_ANNOUNCEMENT of a record id finds. -/
def recordContent (id : Nat) (s : State) : Option Content :=
  (findRec s.ar id).map (fun r => .record r (r.channel.bind (s.ar.channels[·]?)))

/-- R144: what READ_ANNOUNCEMENT of the pool finds. DESIGN CHOICE (log entry 34): where no matrix node is configured, no
channel's image is dirty. -/
def poolContent (s : State) : Option Content :=
  some (.pool s.ar.reserve ((indexedFrom 0 s.ar.channels).map (fun e =>
    ⟨e.2, isDirty s.flc .a ((soleAddress s.flc .a).getD 0) (.channel e.1)⟩)) s.ar.waitList s.ar.up)

/-- R144: what READ_ANNOUNCEMENT of a floor finds. -/
def claimsContent (f : Nat) (s : State) : Option Content :=
  if f < s.rc.floors.length then (s.ar.claims[f]?).map .claims else none

/-- R161: what READ_NODE finds. -/
def nodeContent (port : Line) (address : Nat) (s : State) : Option Content :=
  (findNode s.flc.nodes port address).map (fun n =>
    .node n (if port.isDoor then (findPort s.flc.ports port).map (·.broadcast) else none))

/-! ## The Regime Core and the Zone Engine -/

/-- R15: RESET_REGIME. -/
def resetRegime (s : State) : Answer × State :=
  if s.rc.level = .normal then (.refused .regimeQuiet, s)
  else if s.rc.resetPending then (.bare .busy, s)
  else (.done, startReset s)

/-- R12: START_GENERAL. -/
def startGeneral (s : State) : Answer × State := (.done, enterGeneral .startGeneral (abandonReset s))

/-- R13: EVACUATE_FLOORS. -/
def evacuateFloors (lo hi : Nat) (s : State) : Answer × State :=
  if s.rc.level = .normal then (.refused .regimeQuiet, s)
  else
    match spanOf s.rc.floors.length lo hi with
    | .reversed => (.bare .badArgument, s)
    | .floors cut marked => (.doneOr cut .empty, if marked.isEmpty then s else evacuateSpan marked s)

/-- R14: SET_OCCUPANCY. -/
def setOccupancy (f value : Nat) (s : State) : Answer × State :=
  match s.rc.floors[f]? with
  | none => (.bare .noSuch, s)
  | some fl =>
    if fl.egress = .none then (.refused .noEgress, s)
    else
      (.doneOr (decide (2000 < value)) .empty,
        s.modRc (fun r => r.modFloor f (fun x => { x with occupancy := min 2000 value })))

/-- R42: DISABLE_ZONE. -/
def disableRequest (link : Line) (number : Nat) (s : State) : Answer × State :=
  match findZone s.ze link number with
  | none => (.bare .noSuch, s)
  | some z =>
    match z.state with
    | .confirmed => (.refused .zoneActive, s)
    | .disabled => (.done, s)
    | .verifying | .normal | .trouble | .unknown => (.done, disableZone z s)

/-- R43: ENABLE_ZONE. -/
def enableRequest (link : Line) (number : Nat) (s : State) : Answer × State :=
  match findZone s.ze link number with
  | none => (.bare .noSuch, s)
  | some z => (.done, if z.state = .disabled then enableZone z s else s)

/-! ## The Lift Coordinator -/

/-- R92: RECALL_GROUP. -/
def recallGroup (n : Nat) (s : State) : Answer × State :=
  match findGroup s.lc n with
  | none => (.bare .noSuch, s)
  | some _ => (.done, s.liftLc (LAcc.recallRequest s.lenv n))

/-- R95: RELEASE_GROUP. -/
def releaseGroup (n : Nat) (s : State) : Answer × State :=
  match findGroup s.lc n with
  | none => (.bare .noSuch, s)
  | some g =>
    if s.rc.level = .general || g.triggers.zones.any (·.standing) then (.refused .triggerActive, s)
    else if g.active then (.done, s.liftLc (LAcc.endRecall s.lenv .host n))
    else (.done, s)

/-- R90, R91: FIRE_SERVICE. -/
def fireService (n : Nat) (on : Bool) (s : State) : Answer × State :=
  match findCar s.lc n with
  | none => (.bare .noSuch, s)
  | some c =>
    if on then
      if c.service = .recalled || c.service = .fireService then (.done, s.liftLc (LAcc.fireOn s.lenv n))
      else (.refused .notParked, s)
    else (.done, s.liftLc (LAcc.fireOff s.lenv n))

/-! ## The Door Supervisor -/

/-- R114: RELEASE_DOORS (`add`) and RESTORE_DOORS. -/
def manualRequest (add : Bool) (lo hi : Nat) (stairs : QuadSet) (s : State) : Answer × State :=
  match spanOf s.rc.floors.length lo hi with
  | .reversed => (.bare .badArgument, s)
  | .floors cut marked =>
    (.doneOr cut .empty,
      if marked.isEmpty then s else s.liftDs (DAcc.manualChange s.denv add (setOfList marked) stairs))

/-! ## The Announcement Router -/

/-- R122: the id that was given last. -/
def lastId (a : AR) : Nat := if a.nextId = 1 then 255 else a.nextId - 1

/-- R135: the message kinds that ANNOUNCE does not take. -/
def systemMessage : MsgKind → Bool
  | .evac | .alert | .allClear => true
  | .tenant | .test => false

/-- R135: the library entry of a message in use. -/
def libraryEntry (a : AR) (message : Nat) : Option MsgRec := (a.library[message]?).filter (·.inUse)

/-- R135: the TENANT record of an accepted ANNOUNCE. -/
def makeTenant (message repeats : Nat) (marked : List Nat) (s : State) : State :=
  s.liftAr (AAcc.make s.aenv .tenant .requested (some message) repeats (some (setOfList marked)))

/-- R135: ANNOUNCE. -/
def announce (message lo hi repeats : Nat) (s : State) : Answer × State :=
  match spanOf s.rc.floors.length lo hi with
  | .reversed => (.bare .badArgument, s)
  | .floors cut marked =>
    if 15 < repeats then (.bare .badArgument, s)
    else if s.rc.level ≠ .normal then (.refused .regimeActive, s)
    else
      match libraryEntry s.ar message with
      | none => (.bare .noSuch, s)
      | some m =>
        if systemMessage m.kind then (.bare .badArgument, s)
        else if (freeSlot s.ar).isNone then (.refused .tableFull, s)
        else if marked.isEmpty then (.bare .clamped, s)
        else
          let s' := makeTenant message repeats marked s
          (.doneOr cut (.recordId (lastId s'.ar)), s')

/-- R136: CANCEL_ANNOUNCEMENT. -/
def cancelAnnouncement (id : Nat) (s : State) : Answer × State :=
  match findRec s.ar id with
  | none => (.bare .noSuch, s)
  | some r =>
    match r.source with
    | .system => (.refused .systemRecord, s)
    | .requested =>
      if r.cls = .live then (.done, s.liftAr (AAcc.endLive s.aenv))
      else (.done, s.liftAr (AAcc.cancelTenant s.aenv id))

/-- R139: BEGIN_LIVE. -/
def beginLive (lo hi : Nat) (s : State) : Answer × State :=
  match spanOf s.rc.floors.length lo hi with
  | .reversed => (.bare .badArgument, s)
  | .floors cut marked =>
    if (liveRec s.ar).isSome then (.refused .liveInUse, s)
    else if marked.isEmpty then (.bare .clamped, s)
    else if (freeSlot s.ar).isNone && (oldestTenant s.ar).isNone then (.refused .tableFull, s)
    else
      let s' := s.liftAr (AAcc.beginLive s.aenv (setOfList marked))
      (.doneOr cut (.recordId (lastId s'.ar)), s')

/-- R141: END_LIVE. -/
def endLive (s : State) : Answer × State :=
  if (liveRec s.ar).isNone then (.bare .noSuch, s) else (.done, s.liftAr (AAcc.endLive s.aenv))

/-! ## The Supervisory Port -/

/-- R173: RESTART. -/
def requestRestart (form : RestartForm) (s : State) : Answer × State :=
  if s.cs.writing.isSome then (.bare .busy, s)
  else if form = .cold ∧ s.rc.level ≠ .normal then (.refused .regimeActive, s)
  else (.done, s.modSp (fun p => { p with restart := some form, restartDue := false }))

end Sys2Proof.Machine
end

