-- ==== Sys2Proof/Machine/Supervisory.lean ====
section
/-!
DEFINITION. The Supervisory Port (chapter 08): host silence, the taking of a valid frame with the tests of R164, one frame
operation per request kind, the receiver, and the transmitter.
-/

namespace Sys2Proof.Machine

/-! ## Host silence (R172) -/

/-- R172: a valid frame taken by the supervision. -/
def superviseHost (s : State) : State :=
  if s.sp.hostSilent then
    let s := s.modSp (fun p => { p with hostSilent := false, silence := some Config.silenceLimit })
    troubleMove .host false (offer .routine (.device .hostResumed none none) s)
  else s.modSp (fun p => { p with silence := some Config.silenceLimit })

/-- R172: the expiry of the host-silence timer, due when it has come down to 0; a frame handled first starts the timer
again, and the expiry is then not due. -/
def hostSilence (s : State) : State :=
  if s.sp.silence = some 0 then
    let s := s.modSp (fun p => { p with hostSilent := true, silence := none })
    troubleMove .host true (offer .trouble (.device .hostSilent none none) s)
  else s

/-! ## Frames and replies (R164–R167) -/

/-- R188: the kind of the reply to a request kind. -/
def replyKind (kind : Byte) : Byte := kind + 0x80#8

/-- R165: an answer placed in the reply list. -/
def pushReply (kind tag : Byte) (a : Answer) (s : State) : State :=
  s.modSp (fun p => { p with replies := p.replies ++ [⟨kind, tag, a.status, a.reason, a.content⟩] })

/-- R164 steps 2 to 4 and R165: a frame of a request kind, tested and handed to its owner. -/
def answerFrame {ρ : Type} (lengthOk : Bool) (operands : Option ρ) (handle : ρ → State → Answer × State) (s : State) :
    Answer × State :=
  if lengthOk then
    match operands with
    | none => (.bare .badArgument, s)
    | some q => if s.sp.restart.isSome then (.bare .busy, s) else handle q s
  else (.bare .badLength, s)

/-- R164, R166, R172: a valid frame of a request kind. One that finds the reply list full is discarded after the
host-silence supervision has taken it. -/
def takeFrame {ρ : Type} (kind tag : Byte) (lengthOk : Bool) (operands : Option ρ)
    (handle : ρ → State → Answer × State) (s : State) : State :=
  let s := superviseHost s
  if Config.replyCap ≤ s.sp.replies.length then s
  else
    let r := answerFrame lengthOk operands handle s
    pushReply (replyKind kind) tag r.1 r.2

/-- R164 step 1, R188: a valid frame whose kind is no request kind. -/
def takeUnknown (kind tag : Byte) (s : State) : State :=
  let s := superviseHost s
  if Config.replyCap ≤ s.sp.replies.length then s
  else pushReply 0x80#8 tag ⟨.unknownKind, none, .kind kind⟩ s

/-- A query as a handler: the state is left as it stands (R169). -/
def asQuery {ρ : Type} (find : ρ → State → Option Content) (q : ρ) (s : State) : Answer × State := (queried (find q s), s)

/-! ## One frame operation per request kind (R190) -/

def frameReadRegime (tag : Byte) (p : List Byte) : State → State :=
  takeFrame 0x01#8 tag (lengthIs 0 p) (noOperands p) (asQuery (fun _ s => regimeContent s))

def frameReadFloor (tag : Byte) (p : List Byte) : State → State :=
  takeFrame 0x02#8 tag (lengthIs 1 p) (oneFloor p) (asQuery floorContent)

def frameReadZone (tag : Byte) (p : List Byte) : State → State :=
  takeFrame 0x03#8 tag (lengthIs 2 p) (linkZone p) (asQuery (fun q => zoneContent q.1 q.2))

def frameReadStair (tag : Byte) (p : List Byte) : State → State :=
  takeFrame 0x04#8 tag (lengthIs 1 p) (oneNumber p) (asQuery stairContent)

def frameReadCar (tag : Byte) (p : List Byte) : State → State :=
  takeFrame 0x05#8 tag (lengthIs 1 p) (oneNumber p) (asQuery carContent)

def frameReadDoor (tag : Byte) (p : List Byte) : State → State :=
  takeFrame 0x06#8 tag (lengthIs 1 p) (oneNumber p) (asQuery doorContent)

/-- R144: what READ_ANNOUNCEMENT finds, by its form. -/
def annContent (form : AnnForm) (s : State) : Option Content :=
  match form with
  | .record id => recordContent id s
  | .pool => poolContent s
  | .floor f => claimsContent f s

def frameReadAnnouncement (tag : Byte) (p : List Byte) : State → State :=
  takeFrame 0x07#8 tag (lengthIs 2 p) (annForm p) (asQuery annContent)

def frameReadNode (tag : Byte) (p : List Byte) : State → State :=
  takeFrame 0x08#8 tag (lengthIs 2 p) (portAddress p) (asQuery (fun q => nodeContent q.1 q.2))

def frameResetRegime (tag : Byte) (p : List Byte) : State → State :=
  takeFrame 0x09#8 tag (lengthIs 0 p) (noOperands p) (fun _ => resetRegime)

def frameStartGeneral (tag : Byte) (p : List Byte) : State → State :=
  takeFrame 0x0A#8 tag (lengthIs 0 p) (noOperands p) (fun _ => startGeneral)

def frameEvacuateFloors (tag : Byte) (p : List Byte) : State → State :=
  takeFrame 0x0B#8 tag (lengthIs 2 p) (spanOperands p) (fun q => evacuateFloors q.1 q.2)

def frameSetOccupancy (tag : Byte) (p : List Byte) : State → State :=
  takeFrame 0x0C#8 tag (lengthIs 3 p) (occupancyOperands p) (fun q => setOccupancy q.1 q.2)

def frameDisableZone (tag : Byte) (p : List Byte) : State → State :=
  takeFrame 0x0D#8 tag (lengthIs 2 p) (linkZone p) (fun q => disableRequest q.1 q.2)

def frameEnableZone (tag : Byte) (p : List Byte) : State → State :=
  takeFrame 0x0E#8 tag (lengthIs 2 p) (linkZone p) (fun q => enableRequest q.1 q.2)

def frameRecallGroup (tag : Byte) (p : List Byte) : State → State :=
  takeFrame 0x0F#8 tag (lengthIs 1 p) (oneNumber p) recallGroup

def frameReleaseGroup (tag : Byte) (p : List Byte) : State → State :=
  takeFrame 0x10#8 tag (lengthIs 1 p) (oneNumber p) releaseGroup

def frameFireService (tag : Byte) (p : List Byte) : State → State :=
  takeFrame 0x11#8 tag (lengthIs 2 p) (fireOperands p) (fun q => fireService q.1 q.2)

def frameReleaseDoors (tag : Byte) (p : List Byte) : State → State :=
  takeFrame 0x12#8 tag (lengthIs 3 p) (doorOperands p) (fun q => manualRequest true q.1 q.2.1 q.2.2)

def frameRestoreDoors (tag : Byte) (p : List Byte) : State → State :=
  takeFrame 0x13#8 tag (lengthIs 3 p) (doorOperands p) (fun q => manualRequest false q.1 q.2.1 q.2.2)

def frameAnnounce (tag : Byte) (p : List Byte) : State → State :=
  takeFrame 0x14#8 tag (lengthIs 4 p) (announceOperands p) (fun q => announce q.message q.lo q.hi q.repeats)

def frameCancelAnnouncement (tag : Byte) (p : List Byte) : State → State :=
  takeFrame 0x15#8 tag (lengthIs 1 p) (oneNumber p) cancelAnnouncement

def frameBeginLive (tag : Byte) (p : List Byte) : State → State :=
  takeFrame 0x16#8 tag (lengthIs 2 p) (spanOperands p) (fun q => beginLive q.1 q.2)

def frameEndLive (tag : Byte) (p : List Byte) : State → State :=
  takeFrame 0x17#8 tag (lengthIs 0 p) (noOperands p) (fun _ => endLive)

def frameRestart (tag : Byte) (p : List Byte) : State → State :=
  takeFrame 0x18#8 tag (lengthIs 1 p) (restartOperand p) requestRestart

def frameBeginCommission (tag : Byte) (p : List Byte) : State → State :=
  takeFrame 0x19#8 tag (lengthIs 0 p) (noOperands p) (fun _ => beginCommission)

def frameWriteConfig (tag : Byte) (p : List Byte) : State → State :=
  takeFrame 0x1A#8 tag (configLength p) (configOperands p) (fun q => writeConfig q.1 q.2)

def frameCommitConfig (tag : Byte) (p : List Byte) : State → State :=
  takeFrame 0x1B#8 tag (lengthIs 0 p) (noOperands p) (fun _ => commitConfig)

def frameAbandonCommission (tag : Byte) (p : List Byte) : State → State :=
  takeFrame 0x1C#8 tag (lengthIs 0 p) (noOperands p) (fun _ => abandonCommission)

/-- R190: the frame operations in the order of their codes, 01 first. -/
def frameTable : List (Byte → List Byte → State → State) :=
  [frameReadRegime, frameReadFloor, frameReadZone, frameReadStair, frameReadCar, frameReadDoor, frameReadAnnouncement,
    frameReadNode, frameResetRegime, frameStartGeneral, frameEvacuateFloors, frameSetOccupancy, frameDisableZone,
    frameEnableZone, frameRecallGroup, frameReleaseGroup, frameFireService, frameReleaseDoors, frameRestoreDoors,
    frameAnnounce, frameCancelAnnouncement, frameBeginLive, frameEndLive, frameRestart, frameBeginCommission,
    frameWriteConfig, frameCommitConfig, frameAbandonCommission]

/-- R188, R190: a kind that is a request kind. -/
def isRequestKind (kind : Byte) : Bool := decide (1 ≤ kind.toNat ∧ kind.toNat ≤ frameTable.length)

/-- R164: a valid frame taken by its kind. -/
def dispatchFrame (kind tag : Byte) (p : List Byte) (s : State) : State :=
  match kind.toNat with
  | 0 => takeUnknown kind tag s
  | n + 1 =>
    match frameTable[n]? with
    | some f => f tag p s
    | none => takeUnknown kind tag s

/-! ## The receiver (R163) -/

/-- R163: the receiver returns to HUNTING. -/
def State.hunt (s : State) : State := s.modSp (fun p => { p with rx := huntingReceiver })

/-- R163, R187: the second check byte: the frame is tested, and a valid frame is taken. -/
def testFrame (r : Receiver) (low high : Byte) (s : State) : State :=
  let s := s.hunt
  if crc16Bytes (byte r.expected :: r.body) = [low, high] then
    match r.body with
    | kind :: tag :: payload => dispatchFrame kind tag payload s
    | _ => s
  else s

/-- R163: one byte of the line. -/
def receiveByte (b : Byte) (s : State) : State :=
  let r := s.sp.rx
  match r.state with
  | .hunting =>
    if b = Config.syncByte then s.modSp (fun p => { p with rx := ⟨.length, 0, [], none⟩ }) else s
  | .length =>
    if 2 ≤ b.toNat ∧ b.toNat ≤ 250 then s.modSp (fun p => { p with rx := ⟨.body, b.toNat, [], none⟩ }) else s.hunt
  | .body =>
    let body := r.body ++ [b]
    s.modSp (fun p => { p with rx := ⟨if r.expected ≤ body.length then .check else .body, r.expected, body, none⟩ })
  | .check =>
    match r.check with
    | none => s.modSp (fun p => { p with rx := { r with check := some b } })
    | some low => testFrame r low b s

/-! ## The transmitter (R166, R174) -/

/-- R174: the frame whose sending makes a pending restart due: its own DONE reply. -/
def isRestartReply (f : TxFrame) : Bool :=
  match f with
  | .reply r => r.kind = replyKind 0x18#8 && r.status = .done
  | .report _ _ => false

/-- R166, R174: the end of the frame being sent; the transmitter is free. -/
def endSending (s : State) : State :=
  match s.sp.tx with
  | none => s
  | some f =>
    s.modSp (fun p => { p with tx := none, restartDue := p.restartDue || (p.restart.isSome && isRestartReply f) })

end Sys2Proof.Machine
end

