-- ==== Sys2Proof/Machine/Events.lean ====
section
/-!
DEFINITION. The frame of every command: an event of a part that has power, ended by the settlement of the channel pool and the
kick of the transmitter.
-/

namespace Sys2Proof.Machine

/-- The end of an event: the channel pool is settled where the AR changed claims, records or channels (R130), the
scratch record is cleared, and a transmitter that is free takes its next frame (R166). -/
def finish (s : State) : State :=
  let s := if s.ev.arTouched then s.liftAr (AAcc.settle s.aenv) else s
  { s with ev := Scratch.clear }.modSp takeNextFrame

/-- One event of the part, which takes place only while it has power; the lift reports that it queues stand in the order of
R97. -/
def event (f : State → State) (s : State) : Host.Outcome State Fault Refusal :=
  .next (if s.powered then finish (orderLift s.sp.reports.length (f { s with ev := Scratch.clear })) else s)

/-- The reception of one whole valid supervisory frame: the receiver ends in HUNTING and the frame is taken. -/
def received (f : State → State) (s : State) : Host.Outcome State Fault Refusal := event (fun s => f s.hunt) s

end Sys2Proof.Machine
end

