-- ==== Sys2Proof/Machine/Clock.lean ====
section
/-!
DEFINITION. The passing of one second in the records of the blocks (log entry 4): every running timer counted in seconds
falls by 1, and one that stands at 0 waits there for its expiry command.
-/

namespace Sys2Proof.Machine

/-- R33: the windows of the zones. -/
def ZE.second (x : ZE) : ZE :=
  { x with zones := x.zones.map (fun z =>
      { z with window := z.window.map (fun w => { w with deadline := w.deadline - 1 }) }) }

/-- R60, R67: the drain timers and the advance timer. -/
def ES.second (x : ES) : ES :=
  { x with
    stairs := x.stairs.map (fun st => { st with drainTimer := countDown st.drainTimer })
    advanceTimer := countDown x.advanceTimer }

/-- R84: the retry timers of the cars. -/
def LC.second (x : LC) : LC := { x with cars := x.cars.map (fun c => { c with retry := countDown c.retry }) }

/-- R108, R111: the dwell and held-open timers. -/
def DS.second (x : DS) : DS :=
  { x with doors := x.doors.map (fun d => { d with dwell := countDown d.dwell, heldOpen := countDown d.heldOpen }) }

/-- R134: the play timers. -/
def AR.second (x : AR) : AR :=
  { x with channels := x.channels.map (fun c => { c with playTimer := countDown c.playTimer }) }

/-- R172: the host-silence timer. -/
def SP.second (x : SP) : SP := { x with silence := countDown x.silence }

/-- One second of a part that has power and no command to take. -/
def idleSecond (s : State) : State :=
  if s.powered then
    { s with
      ze := s.ze.second
      es := s.es.second
      lc := s.lc.second
      ds := s.ds.second
      ar := s.ar.second
      sp := s.sp.second }
  else s

end Sys2Proof.Machine
end

