-- ==== Sys2Proof/Machine/ExecField.lean ====
section
/-!
DEFINITION. The events of the field ports. A frame received with a sound check value is tested by R150 and R193 before it is
taken as a valid reply.
-/

namespace Sys2Proof.Machine

/-- R148: a slot begins on a port. -/
def execSlotStart (port : Line) (s : State) : Host.Outcome State Fault Refusal := event (startSlot port) s

/-- R151: QUIET from a panel. -/
def execQuiet (port : Line) (address control : Byte) (payload : List Byte) (s : State) :
    Host.Outcome State Fault Refusal :=
  event (receiveReply 0x41#8 port address control payload) s

/-- R36: CHANGES from a panel: its change list is taken as arrivals. -/
def execChanges (port : Line) (address control : Byte) (payload : List Byte) (s : State) :
    Host.Outcome State Fault Refusal :=
  event (receiveReply 0x42#8 port address control payload) s

/-- R39: SNAPSHOT from a panel: the two passes. -/
def execSnapshot (port : Line) (address control : Byte) (payload : List Byte) (s : State) :
    Host.Outcome State Fault Refusal :=
  event (receiveReply 0x43#8 port address control payload) s

/-- R76: GROUP_STATUS: the echo, the answer and the car entries. -/
def execGroupStatus (port : Line) (address control : Byte) (payload : List Byte) (s : State) :
    Host.Outcome State Fault Refusal :=
  event (receiveReply 0x44#8 port address control payload) s

/-- R106: MODULE_STATUS: the sensed states of points 0–7. -/
def execModuleStatus (port : Line) (address control : Byte) (payload : List Byte) (s : State) :
    Host.Outcome State Fault Refusal :=
  event (receiveReply 0x45#8 port address control payload) s

/-- R133: MATRIX_STATUS: the completion marks. -/
def execMatrixStatus (port : Line) (address control : Byte) (payload : List Byte) (s : State) :
    Host.Outcome State Fault Refusal :=
  event (receiveReply 0x46#8 port address control payload) s

/-- R150: a field frame that fails a test is discarded; the window runs on and nothing changes. -/
def execFieldFrameDiscarded (_port : Line) (s : State) : Host.Outcome State Fault Refusal := event (fun s => s) s

/-- R150, R158: a reply window closes with no valid reply. -/
def execReplyWindowMiss (port : Line) (s : State) : Host.Outcome State Fault Refusal := event (missSlot port) s

end Sys2Proof.Machine
end

