-- ==== Sys2Proof/Machine/ExecPort.lean ====
section
/-!
DEFINITION. The events of the supervisory line, of the store, of restarts and of the supply.
-/

namespace Sys2Proof.Machine

/-- R164: a valid frame whose kind is no request kind is answered UNKNOWN_KIND. A request kind is taken by its own
operation. -/
def execUnknownKind (kind tag : Byte) (payload : List Byte) (s : State) : Host.Outcome State Fault Refusal :=
  received (dispatchFrame kind tag payload) s

/-- R163: a frame discarded for its length byte (in LENGTH) or its check value (in CHECK). -/
def execSupervisoryFrameDiscarded (s : State) : Host.Outcome State Fault Refusal :=
  event (fun s =>
    match s.sp.rx.state with
    | .length | .check => s.hunt
    | .hunting | .body => s) s

/-- R163: 10 ms without a byte in LENGTH, BODY or CHECK. -/
def execReceiveTimeout (s : State) : Host.Outcome State Fault Refusal :=
  event (fun s =>
    match s.sp.rx.state with
    | .length | .body | .check => s.hunt
    | .hunting => s) s

/-- R172: the expiry of the host-silence timer. -/
def execHostSilent (s : State) : Host.Outcome State Fault Refusal := event hostSilence s

/-- R166, R174: the transmitter finishes a frame and takes its next one. DESIGN CHOICE (log entry 35): the end of RESTART's
reply makes the restart due, and the restart itself is the command WARM_RESTART or COLD_RESTART that follows. -/
def execFrameSent (s : State) : Host.Outcome State Fault Refusal := event endSending s

/-- R175: a pending WARM restart takes effect once its reply has been sent. -/
def execWarmRestart (s : State) : Host.Outcome State Fault Refusal :=
  event (fun s => if s.sp.restart = some .warm ∧ s.sp.restartDue then restartWarm s else s) s

/-- R175: a pending COLD restart takes effect once its reply has been sent. -/
def execColdRestart (s : State) : Host.Outcome State Fault Refusal :=
  event (fun s => if s.sp.restart = some .cold ∧ s.sp.restartDue then restartCold s else s) s

/-- R184: the end of a store write. -/
def execStoreWriteComplete (readBackEqual : Bool) (s : State) : Host.Outcome State Fault Refusal :=
  event (writeComplete readBackEqual) s

/-- R163: a byte on SUP_RX. A byte that completes a valid frame has that frame taken, as its own row does. -/
def execByteReceived (b : Byte) (s : State) : Host.Outcome State Fault Refusal := event (receiveByte b) s

/-- R176, R179: power is applied. -/
def execPowerOn (s : State) : Host.Outcome State Fault Refusal := .next (finish (powerUp s))

/-- R184: the supply is lost; a store write in flight ends without a completion event. -/
def execLossOfPower (s : State) : Host.Outcome State Fault Refusal :=
  .next (if s.powered then losePower s else s)

/-- R2: the end of a second: the second count rises by 1 and wraps. -/
def execSecondCountTick (s : State) : Host.Outcome State Fault Refusal :=
  event (fun s => s.modRc (fun r => { r with secondCount := r.secondCount + 1 })) s

end Sys2Proof.Machine
end

