-- ==== Sys2Proof/Machine/ExecQueries.lean ====
section
/-!
DEFINITION. The queries (R169): each is answered with the record its owner holds and changes nothing else. The form byte of
a READ_ANNOUNCEMENT payload says which of the three forms it asks for; WellFormed ties it to the row.
-/

namespace Sys2Proof.Machine

/-- R22: READ_REGIME: the regime record, the common lines, the trouble counts and the device mode. -/
def execReadRegime (tag : Byte) (payload : List Byte) (s : State) : Host.Outcome State Fault Refusal :=
  received (frameReadRegime tag payload) s

/-- R22: READ_FLOOR: one floor record whole with its place in the pending list. -/
def execReadFloor (tag : Byte) (payload : List Byte) (s : State) : Host.Outcome State Fault Refusal :=
  received (frameReadFloor tag payload) s

/-- R46: READ_ZONE: one zone record whole. -/
def execReadZone (tag : Byte) (payload : List Byte) (s : State) : Host.Outcome State Fault Refusal :=
  received (frameReadZone tag payload) s

/-- R73: READ_STAIR: one stair record and the scheduler's summary. -/
def execReadStair (tag : Byte) (payload : List Byte) (s : State) : Host.Outcome State Fault Refusal :=
  received (frameReadStair tag payload) s

/-- R98: READ_CAR: one car record and its group's. -/
def execReadCar (tag : Byte) (payload : List Byte) (s : State) : Host.Outcome State Fault Refusal :=
  received (frameReadCar tag payload) s

/-- R118: READ_DOOR: one door point record with its reasons and its module's image. -/
def execReadDoor (tag : Byte) (payload : List Byte) (s : State) : Host.Outcome State Fault Refusal :=
  received (frameReadDoor tag payload) s

/-- R144: READ_ANNOUNCEMENT in the RECORD form: one announcement record and its channel image. -/
def execReadAnnouncementRecord (tag : Byte) (payload : List Byte) (s : State) : Host.Outcome State Fault Refusal :=
  received (frameReadAnnouncement tag payload) s

/-- R144: READ_ANNOUNCEMENT in the POOL form: the channel pool, the wait list and the matrix up flag. -/
def execReadAnnouncementPool (tag : Byte) (payload : List Byte) (s : State) : Host.Outcome State Fault Refusal :=
  received (frameReadAnnouncement tag payload) s

/-- R144: READ_ANNOUNCEMENT in the FLOOR form: a floor's owner and claim stack. -/
def execReadAnnouncementFloor (tag : Byte) (payload : List Byte) (s : State) : Host.Outcome State Fault Refusal :=
  received (frameReadAnnouncement tag payload) s

/-- R161: READ_NODE: one field node record whole. -/
def execReadNode (tag : Byte) (payload : List Byte) (s : State) : Host.Outcome State Fault Refusal :=
  received (frameReadNode tag payload) s

end Sys2Proof.Machine
end

