-- ==== Sys2Proof/Machine/ExecRequests.lean ====
section
/-!
DEFINITION. The requests that act (R165). The flag byte of FIRE_SERVICE and the form byte of RESTART decide within one kind;
WellFormed ties them to the row.
-/

namespace Sys2Proof.Machine

/-- R15: RESET_REGIME: a regime reset is started. -/
def execResetRegime (tag : Byte) (payload : List Byte) (s : State) : Host.Outcome State Fault Refusal :=
  received (frameResetRegime tag payload) s

/-- R12: START_GENERAL: GENERAL is entered at the host's request. -/
def execStartGeneral (tag : Byte) (payload : List Byte) (s : State) : Host.Outcome State Fault Refusal :=
  received (frameStartGeneral tag payload) s

/-- R13: EVACUATE_FLOORS: the ALERT floors of a span are admitted with kind MANUAL. -/
def execEvacuateFloors (tag : Byte) (payload : List Byte) (s : State) : Host.Outcome State Fault Refusal :=
  received (frameEvacuateFloors tag payload) s

/-- R14: SET_OCCUPANCY: one floor's occupancy, clamped to 2000. -/
def execSetOccupancy (tag : Byte) (payload : List Byte) (s : State) : Host.Outcome State Fault Refusal :=
  received (frameSetOccupancy tag payload) s

/-- R42: DISABLE_ZONE: a zone is taken out of service unless it is CONFIRMED. -/
def execDisableZone (tag : Byte) (payload : List Byte) (s : State) : Host.Outcome State Fault Refusal :=
  received (frameDisableZone tag payload) s

/-- R43: ENABLE_ZONE: a DISABLED zone is back in service with its last input as a fresh arrival. -/
def execEnableZone (tag : Byte) (payload : List Byte) (s : State) : Host.Outcome State Fault Refusal :=
  received (frameEnableZone tag payload) s

/-- R92: RECALL_GROUP: a group's recall is started or renewed with the REQUEST mark. -/
def execRecallGroup (tag : Byte) (payload : List Byte) (s : State) : Host.Outcome State Fault Refusal :=
  received (frameRecallGroup tag payload) s

/-- R95: RELEASE_GROUP: a group's recall is ended where nothing forbids it. -/
def execReleaseGroup (tag : Byte) (payload : List Byte) (s : State) : Host.Outcome State Fault Refusal :=
  received (frameReleaseGroup tag payload) s

/-- R90: FIRE_SERVICE with the on flag. -/
def execFireServiceOn (tag : Byte) (payload : List Byte) (s : State) : Host.Outcome State Fault Refusal :=
  received (frameFireService tag payload) s

/-- R91: FIRE_SERVICE with the off flag. -/
def execFireServiceOff (tag : Byte) (payload : List Byte) (s : State) : Host.Outcome State Fault Refusal :=
  received (frameFireService tag payload) s

/-- R114: RELEASE_DOORS: floor and stair pairs join the manual release set. -/
def execReleaseDoors (tag : Byte) (payload : List Byte) (s : State) : Host.Outcome State Fault Refusal :=
  received (frameReleaseDoors tag payload) s

/-- R114: RESTORE_DOORS: floor and stair pairs leave the manual release set. -/
def execRestoreDoors (tag : Byte) (payload : List Byte) (s : State) : Host.Outcome State Fault Refusal :=
  received (frameRestoreDoors tag payload) s

/-- R135: ANNOUNCE: a TENANT record over a span. -/
def execAnnounce (tag : Byte) (payload : List Byte) (s : State) : Host.Outcome State Fault Refusal :=
  received (frameAnnounce tag payload) s

/-- R136: CANCEL_ANNOUNCEMENT: a REQUESTED record is cancelled. -/
def execCancelAnnouncement (tag : Byte) (payload : List Byte) (s : State) : Host.Outcome State Fault Refusal :=
  received (frameCancelAnnouncement tag payload) s

/-- R139: BEGIN_LIVE: the LIVE record over a span. -/
def execBeginLive (tag : Byte) (payload : List Byte) (s : State) : Host.Outcome State Fault Refusal :=
  received (frameBeginLive tag payload) s

/-- R141: END_LIVE: the LIVE record is ended. -/
def execEndLive (tag : Byte) (payload : List Byte) (s : State) : Host.Outcome State Fault Refusal :=
  received (frameEndLive tag payload) s

/-- R173: RESTART in the WARM form. -/
def execRestartWarm (tag : Byte) (payload : List Byte) (s : State) : Host.Outcome State Fault Refusal :=
  received (frameRestart tag payload) s

/-- R173: RESTART in the COLD form. -/
def execRestartCold (tag : Byte) (payload : List Byte) (s : State) : Host.Outcome State Fault Refusal :=
  received (frameRestart tag payload) s

/-- R180: BEGIN_COMMISSION: a commissioning session is opened. -/
def execBeginCommission (tag : Byte) (payload : List Byte) (s : State) : Host.Outcome State Fault Refusal :=
  received (frameBeginCommission tag payload) s

/-- R181: WRITE_CONFIG: one record of the staged image is replaced whole. -/
def execWriteConfig (tag : Byte) (payload : List Byte) (s : State) : Host.Outcome State Fault Refusal :=
  received (frameWriteConfig tag payload) s

/-- R182: COMMIT_CONFIG: the staged image is clamped, validated and its store write started. -/
def execCommitConfig (tag : Byte) (payload : List Byte) (s : State) : Host.Outcome State Fault Refusal :=
  received (frameCommitConfig tag payload) s

/-- R185: ABANDON_COMMISSION: the session ends without a commit. -/
def execAbandonCommission (tag : Byte) (payload : List Byte) (s : State) : Host.Outcome State Fault Refusal :=
  received (frameAbandonCommission tag payload) s

end Sys2Proof.Machine
end

