-- ==== Sys2Proof/Machine/ExecTimers.lean ====
section
/-!
DEFINITION. The local lines and the expiries of the blocks' timers. A timer counted in seconds expires on reaching 0: an expiry
row that finds it stopped or above 0 is not due and leaves the part as it stands (log entries 4 and 6).
-/

namespace Sys2Proof.Machine

/-- R44: a local input line changes level. -/
def execLocalLineChange (line : Fin 4) (level : LineLevel) (s : State) : Host.Outcome State Fault Refusal :=
  event (fun s => s.modZe (ZE.modLine line.val (changedLine level))) s

/-- R44: a line's debounce timer expires. -/
def execDebounceExpiry (line : Fin 4) (s : State) : Host.Outcome State Fault Refusal := event (debounced line.val) s

/-- R34: a zone's verification window expires. -/
def execWindowExpiry (link : Line) (zone : Nat) (s : State) : Host.Outcome State Fault Refusal :=
  event (windowExpired link zone) s

/-- R61: a stair's drain timer expires. -/
def execDrainExpiry (stair : Nat) (s : State) : Host.Outcome State Fault Refusal := event (drainExpired stair) s

/-- R68: the advance timer expires. -/
def execForcedAdvance (s : State) : Host.Outcome State Fault Refusal := event advanceExpired s

/-- R84: a car's retry timer expires. -/
def execRetryExpiry (car : Nat) (s : State) : Host.Outcome State Fault Refusal :=
  event (fun s => s.liftLc (LAcc.retryExpired car)) s

/-- R108: a PENDING door point's dwell expires. -/
def execDwellExpired (point : Nat) (s : State) : Host.Outcome State Fault Refusal :=
  event (fun s => s.liftDs (DAcc.dwellExpired s.denv point)) s

/-- R111: a door point's held-open timer expires. -/
def execHeldOpenExpiry (point : Nat) (s : State) : Host.Outcome State Fault Refusal :=
  event (fun s => s.liftDs (DAcc.heldOpenExpired s.denv point)) s

/-- R134: a channel's play timer expires. -/
def execPlayOverrun (channel : Nat) (s : State) : Host.Outcome State Fault Refusal :=
  event (fun s => s.liftAr (AAcc.overrun s.aenv channel)) s

end Sys2Proof.Machine
end

