-- ==== Sys2Proof/Machine/Dispatch.lean ====
section
/-! DEFINITION. The dispatch: one arm per command, one meaning per arm. -/

namespace Sys2Proof.Machine

def exec (i : Instr) (s : State) : Host.Outcome State Fault Refusal :=
  match i with
  | .powerOn => Sys2Proof.Machine.execPowerOn s
  | .secondCountTick => Sys2Proof.Machine.execSecondCountTick s
  | .readRegime tag payload => Sys2Proof.Machine.execReadRegime tag payload s
  | .readFloor tag payload => Sys2Proof.Machine.execReadFloor tag payload s
  | .readZone tag payload => Sys2Proof.Machine.execReadZone tag payload s
  | .readStair tag payload => Sys2Proof.Machine.execReadStair tag payload s
  | .readCar tag payload => Sys2Proof.Machine.execReadCar tag payload s
  | .readDoor tag payload => Sys2Proof.Machine.execReadDoor tag payload s
  | .readAnnouncementRecord tag payload => Sys2Proof.Machine.execReadAnnouncementRecord tag payload s
  | .readAnnouncementPool tag payload => Sys2Proof.Machine.execReadAnnouncementPool tag payload s
  | .readAnnouncementFloor tag payload => Sys2Proof.Machine.execReadAnnouncementFloor tag payload s
  | .readNode tag payload => Sys2Proof.Machine.execReadNode tag payload s
  | .resetRegime tag payload => Sys2Proof.Machine.execResetRegime tag payload s
  | .startGeneral tag payload => Sys2Proof.Machine.execStartGeneral tag payload s
  | .evacuateFloors tag payload => Sys2Proof.Machine.execEvacuateFloors tag payload s
  | .setOccupancy tag payload => Sys2Proof.Machine.execSetOccupancy tag payload s
  | .disableZone tag payload => Sys2Proof.Machine.execDisableZone tag payload s
  | .enableZone tag payload => Sys2Proof.Machine.execEnableZone tag payload s
  | .recallGroup tag payload => Sys2Proof.Machine.execRecallGroup tag payload s
  | .releaseGroup tag payload => Sys2Proof.Machine.execReleaseGroup tag payload s
  | .fireServiceOn tag payload => Sys2Proof.Machine.execFireServiceOn tag payload s
  | .fireServiceOff tag payload => Sys2Proof.Machine.execFireServiceOff tag payload s
  | .releaseDoors tag payload => Sys2Proof.Machine.execReleaseDoors tag payload s
  | .restoreDoors tag payload => Sys2Proof.Machine.execRestoreDoors tag payload s
  | .announce tag payload => Sys2Proof.Machine.execAnnounce tag payload s
  | .cancelAnnouncement tag payload => Sys2Proof.Machine.execCancelAnnouncement tag payload s
  | .beginLive tag payload => Sys2Proof.Machine.execBeginLive tag payload s
  | .endLive tag payload => Sys2Proof.Machine.execEndLive tag payload s
  | .restartWarm tag payload => Sys2Proof.Machine.execRestartWarm tag payload s
  | .restartCold tag payload => Sys2Proof.Machine.execRestartCold tag payload s
  | .beginCommission tag payload => Sys2Proof.Machine.execBeginCommission tag payload s
  | .writeConfig tag payload => Sys2Proof.Machine.execWriteConfig tag payload s
  | .commitConfig tag payload => Sys2Proof.Machine.execCommitConfig tag payload s
  | .abandonCommission tag payload => Sys2Proof.Machine.execAbandonCommission tag payload s
  | .unknownKind kind tag payload => Sys2Proof.Machine.execUnknownKind kind tag payload s
  | .supervisoryFrameDiscarded => Sys2Proof.Machine.execSupervisoryFrameDiscarded s
  | .receiveTimeout => Sys2Proof.Machine.execReceiveTimeout s
  | .hostSilent => Sys2Proof.Machine.execHostSilent s
  | .frameSent => Sys2Proof.Machine.execFrameSent s
  | .warmRestart => Sys2Proof.Machine.execWarmRestart s
  | .coldRestart => Sys2Proof.Machine.execColdRestart s
  | .storeWriteComplete readBackEqual => Sys2Proof.Machine.execStoreWriteComplete readBackEqual s
  | .localLineChange line level => Sys2Proof.Machine.execLocalLineChange line level s
  | .debounceExpiry line => Sys2Proof.Machine.execDebounceExpiry line s
  | .windowExpiry link zone => Sys2Proof.Machine.execWindowExpiry link zone s
  | .drainExpiry stair => Sys2Proof.Machine.execDrainExpiry stair s
  | .forcedAdvance => Sys2Proof.Machine.execForcedAdvance s
  | .retryExpiry car => Sys2Proof.Machine.execRetryExpiry car s
  | .dwellExpired point => Sys2Proof.Machine.execDwellExpired point s
  | .heldOpenExpiry point => Sys2Proof.Machine.execHeldOpenExpiry point s
  | .playOverrun channel => Sys2Proof.Machine.execPlayOverrun channel s
  | .slotStart port => Sys2Proof.Machine.execSlotStart port s
  | .quiet port address control payload => Sys2Proof.Machine.execQuiet port address control payload s
  | .changes port address control payload => Sys2Proof.Machine.execChanges port address control payload s
  | .snapshot port address control payload => Sys2Proof.Machine.execSnapshot port address control payload s
  | .groupStatus port address control payload => Sys2Proof.Machine.execGroupStatus port address control payload s
  | .moduleStatus port address control payload => Sys2Proof.Machine.execModuleStatus port address control payload s
  | .matrixStatus port address control payload => Sys2Proof.Machine.execMatrixStatus port address control payload s
  | .fieldFrameDiscarded port => Sys2Proof.Machine.execFieldFrameDiscarded port s
  | .replyWindowMiss port => Sys2Proof.Machine.execReplyWindowMiss port s
  | .byteReceived byte => Sys2Proof.Machine.execByteReceived byte s
  | .lossOfPower => Sys2Proof.Machine.execLossOfPower s

end Sys2Proof.Machine
end

