-- ==== Sys2Proof/Machine/Step.lean ====
section
/-!
DEFINITION. The step of the part: the command at the front of the queue is taken and run with the queue's rest; on an empty
queue one second passes (log entry 4).
-/

namespace Sys2Proof.Machine

/-- One step. -/
def step (s : State) : Host.Outcome State Fault Refusal :=
  match s.pending with
  | c :: rest => exec c { s with pending := rest }
  | [] => .next (idleSecond s)

/-- The state with the command that a word spells at the front of its queue; a word that spells none leaves it. -/
def State.withFetchWord (s : State) (nbits w : Nat) : State :=
  match decodeTableWord nbits w with
  | some c => { s with pending := c :: s.pending }
  | none => s

end Sys2Proof.Machine
end

