-- ==== Sys2Proof/Machine/Formats.lean ====
section
/-!
DEFINITION. The supervisory frames that the part sends (R188–R191): the payloads of replies and of reports, and the bytes
of a frame. Field orders that the spec fixes only by "the order the rule lists them" are named in log entry 24.
-/

namespace Sys2Proof.Machine

/-! ## Parts of records -/

/-- R189: `n` bytes of an absent field. -/
def absent (n : Nat) : List Byte := List.replicate n 0xFF#8

/-- R189: a label, or an absent one. -/
def labelBytes : Option Label → List Byte
  | some t => t
  | none => absent 4

/-- R22, R191: the shares of an admission, with their count; absent shares count none. -/
def shareBytes (a : Option Admission) : List Byte :=
  countedBytes (((a.bind (·.shares)).getD []).map (fun e => byte e.1 :: leBytes 2 e.2))

/-- R191: the six trouble counts of a REGIME_EVENT, two bytes each, in the order of R18. -/
def troubleBytes (t : Trouble) : List Byte :=
  [t.zones, t.nodes, t.doors, t.cars, t.host, t.fallback].flatMap (leBytes 2)

/-- R189: a command image: its kind and its landing. -/
def commandBytes : Option Command → List Byte
  | some (.recall l) => [0, byte l]
  | some c => [commandCode c, 0xFF#8]
  | none => absent 2

/-- R97, R98: a recall target: floor, label and landing. -/
def targetBytes : Option TargetView → List Byte
  | some t => [optByte t.floor] ++ labelBytes t.label ++ [byte t.landing]
  | none => absent 6

/-- R76, R98: a position cache. -/
def cacheBytes : Option Cache → List Byte
  | some c =>
    [byte c.landing, optByte c.floor, codeOf directions c.direction, codeOf carDoors c.door, codeOf groupModes c.mode]
  | none => absent 5

/-- R118: an output image whole. DESIGN CHOICE (log entry 34): its latch byte, then its enable byte, as the OUTPUTS frame of
R192 carries them. -/
def outputBytes (m : Module) : List Byte := outputsPayload m

/-- R132: a channel image: routing, programme, generation and the seconds left on the play timer. -/
def channelBytes (c : Channel) : List Byte :=
  floorSetBytes c.routing ++ [programmeByte c.programme, byte c.generation] ++ optWord c.playTimer

/-- R144: an announcement record, its fields in the order of chapter 06. DESIGN CHOICE (log entry 34): the creation number
has four bytes, and an absent requested set is eight bytes FF. -/
def recBytes (r : Rec) : List Byte :=
  [byte r.id] ++ leBytes 4 r.creation ++ [codeOf recClasses r.cls, codeOf recSources r.source, optByte r.message,
    byte r.repeats, byte r.plays] ++ (match r.requested with
      | some f => floorSetBytes f
      | none => absent 8) ++ floorSetBytes r.owned ++ [optByte r.channel, codeOf recStates r.state]

/-- R189: an action by the code of its frame and its zone number. -/
def actionBytes (a : Action) : List Byte :=
  [actionCode a, match a with
    | .resetDetectors z => byte z
    | .askSnapshot => 0xFF#8]

/-- R189: an image by the code of its frame and its car or channel number. -/
def imageNameBytes (n : ImageName) : List Byte :=
  [imageCode n, match n with
    | .carCommand c => byte c
    | .channel c => byte c
    | .lockoutMask | .outputs => 0xFF#8]

/-- The node kind of a port (chapter 07): panel 0, group controller 1, door module 2, matrix 3. -/
def nodeKindByte : Line → Byte
  | .p _ => 0
  | .g _ => 1
  | .d _ => 2
  | .a => 3
  | .l => 0xFF#8

/-- R189: the most entries of a list that fit into `room` bytes beside the list's count. -/
def fitting (room : Nat) : List (List Byte) → List (List Byte)
  | [] => []
  | e :: es => if e.length ≤ room then e :: fitting (room - e.length) es else []

/-- R189: a record whose list is cut at the last whole entry that fits into the 246 bytes of one reply. -/
def fitted (head : List Byte) (entries : List (List Byte)) (tail : List Byte) : List Byte :=
  head ++ countedBytes (fitting (245 - head.length - tail.length) entries) ++ tail

/-! ## Query replies -/

/-- R22: the regime record. -/
def regimeBytes (v : RegimeView) : List Byte :=
  [codeOf levels v.level, flagByte v.resetPending] ++ countedBytes (v.origins.map (fun o => [byte o])) ++
    [byte v.originLimit] ++ timeBytes v.entryTime ++ timeBytes v.secondCount ++
    [flagByte v.commonAlarm, flagByte v.commonTrouble] ++ leBytes 2 v.trouble.zones ++
    [byte v.trouble.nodes, byte v.trouble.doors, byte v.trouble.cars, byte v.trouble.host, byte v.trouble.fallback] ++
    leBytes 2 (v.trouble.zones + v.trouble.nodes + v.trouble.doors + v.trouble.cars + v.trouble.host +
      v.trouble.fallback) ++ [codeOf modes v.mode]

/-- R22: a floor record with its place in the pending list. DESIGN CHOICE (log entry 30): of a floor that is not STAIR the
primary stair is sent as absent and the secondary stair as the image has it. -/
def floorRecordBytes (f : Floor) (position : Option Nat) : List Byte :=
  f.label ++ [codeOf egresses f.egress, if f.egress = .stair then byte f.primary else 0xFF#8, optByte f.secondary,
    byte f.weight, flagByte f.reEntry] ++ leBytes 2 f.design ++ leBytes 2 f.occupancy ++
    [codeOf floorStates f.state, flagByte f.origin] ++ leBytes 2 f.alarmCount ++ [flagByte f.lockout,
    optCode admKinds (f.admission.map (·.kind))] ++ shareBytes f.admission ++ (match f.admission with
      | some a => timeBytes a.time
      | none => absent 4) ++ [flagByte position.isSome, optByte position]

/-- R46: a zone record. -/
def zoneRecordBytes (z : Zone) (label : Label) : List Byte :=
  [byte z.link.code, byte z.number, byte z.floor, codeOf zoneKinds z.kind, codeOf latches z.latch, flagByte z.verify,
    quadByte z.groups, optByte z.stair, optCode polarities z.polarity, codeOf zoneStates z.state,
    optCode inputs z.lastInput, flagByte z.clearOnRestore, flagByte z.disabled] ++ (match z.window with
      | some w => [byte w.deadline, flagByte w.restoreSeen, flagByte w.linkLost]
      | none => absent 3) ++ label

/-- R73: a stair record and the scheduler's summary. -/
def stairRecordBytes (s : Stair) (length : Nat) (head : Option Nat) (limit : Nat) (timer : Option Nat) : List Byte :=
  [flagByte s.fitted, byte s.flow] ++ leBytes 2 s.high ++ leBytes 2 s.low ++ leBytes 2 s.load ++
    [byte s.credit, codeOf stairConds s.cond, flagByte s.compromised, flagByte s.saturated, optByte s.drainTimer,
      byte length, optByte head] ++ leBytes 2 limit ++ optWord timer

/-- R189: a zone entry of a trigger list. -/
def triggerBytes (z : TriggerZone) : List Byte :=
  [byte z.link.code, byte z.number, codeOf zoneKinds z.kind, byte z.floor, flagByte (!z.standing)]

/-- R98: a car record and its group's. DESIGN CHOICE (log entry 31): a trigger list too long for one reply is cut at the last
whole entry that leaves room for the fields behind it, which are sent whole. DESIGN CHOICE (log entry 34): an absent echoed
mask is sixteen bytes FF. -/
def carRecordBytes (c : Car) (g : Group) (target : Option TargetView) (dirty : Bool) : List Byte :=
  fitted
    ([byte c.number, byte c.group, byte c.place] ++ cacheBytes c.cache ++ [codeOf services c.service] ++
      commandBytes c.image ++ [codeOf cmdStates c.cmdState, byte c.attempts, optByte c.retry, flagByte g.active,
      flagByte g.triggers.general, flagByte g.triggers.request])
    (g.triggers.zones.map triggerBytes)
    (targetBytes target ++ floorSetBytes g.lockout ++ maskBytes g.mask ++ [flagByte dirty] ++ (match g.echo with
      | some m => maskBytes m
      | none => absent 16))

/-- R118: a door point record, its required state and its module's image. -/
def doorRecordBytes (d : Door) (label : Label) (required : Drive) (reasonSet : QuadSet) (m : Module) (dirty : Bool) :
    List Byte :=
  [byte d.loop.code, byte d.address, byte d.point, byte d.floor, byte d.stair, codeOf normalStates d.normal,
    flagByte d.supervised] ++ label ++ [codeOf drives d.drive, flagByte d.enable, codeOf sensedStates d.sensed,
    codeOf doorConds d.cond, optByte d.dwell] ++ optWord d.heldOpen ++ [codeOf drives required, quadByte reasonSet,
    flagByte m.up] ++ outputBytes m ++ [flagByte dirty]

/-- R144: one channel of the pool. -/
def channelViewBytes (v : ChannelView) : List Byte :=
  [optByte v.channel.holder] ++ channelBytes v.channel ++ [flagByte v.dirty, optByte v.channel.lastSeen]

/-- R144: the channel pool: the fitted count, the reserve and the number of free channels, the list of the fitted
channels, the wait list, and the matrix up flag. -/
def poolBytes (reserve : Nat) (channels : List ChannelView) (waitList : List Nat) (up : Bool) : List Byte :=
  fitted
    ([byte channels.length, byte reserve, byte (channels.filter (fun v => v.channel.holder.isNone)).length] ++
      countedBytes (channels.map channelViewBytes))
    (waitList.map (fun id => [byte id])) [flagByte up]

/-- R161: a node record. -/
def nodeRecordBytes (n : Node) (broadcast : Option Bool) : List Byte :=
  [byte n.port.code, byte n.address, nodeKindByte n.port, codeOf linkStates n.link, byte n.good, byte n.miss] ++
    countedBytes (n.actions.map actionBytes) ++
    countedBytes (n.images.map (fun m => imageNameBytes m.name ++ [flagByte m.dirty, flagByte m.changed])) ++
    [byte n.rotation, flagByte n.seqBit, match broadcast with
      | some b => flagByte b
      | none => 0xFF#8]

/-- R167, R190: what a reply carries after its status and reason. DESIGN CHOICE (log entry 34): the absent channel image of a
record without channel is twelve bytes FF, eight of them its routing set. -/
def contentBytes : Content → List Byte
  | .empty => []
  | .regime v => regimeBytes v
  | .floor f p => floorRecordBytes f p
  | .zone z t => zoneRecordBytes z t
  | .stair s n h l t => stairRecordBytes s n h l t
  | .car c g t d => carRecordBytes c g t d
  | .door d t r s m b => doorRecordBytes d t r s m b
  | .record r c =>
    recBytes r ++ (match c with
      | some ch => channelBytes ch
      | none => absent 12)
  | .pool r cs w u => poolBytes r cs w u
  | .claims c => optByte c.owner :: countedBytes (c.stack.map (fun id => [byte id]))
  | .node n b => nodeRecordBytes n b
  | .recordId id => [byte id]
  | .clamped total entries =>
    leBytes 2 total ++ entries.flatMap (fun e => byte e.1 :: (leBytes 2 e.2.1 ++ [byte e.2.2]))
  | .invalid table index => byte table :: leBytes 2 index
  | .kind k => [k]

/-- R189: the reason; 0 where there is none. -/
def reasonByte : Option Reason → Byte
  | none => 0
  | some r => codeOf reasons r + 1

/-- R190: a reply payload. -/
def replyPayload (r : Reply) : List Byte := codeOf statuses r.status :: reasonByte r.reason :: contentBytes r.content

/-! ## Reports -/

def regimeCauses : List RegimeCause :=
  [.origin, .generalKey, .originLimit, .startGeneral, .fallback, .resetComplete, .resetStarted, .resetAbandoned,
    .troubleChanged]
def floorCauses : List FloorCause := [.admitted, .lockout]
def zoneCauses : List ZoneCause :=
  [.arrival, .corroborated, .reAlarm, .windowExpiry, .verifyDropped, .restored, .followed, .snapshotMissing, .disabled,
    .enabled, .nodeDown]
def stairCauses : List StairCause := [.congested, .available, .compromised, .saturated, .noStair]
def doorCauses : List DoorCause := [.dwellExpired, .agreed, .redriven, .heldOpen, .closed, .regimeNormal]
def annCauses : List AnnCause :=
  [.created, .granted, .preempted, .noChannel, .suspended, .claimed, .cancelRequested, .completed, .cancelled, .displaced,
    .liveEnded, .regimeEnded, .floorsDisplaced, .playOverrun]
def nodeCauses : List NodeCause := [.nodeUp, .suspect, .recovered, .nodeLost]
def deviceCauses : List DeviceCause :=
  [.powerOn, .warmRestart, .coldRestart, .hostSilent, .hostResumed, .commissionBegun, .configApplied, .storeFailed,
    .commissionAborted, .commissionAbandoned]

/-- R191: the code of a group report's cause. -/
def groupCauseByte : GroupCause → Byte
  | .recallStarted _ => 0
  | .retargeted _ => 1
  | .recallEnded _ => 2

/-- R188, R191: the kind of a report and the code of its cause. -/
def bodyKind : Body → Byte × Byte
  | .regime c .. => (0xC0#8, codeOf regimeCauses c)
  | .floor c .. => (0xC1#8, codeOf floorCauses c)
  | .zone c .. => (0xC2#8, codeOf zoneCauses c)
  | .zoneLink .. => (0xC2#8, codeOf zoneCauses .nodeDown)
  | .stair c .. => (0xC3#8, codeOf stairCauses c)
  | .group c .. => (0xC4#8, groupCauseByte c)
  | .car .. => (0xC4#8, 3)
  | .door c .. => (0xC5#8, codeOf doorCauses c)
  | .moduleDown .. => (0xC5#8, 6)
  | .announcement c .. => (0xC6#8, codeOf annCauses c)
  | .matrixDown .. => (0xC6#8, 14)
  | .node c .. => (0xC7#8, codeOf nodeCauses c)
  | .device c .. => (0xC8#8, codeOf deviceCauses c)

/-- R189: the trigger of a RECALL_STARTED report. -/
def triggerNameBytes : TriggerName → List Byte
  | .zone link number => [0, byte link.code, byte number]
  | .general => [1, 0xFF#8, 0xFF#8]
  | .request => [2, 0xFF#8, 0xFF#8]

/-- R189: the origin of a RECALL_ENDED report. -/
def endOriginByte : EndOrigin → Byte
  | .host => 0
  | .resetComplete => 1
  | .lastTrigger => 2

/-- R97: a group report; its car fields are absent. -/
def groupReportBytes (cause : GroupCause) (number : Nat) (target : Option TargetView) : List Byte :=
  [0xFF#8, byte number] ++ absent 11 ++ targetBytes target ++ (match cause with
    | .recallStarted t => triggerNameBytes t ++ absent 7
    | .retargeted old => absent 3 ++ targetBytes old ++ absent 1
    | .recallEnded o => absent 9 ++ [endOriginByte o])

/-- R97: a car report; its group fields are absent. -/
def carReportBytes (c : Car) (label : Option Label) : List Byte :=
  [byte c.number, byte c.group, codeOf services c.service] ++ commandBytes c.image ++
    [codeOf cmdStates c.cmdState, byte c.attempts] ++ (match c.cache with
      | some k => [byte k.landing, optByte k.floor]
      | none => absent 2) ++ labelBytes label ++ absent 16

/-- R189–R191: the own fields of a report. DESIGN CHOICE (log entry 34): the absent floor set of a MATRIX_DOWN report is eight
bytes FF, and its number of records holding a channel (R142) is one byte after the floor set, absent at every other cause; the check
value of a DEVICE_EVENT has four bytes. -/
def bodyBytes : Body → List Byte
  | .regime _ old new alarm trouble counts =>
    [codeOf levels old, codeOf levels new, flagByte alarm, flagByte trouble] ++ troubleBytes counts
  | .floor _ index f =>
    [byte index] ++ f.label ++ [codeOf floorStates f.state, flagByte f.lockout,
      optCode admKinds (f.admission.map (·.kind))] ++ shareBytes f.admission
  | .zone _ z label =>
    [byte z.link.code, byte z.number, byte z.floor] ++ label ++ [codeOf zoneKinds z.kind, codeOf zoneStates z.state,
      optCode inputs z.lastInput] ++ absent 6
  | .zoneLink link unknown confirmed verifying =>
    [byte link.code] ++ absent 9 ++ leBytes 2 unknown ++ leBytes 2 confirmed ++ leBytes 2 verifying
  | .stair _ index s floor =>
    [byte index] ++ leBytes 2 s.load ++ [byte s.credit, codeOf stairConds s.cond, flagByte s.compromised,
      flagByte s.saturated, optByte (floor.map (·.1))] ++ labelBytes (floor.map (·.2))
  | .group cause number target => groupReportBytes cause number target
  | .car c label => carReportBytes c label
  | .door _ d label =>
    [byte d.index, byte d.loop.code, byte d.address, byte d.point, byte d.floor] ++ label ++ [byte d.stair,
      codeOf doorConds d.cond, codeOf sensedStates d.sensed, codeOf drives d.drive, flagByte d.enable] ++ absent 2
  | .moduleDown loop address made faults =>
    [0xFF#8, byte loop.code, byte address] ++ absent 11 ++ [byte made, byte faults]
  | .announcement _ r floors =>
    [byte r.id, byte r.slot, codeOf recClasses r.cls, codeOf recSources r.source, optByte r.message,
      codeOf recStates r.state, optByte r.channel, byte r.plays, byte r.repeats] ++ floorSetBytes floors ++ absent 1
  | .matrixDown holding => absent 17 ++ [byte holding]
  | .node _ n =>
    [byte n.port.code, byte n.address, nodeKindByte n.port, codeOf linkStates n.link, byte n.good, byte n.miss,
      byte n.actions.length, byte (n.images.filter (·.dirty)).length]
  | .device _ mode check => optCode modes mode :: (match check with
      | some c => leBytes 4 c.toNat
      | none => absent 4)

/-- R191: a report payload: entry time, cause, own fields. -/
def reportPayload (r : Report) : List Byte := timeBytes r.time ++ [(bodyKind r.body).2] ++ bodyBytes r.body

/-- R188: the report flags: the class in the two low bits, the LOST flag in the top bit. -/
def reportFlags (cls : Cls) (lost : Bool) : Byte :=
  (match cls with
    | .alarm => 0#8
    | .trouble => 1#8
    | .routine => 2#8) ||| (if lost then 0x80#8 else 0)

/-! ## Frames -/

/-- R188: a frame of a body: sync byte, body length, body, check value. -/
def frameBytes (body : List Byte) : List Byte :=
  Config.syncByte :: byte body.length :: (body ++ crc16Bytes (byte body.length :: body))

/-- R188: the body of the frame being sent. -/
def TxFrame.body : TxFrame → List Byte
  | .reply r => r.kind :: r.tag :: replyPayload r
  | .report r lost => (bodyKind r.body).1 :: reportFlags r.cls lost :: reportPayload r

/-- R188: the bytes of the frame being sent. -/
def TxFrame.bytes (f : TxFrame) : List Byte := frameBytes f.body

/-- R163, R188: the bytes that a host sends for a request. -/
def requestBytes (kind tag : Byte) (payload : List Byte) : List Byte := frameBytes (kind :: tag :: payload)

end Sys2Proof.Machine
end

