-- ==== Sys2Proof/Safety.lean ====
section
/-!
DEFINITION. What a sound state of the part is, in the terms that the statements use: one property per rule that says what
holds "at all times", and their conjunction.
-/

namespace Sys2Proof.Machine

/-- R171: the report queue never holds more than 64 reports. -/
def State.QueueBounded (s : State) : Prop := s.sp.reports.length ≤ 64

/-- R166: the reply list holds up to 8 replies. -/
def State.RepliesBounded (s : State) : Prop := s.sp.replies.length ≤ 8

/-- R20: COMMON_ALARM is active exactly while the level is PHASED or GENERAL. -/
def State.AlarmAgrees (s : State) : Prop :=
  s.rc.commonAlarm = true ↔ (s.rc.level = .phased ∨ s.rc.level = .general)

/-- R19: COMMON_TROUBLE is active exactly while the trouble total is above 0. -/
def State.TroubleAgrees (s : State) : Prop :=
  s.rc.commonTrouble = true ↔
    0 < s.rc.trouble.zones + s.rc.trouble.nodes + s.rc.trouble.doors + s.rc.trouble.cars + s.rc.trouble.host +
      s.rc.trouble.fallback

/-- R5: a floor's lockout flag is set exactly when its alarm count is above 0. -/
def State.LockoutAgrees (s : State) : Prop :=
  ∀ fl ∈ s.rc.floors, (fl.lockout = true ↔ 0 < fl.alarmCount)

/-- R3: the origin list holds up to 8 floors, none twice. -/
def State.OriginsSound (s : State) : Prop := s.rc.origins.length ≤ 8 ∧ s.rc.origins.Nodup

/-- R154, R158: a node's counters and its action queue keep their ranges. -/
def State.NodesBounded (s : State) : Prop :=
  ∀ n ∈ s.flc.nodes, n.good ≤ 255 ∧ n.miss ≤ 15 ∧ n.actions.length ≤ 4

/-- R57, R61: a stair's load and drain credit keep their ranges. -/
def State.StairsBounded (s : State) : Prop :=
  ∀ st ∈ s.es.stairs, st.load ≤ 65535 ∧ st.credit ≤ 5

/-- The group numbers of the LC and the indices of the door point table are each given once (chapters 04 and 05). -/
def State.KeysDistinct (s : State) : Prop :=
  (s.lc.groups.map (·.number)).Nodup ∧ (s.ds.doors.map (·.index)).Nodup

/-- Car numbers are each given once; in FALLBACK they count up from 0 (chapter 04, R99). -/
def State.CarsDistinct (s : State) : Prop :=
  (s.lc.cars.map (·.number)).Nodup ∧ (s.cs.fallback = true → ∀ c ∈ s.lc.cars, c.number < s.lc.cars.length)

/-- R178: the shape of a configuration image: the record count of each table, the bytes of a label, the entries of a landing
map. -/
structure ImageShaped (i : Image) : Prop where
  floors : i.floors.length = 64
  stairs : i.stairs.length = 4
  zones : i.zones.length = 1028
  nodes : i.nodes.length = 31
  groups : i.groups.length = 4
  cars : i.cars.length = 16
  doors : i.doors.length = 160
  messages : i.messages.length = 64
  labels : ∀ r ∈ i.floors, r.label.length = 4
  maps : ∀ r ∈ i.groups, r.map.length = 64

/-- R178: the image that the store holds, and the staged image, have the shape of an image. -/
def State.ImagesShaped (s : State) : Prop :=
  (∀ i k, s.cs.store = .holds i k → ImageShaped i) ∧ (∀ i, s.cs.staged = some i → ImageShaped i)

/-- R122: the announcement table: slots 0–15 and ids 1–255, none given twice, the id counter in 1–255, and no record newer
than the creation counter. -/
def State.RecordsSound (s : State) : Prop :=
  1 ≤ s.ar.nextId ∧ s.ar.nextId ≤ 255 ∧ s.ar.creation < 4294967296 ∧ (s.ar.records.map (·.slot)).Nodup ∧
    (s.ar.records.map (·.id)).Nodup ∧
    ∀ r ∈ s.ar.records, r.slot < 16 ∧ 1 ≤ r.id ∧ r.id ≤ 255 ∧ r.creation ≤ s.ar.creation

/-- R125, R126: one floor's claims: a stack of at most three, no id twice and not the owner's, each the id of a record. -/
structure ClaimsOrdered (records : List Rec) (c : Claims) : Prop where
  depth : c.stack.length ≤ 3
  once : c.stack.Nodup
  apart : ∀ id, c.owner = some id → id ∉ c.stack
  recorded : ∀ id, (c.owner = some id ∨ id ∈ c.stack) → ∃ r ∈ records, r.id = id

/-- R123, R125, R126: every configured floor has its claims, and a record owns exactly the floors that name it as owner. -/
structure State.ClaimsSound (s : State) : Prop where
  floors : s.ar.claims.length = s.rc.floors.length
  ordered : ∀ c ∈ s.ar.claims, ClaimsOrdered s.ar.records c
  owners : ∀ f c, f < 64 → s.ar.claims[f]? = some c → ∀ r ∈ s.ar.records,
    (hasBit r.owned f = true ↔ c.owner = some r.id)

/-- R128, R129: the channel pool and its wait list: a channel's holder is the record that holds it, so that no channel is
held twice; free and held channels are all the fitted ones; the records in WAITING stand in the wait list once each. -/
structure State.PoolSound (s : State) : Prop where
  held : ∀ n id, (∃ c, s.ar.channels[n]? = some c ∧ c.holder = some id) ↔
    ∃ r ∈ s.ar.records, r.id = id ∧ r.channel = some n
  counted : (freeChannels s.ar).length + (s.ar.records.filter (fun r => r.channel.isSome)).length = s.ar.channels.length
  once : s.ar.waitList.Nodup
  waiting : ∀ id, id ∈ s.ar.waitList ↔ ∃ r ∈ s.ar.records, r.id = id ∧ r.state = .waiting

/-- R103, R104: every drive latch is in the state that its point requires: RELEASE in GENERAL, on a floor with the re-entry
flag in PHASED, on a floor in EVAC, for a pair of the manual release set and for a point that is normally FREE; else LOCK. A
floor without record is QUIET and has no flag (R101). -/
def State.LatchesRequired (s : State) : Prop :=
  ∀ d ∈ s.ds.doors, (d.drive = .release ↔
    s.rc.level = .general ∨
    (s.rc.level = .phased ∧ ∃ fl, s.rc.floors[d.floor]? = some fl ∧ fl.reEntry = true) ∨
    (∃ fl, s.rc.floors[d.floor]? = some fl ∧ fl.state = .evac) ∨
    (∃ set, s.ds.manual[d.stair]? = some set ∧ hasBit set d.floor = true) ∨
    d.normal = .free)

/-- R101: every module's output image holds the latch and the enable of its points, and RELEASE without enable for a point
number without a point. -/
def State.OutputsAgree (s : State) : Prop :=
  ∀ m ∈ s.ds.modules, m.outputs = outputImage s.ds.doors m.loop m.address

/-- All of them. -/
structure State.Sound (s : State) : Prop where
  queue : s.QueueBounded
  replies : s.RepliesBounded
  alarm : s.AlarmAgrees
  trouble : s.TroubleAgrees
  lockout : s.LockoutAgrees
  origins : s.OriginsSound
  nodes : s.NodesBounded
  stairs : s.StairsBounded
  keys : s.KeysDistinct
  cars : s.CarsDistinct
  images : s.ImagesShaped
  records : s.RecordsSound
  claims : s.ClaimsSound
  pool : s.PoolSound
  latches : s.LatchesRequired
  outputs : s.OutputsAgree

/-- The reply that was made last: the newest of the reply list, or the reply that the transmitter took at once. -/
def newestReply (s : State) : Option Reply :=
  match s.sp.replies.getLast? with
  | some r => some r
  | none =>
    match s.sp.tx with
    | some (.reply r) => some r
    | _ => none

/-- A part that takes a request and answers it: it has power, no restart is pending (R164) and the reply list has room
(R166). -/
def State.answers (s : State) : Prop :=
  s.powered = true ∧ s.sp.restart = none ∧ s.sp.replies.length < 8

/-! ## The commands that carry a frame -/

/-- The supervisory frame that a request row stands for: its kind (R190), its tag and its payload. -/
def frameCommand : Instr → Option (Byte × Byte × List Byte)
  | .readRegime tag p => some (0x01#8, tag, p)
  | .readFloor tag p => some (0x02#8, tag, p)
  | .readZone tag p => some (0x03#8, tag, p)
  | .readStair tag p => some (0x04#8, tag, p)
  | .readCar tag p => some (0x05#8, tag, p)
  | .readDoor tag p => some (0x06#8, tag, p)
  | .readAnnouncementRecord tag p => some (0x07#8, tag, p)
  | .readAnnouncementPool tag p => some (0x07#8, tag, p)
  | .readAnnouncementFloor tag p => some (0x07#8, tag, p)
  | .readNode tag p => some (0x08#8, tag, p)
  | .resetRegime tag p => some (0x09#8, tag, p)
  | .startGeneral tag p => some (0x0A#8, tag, p)
  | .evacuateFloors tag p => some (0x0B#8, tag, p)
  | .setOccupancy tag p => some (0x0C#8, tag, p)
  | .disableZone tag p => some (0x0D#8, tag, p)
  | .enableZone tag p => some (0x0E#8, tag, p)
  | .recallGroup tag p => some (0x0F#8, tag, p)
  | .releaseGroup tag p => some (0x10#8, tag, p)
  | .fireServiceOn tag p => some (0x11#8, tag, p)
  | .fireServiceOff tag p => some (0x11#8, tag, p)
  | .releaseDoors tag p => some (0x12#8, tag, p)
  | .restoreDoors tag p => some (0x13#8, tag, p)
  | .announce tag p => some (0x14#8, tag, p)
  | .cancelAnnouncement tag p => some (0x15#8, tag, p)
  | .beginLive tag p => some (0x16#8, tag, p)
  | .endLive tag p => some (0x17#8, tag, p)
  | .restartWarm tag p => some (0x18#8, tag, p)
  | .restartCold tag p => some (0x18#8, tag, p)
  | .beginCommission tag p => some (0x19#8, tag, p)
  | .writeConfig tag p => some (0x1A#8, tag, p)
  | .commitConfig tag p => some (0x1B#8, tag, p)
  | .abandonCommission tag p => some (0x1C#8, tag, p)
  | .unknownKind kind tag p => some (kind, tag, p)
  | _ => none

/-- A field frame received: its port, node address, kind, control byte and payload (R192). -/
structure FieldReceipt where
  port : Line
  address : Byte
  kind : Byte
  control : Byte
  payload : List Byte
  deriving DecidableEq, Repr

/-- The field frame that a reply row stands for. -/
def fieldCommand : Instr → Option FieldReceipt
  | .quiet port a c p => some ⟨port, a, 0x41#8, c, p⟩
  | .changes port a c p => some ⟨port, a, 0x42#8, c, p⟩
  | .snapshot port a c p => some ⟨port, a, 0x43#8, c, p⟩
  | .groupStatus port a c p => some ⟨port, a, 0x44#8, c, p⟩
  | .moduleStatus port a c p => some ⟨port, a, 0x45#8, c, p⟩
  | .matrixStatus port a c p => some ⟨port, a, 0x46#8, c, p⟩
  | _ => none

/-- R150: the receipt `r` is a valid reply, read as `v`, to the slot `sl` in progress on its port in `s`. -/
structure ValidReply (s : State) (r : FieldReceipt) (sl : Slot) (v : FieldReply) : Prop where
  slot : (findPort s.flc.ports r.port).bind (·.slot) = some sl
  isOpen : sl.windowOpen = true
  address : r.address.toNat = sl.address
  control : r.control.toNat ≤ 1
  decodes : decodeReply r.kind r.payload = some v
  answers : answersFrame r.port sl.carried v = true

/-- The bytes of a line taken one after the other. -/
def receiveBytes : List Byte → State → Host.Outcome State Fault Refusal
  | [], s => .next s
  | b :: bs, s =>
    match exec (.byteReceived b) s with
    | .next t => receiveBytes bs t
    | .fault f => .fault f
    | .refused r => .refused r

/-! ## What stays as it was -/

/-- Every block but the SP and the RC, and the model's own fields, as they were. -/
structure SameBlocks (s t : State) : Prop where
  flc : t.flc = s.flc
  ze : t.ze = s.ze
  es : t.es = s.es
  lc : t.lc = s.lc
  ds : t.ds = s.ds
  ar : t.ar = s.ar
  cs : t.cs = s.cs
  powered : t.powered = s.powered
  freeCount : t.freeCount = s.freeCount
  pending : t.pending = s.pending

/-- The regime record and the floor table as they were; the trouble set and its line may have moved. -/
structure SameRegime (s t : State) : Prop where
  level : t.rc.level = s.rc.level
  resetPending : t.rc.resetPending = s.rc.resetPending
  origins : t.rc.origins = s.rc.origins
  entryTime : t.rc.entryTime = s.rc.entryTime
  secondCount : t.rc.secondCount = s.rc.secondCount
  originLimit : t.rc.originLimit = s.rc.originLimit
  floors : t.rc.floors = s.rc.floors
  commonAlarm : t.rc.commonAlarm = s.rc.commonAlarm

/-- The reply of a status without anything more. -/
def plainReply (kind tag : Byte) (status : Status) : Reply := ⟨kind, tag, status, none, .empty⟩

/-- R167: the reply to a query that found `c`, or NO_SUCH. -/
def queryReply (kind tag : Byte) : Option Content → Reply
  | some c => ⟨kind, tag, .done, none, c⟩
  | none => plainReply kind tag .noSuch

/-- R169: the command `i` answers a query with what `find` reads, leaves every block, the regime record and the floor
table as they were, and is taken by the host-silence supervision (R172). -/
def QueryAnswered (i : Instr) (s : State) (kind tag : Byte) (find : State → Option Content) : Prop :=
  ∃ t, exec i s = .next t ∧ newestReply t = some (queryReply kind tag (find t)) ∧ SameBlocks s t ∧ SameRegime s t ∧
    t.sp.hostSilent = false ∧ t.sp.silence = some 30

/-- The command `i` is answered with `r` and changes no block, nor the regime record or the floor table, nor a pending
restart. -/
def AnsweredOnly (i : Instr) (s : State) (r : Reply) : Prop :=
  ∃ t, exec i s = .next t ∧ newestReply t = some r ∧ SameBlocks s t ∧ SameRegime s t ∧ t.sp.restart = s.sp.restart

/-- The reply REFUSED with its reason. -/
def refusal (kind tag : Byte) (reason : Reason) : Reply := ⟨kind, tag, .refused, some reason, .empty⟩

/-- R103, R114: the points of `t` are those of `s`; where the point's pair of floor and stair entered or left the manual
release set, the latch is in the state that the point requires in `t`, and elsewhere it is as it was. The enables stay. -/
def LatchesFollow (s t : State) : Prop :=
  t.ds.doors.map (·.index) = s.ds.doors.map (·.index) ∧
  ∀ d ∈ s.ds.doors, ∃ d' ∈ t.ds.doors, d'.index = d.index ∧ d'.enable = d.enable ∧
    (inManual t.ds.manual d.floor d.stair = inManual s.ds.manual d.floor d.stair → d'.drive = d.drive) ∧
    (inManual t.ds.manual d.floor d.stair ≠ inManual s.ds.manual d.floor d.stair →
      d'.drive = requiredDrive t.denv t.ds.manual d)

/-! ## Power-on state and configuration -/

/-- The state that every block but the SP and the CS takes at power-on and at every cold restart, whatever the tables are
(R23, R48, R74, R100, R120, R146, R162). -/
structure PowerOnBlocks (t : State) : Prop where
  regime : t.rc.level = .normal ∧ t.rc.resetPending = false ∧ t.rc.origins = [] ∧ t.rc.entryTime = t.rc.secondCount ∧
    t.rc.commonAlarm = false
  floors : ∀ fl ∈ t.rc.floors, fl.state = .quiet ∧ fl.origin = false ∧ fl.alarmCount = 0 ∧ fl.lockout = false ∧
    fl.admission = none ∧ fl.occupancy = fl.design
  zones : ∀ z ∈ t.ze.zones, z.state = .unknown ∧ z.lastInput = none ∧ z.clearOnRestore = false ∧ z.disabled = false ∧
    z.window = none
  links : t.ze.links = List.replicate 6 ⟨false, false⟩
  lines : ∀ l ∈ t.ze.lines, l.delivered = none ∧ l.debouncing = true
  stairs : ∀ st ∈ t.es.stairs, st.load = 0 ∧ st.credit = 0 ∧ st.cond = .available ∧ st.compromised = false ∧
    st.saturated = false ∧ st.drainTimer = if st.fitted then some 10 else none
  scheduler : t.es.waiting = [] ∧ t.es.advanceTimer = none
  groups : ∀ g ∈ t.lc.groups, g.active = false ∧ g.triggers = ⟨false, false, []⟩ ∧ g.target = none ∧ g.lockout = 0 ∧
    g.mask = 0 ∧ g.echo = none ∧ g.lowest = none ∧ g.down = false
  cars : ∀ c ∈ t.lc.cars, c.cache = none ∧ c.service = .unknown ∧ c.image = none ∧ c.cmdState = .none ∧ c.attempts = 0 ∧
    c.retry = none
  doors : ∀ d ∈ t.ds.doors, (d.normal = .secure → d.drive = .lock) ∧ (d.normal = .free → d.drive = .release) ∧
    d.enable = false ∧ d.sensed = .unknown ∧ d.cond = .unknown ∧ d.dwell = none ∧ d.heldOpen = none
  modules : t.OutputsAgree ∧ ∀ m ∈ t.ds.modules, m.up = false
  manual : t.ds.manual = List.replicate 4 0
  records : t.ar.records = [] ∧ t.ar.waitList = [] ∧ t.ar.nextId = 1 ∧ t.ar.creation = 0 ∧ t.ar.up = false
  claims : t.ar.claims.length = t.rc.floors.length ∧ ∀ c ∈ t.ar.claims, c.owner = none ∧ c.stack = []
  channels : ∀ c ∈ t.ar.channels, c.holder = none ∧ c.routing = 0 ∧ c.programme = .silence ∧ c.generation = 0 ∧
    c.playTimer = none ∧ c.lastSeen = none
  nodes : ∀ n ∈ t.flc.nodes, n.link = .offline ∧ n.good = 0 ∧ n.miss = 0 ∧ n.actions = [] ∧ n.rotation = 0 ∧
    n.seqBit = false ∧ ∀ m ∈ n.images, m.dirty = true ∧ m.changed = false
  ports : ∀ p ∈ t.flc.ports, p.slot = none ∧ p.broadcast = false

/-- R178, R179: the tables in force are those of the image `i`: each configured record of the image is a record of its
block under the image's index (a zone under its link and number), and there are no others. -/
structure BootedFrom (i : Image) (t : State) : Prop where
  timings : t.rc.originLimit = i.general.originLimit ∧ t.ze.window = i.general.window ∧
    t.es.advanceLimit = i.general.advanceLimit ∧ t.lc.retryInterval = i.general.retryInterval ∧
    t.ds.dwell = i.general.dwell ∧ t.ds.heldOpenLimit = i.general.heldOpenLimit ∧
    t.flc.replyTimeout = i.general.replyTimeout ∧ t.ar.channels.length = i.general.channels ∧
    t.ar.reserve = i.general.reserve
  floors : t.rc.floors.length = min i.general.floorCount i.floors.length ∧
    ∀ (n : Nat) (r : FloorRec), i.floors[n]? = some r → n < i.general.floorCount →
      ∃ fl : Floor, t.rc.floors[n]? = some fl ∧ fl.label = r.label ∧ fl.egress = r.egress ∧ fl.primary = r.primary ∧
        fl.secondary = r.secondary ∧ fl.weight = r.weight ∧ fl.reEntry = r.reEntry ∧ fl.design = r.design
  stairs : t.es.stairs.length = i.stairs.length ∧ ∀ (n : Nat) (r : StairRec), i.stairs[n]? = some r →
    ∃ st : Stair, t.es.stairs[n]? = some st ∧ st.fitted = r.fitted ∧ st.flow = r.flow ∧ st.high = r.high ∧ st.low = r.low
  zones : t.ze.zones.length = (i.zones.filter (·.inUse)).length ∧ ∀ r ∈ i.zones, r.inUse = true →
    ∃ z ∈ t.ze.zones, z.link = r.link ∧ z.number = r.number ∧ z.floor = r.floor ∧ z.kind = r.kind ∧ z.latch = r.latch ∧
      z.verify = r.verify ∧ z.groups = r.groups ∧ z.stair = r.stair ∧ z.polarity = r.polarity
  nodes : t.flc.nodes.length = (i.nodes.filter (·.inUse)).length ∧ ∀ r ∈ i.nodes, r.inUse = true →
    ∃ n ∈ t.flc.nodes, n.port = r.port ∧ n.address = r.address
  groups : t.lc.groups.length = (i.groups.filter (·.inUse)).length ∧
    ∀ (n : Nat) (r : GroupRec), i.groups[n]? = some r → r.inUse = true →
    ∃ g, findGroup t.lc n = some g ∧ g.address = r.address ∧ g.map = r.map ∧ g.primary = some r.primary ∧
      g.alternate = some r.alternate
  cars : t.lc.cars.length = (i.cars.filter (·.inUse)).length ∧
    ∀ (n : Nat) (r : CarRec), i.cars[n]? = some r → r.inUse = true →
    ∃ c, findCar t.lc n = some c ∧ c.group = r.group ∧ c.place = r.place
  doors : t.ds.doors.length = (i.doors.filter (·.inUse)).length ∧
    ∀ (n : Nat) (r : DoorRec), i.doors[n]? = some r → r.inUse = true →
    ∃ d, t.ds.doors.find? (fun e => e.index = n) = some d ∧ d.loop = r.loop ∧ d.address = r.address ∧
      d.point = r.point ∧ d.floor = r.floor ∧ d.stair = r.stair ∧ d.normal = r.normal ∧ d.supervised = r.supervised
  messages : t.ar.library = i.messages ∧ t.ar.evacMsg = i.regimeMsgs.evac ∧ t.ar.alertMsg = some i.regimeMsgs.alert ∧
    t.ar.allClearMsg = i.regimeMsgs.allClear

/-- R21, R47, R74, R99, R119, R145, R147, R186: the FALLBACK set in force. -/
structure FallbackSet (t : State) : Prop where
  timings : t.rc.originLimit = 3 ∧ t.ze.window = 60 ∧ t.es.advanceLimit = 300 ∧ t.lc.retryInterval = 2 ∧ t.ds.dwell = 5 ∧
    t.ds.heldOpenLimit = 120 ∧ t.flc.replyTimeout = 50 ∧ t.ar.channels.length = 1 ∧ t.ar.reserve = 0
  floors : t.rc.floors.length = 64 ∧ ∀ fl ∈ t.rc.floors, fl.egress = .none ∧ fl.reEntry = false
  zones : t.ze.zones = []
  stairs : ∀ st ∈ t.es.stairs, st.fitted = false
  lifts : t.lc.groups.map (·.number) = [0, 1, 2, 3] ∧ t.lc.cars = [] ∧
    ∀ g ∈ t.lc.groups, g.address = 1 ∧ g.map = [] ∧ g.primary = none ∧ g.alternate = none
  doors : t.ds.doors.length = 160 ∧ ∀ d ∈ t.ds.doors, d.floor = 0 ∧ d.stair = 0 ∧ d.normal = .secure ∧
    d.supervised = false ∧
    d.index = (if d.loop = .d 1 then 80 else 0) + 8 * (d.address - 1) + d.point ∧ 1 ≤ d.address ∧ d.address ≤ 10 ∧
    d.point ≤ 7
  nodes : t.flc.nodes.length = 31
  messages : t.ar.library[0]? = some ⟨true, .evac, 600⟩ ∧ (∀ m ∈ t.ar.library.drop 1, m.inUse = false) ∧
    t.ar.evacMsg = 0 ∧ t.ar.alertMsg = none ∧ t.ar.allClearMsg = none

/-! ## Ranges of the configuration (R182) -/

/-- R182: a number brought to the nearer end of its range. -/
def nearest (lo hi n : Nat) : Nat := if n < lo then lo else if hi < n then hi else n

/-- R182: a GENERAL record in its ranges. -/
def generalInRange (r : GeneralRec) : Prop :=
  (2 ≤ r.floorCount ∧ r.floorCount ≤ 64) ∧ (10 ≤ r.window ∧ r.window ≤ 120) ∧
    (60 ≤ r.advanceLimit ∧ r.advanceLimit ≤ 900) ∧ (1 ≤ r.originLimit ∧ r.originLimit ≤ 8) ∧
    (1 ≤ r.retryInterval ∧ r.retryInterval ≤ 15) ∧ (2 ≤ r.dwell ∧ r.dwell ≤ 30) ∧
    (30 ≤ r.heldOpenLimit ∧ r.heldOpenLimit ≤ 600) ∧ (20 ≤ r.replyTimeout ∧ r.replyTimeout ≤ 200) ∧
    (1 ≤ r.channels ∧ r.channels ≤ 8) ∧ r.reserve ≤ 4

/-- R182: a FLOOR record in its ranges. -/
def floorInRange (r : FloorRec) : Prop :=
  r.primary ≤ 3 ∧ (∀ s, r.secondary = some s → s ≤ 3 ∧ s ≠ r.primary) ∧ (1 ≤ r.weight ∧ r.weight ≤ 100) ∧
    (r.secondary = none → r.weight = 100) ∧ r.design ≤ 2000 ∧ (r.egress = .none → r.design = 0)

/-- R182, R49: a STAIR record in its ranges. -/
def stairInRange (r : StairRec) : Prop :=
  (1 ≤ r.flow ∧ r.flow ≤ 240) ∧ (1 ≤ r.high ∧ r.high ≤ 65535) ∧ r.low ≤ 65534 ∧ (r.fitted = true → r.low < r.high)

/-- R182: a ZONE record in its ranges and within the constraints of its kind and link. -/
def zoneInRange (r : ZoneRec) : Prop :=
  r.number ≤ 255 ∧ r.floor ≤ 63 ∧ (r.verify = true → r.kind = .smoke) ∧
    (r.groups = 0 ∨ r.kind = .liftLobby ∨ r.kind = .hoistway ∨ r.kind = .machineRoom ∨ r.kind = .recallKey) ∧
    (∀ s, r.stair = some s → r.kind = .stairSmoke ∧ s ≤ 3) ∧ (r.link.isPanel = true → r.polarity = none) ∧
    (r.link = .l → r.polarity.isSome = true)

/-- R182: a GROUP record in its ranges, for `n` configured floors. -/
def groupInRange (n : Nat) (r : GroupRec) : Prop :=
  (1 ≤ r.address ∧ r.address ≤ 31) ∧ r.primary ≤ 63 ∧ r.alternate ≤ 63 ∧
    ∀ (f l : Nat), r.map[f]? = some (some l) → f < n ∧ 1 ≤ l ∧ l ≤ 127

/-- R182: an image with every value in its range. -/
structure ImageInRange (i : Image) : Prop where
  general : generalInRange i.general
  floors : ∀ r ∈ i.floors, floorInRange r
  stairs : ∀ r ∈ i.stairs, stairInRange r
  zones : ∀ r ∈ i.zones, zoneInRange r
  nodes : ∀ r ∈ i.nodes, 1 ≤ r.address ∧ r.address ≤ 31
  groups : ∀ r ∈ i.groups, groupInRange i.general.floorCount r
  cars : ∀ r ∈ i.cars, r.group ≤ 3 ∧ r.place ≤ 15
  doors : ∀ r ∈ i.doors, (1 ≤ r.address ∧ r.address ≤ 31) ∧ r.point ≤ 7 ∧ r.floor ≤ 63 ∧ r.stair ≤ 3
  messages : ∀ r ∈ i.messages, 1 ≤ r.length ∧ r.length ≤ 600
  regimeMsgs : i.regimeMsgs.evac ≤ 63 ∧ i.regimeMsgs.alert ≤ 63 ∧ ∀ m, i.regimeMsgs.allClear = some m → m ≤ 63

/-- R178: the records of an image, table by table. -/
def imageRecords (i : Image) : List ConfigRecord :=
  [.general i.general] ++ i.floors.map .floor ++ i.stairs.map .stair ++ i.zones.map .zone ++ i.nodes.map .node ++
    i.groups.map .group ++ i.cars.map .car ++ i.doors.map .door ++ i.messages.map .message ++
    [.regimeMsgs i.regimeMsgs]

/-! ## The formats -/

/-- R190: the numbers of a configuration record fit their fields: this is what the encoding admits. -/
def recordFits : ConfigRecord → Prop
  | .general r => r.floorCount < 256 ∧ r.window < 256 ∧ r.advanceLimit < 65536 ∧ r.originLimit < 256 ∧
      r.retryInterval < 256 ∧ r.dwell < 256 ∧ r.heldOpenLimit < 65536 ∧ r.replyTimeout < 256 ∧ r.channels < 256 ∧
      r.reserve < 256
  | .floor r => r.label.length = 4 ∧ r.primary < 256 ∧ (∀ x, r.secondary = some x → x < 255) ∧ r.weight < 256 ∧
      r.design < 65536
  | .stair r => r.flow < 256 ∧ r.high < 65536 ∧ r.low < 65536
  | .zone r => r.number < 256 ∧ r.floor ≤ 63 ∧ (∀ x, r.stair = some x → x < 255)
  | .node r => r.address < 256
  | .group r => r.address < 256 ∧ r.map.length = 64 ∧ (∀ x ∈ r.map, ∀ y, x = some y → y < 255) ∧ r.primary ≤ 63 ∧
      r.alternate ≤ 63
  | .car r => r.group < 256 ∧ r.place < 256
  | .door r => r.address < 256 ∧ r.point < 256 ∧ r.floor ≤ 63 ∧ r.stair < 256
  | .message r => r.length < 65536
  | .regimeMsgs r => r.evac < 256 ∧ r.alert < 256 ∧ (∀ x, r.allClear = some x → x < 255)

/-- R187: the coefficients of x^15 to x^0 of x^16 + x^12 + x^5 + 1. -/
def poly16 : BitVec 16 := setWhere 16 16 (fun n => n = 12 || n = 5 || n = 0)

/-- R187: the exponents below 32 of the polynomial of the CRC-32. -/
def exponents32 : List Nat := [26, 23, 22, 16, 12, 11, 10, 8, 7, 5, 4, 2, 1, 0]

/-- R187: the polynomial of the CRC-32 with the coefficient of x^n at bit 31 - n, for a register that takes its bits least
significant first. -/
def poly32 : BitVec 32 := setWhere 32 32 (fun n => exponents32.contains (31 - n))

/-- R187: one bit of a line shifted into the CRC-16 register. -/
def shift16 (r : BitVec 16) (b : Bool) : BitVec 16 := if r.msb != b then (r <<< 1) ^^^ poly16 else r <<< 1

/-- R187: one bit shifted into the CRC-32 register. -/
def shift32 (r : BitVec 32) (b : Bool) : BitVec 32 :=
  if r.getLsbD 0 != b then (r >>> 1) ^^^ poly32 else r >>> 1

/-- The bits of a byte, least significant first. -/
def bitsOf (b : Byte) : List Bool := (List.range 8).map b.getLsbD

end Sys2Proof.Machine
end

