-- ==== Sys2Proof/WellFormed.lean ====
section
/-!
DEFINITION. Which terms of `Instr` name a command that can reach the part: a frame fits its line (R163, R192), a row that
shares its request kind with another row carries the byte that tells them apart (R190), a port is a field port, and a
record number lies within the capacity table of 00_scope.md.
-/

namespace Sys2Proof

/-- R163: the payload of a supervisory frame: a body of at most 250 bytes less the kind and the tag. -/
def payloadFits (payload : List Byte) : Bool := decide (payload.length ≤ 248)

/-- R147: one of the thirteen field ports; L is not served in slots. -/
def fieldPort (port : Line) : Bool := decide (port ≠ .l)

/-- R192: the payload of a field frame, whose length is sent in two bytes. -/
def fieldPayloadFits (payload : List Byte) : Bool := decide (payload.length < 65536)

/-- R24: a link that holds zones, and a zone number on it. -/
def zoneKey (link : Line) (zone : Nat) : Bool :=
  match link with
  | .p _ => decide (zone ≤ 255)
  | .l => decide (zone ≤ 3)
  | .g _ | .d _ | .a => false

/-- R190: a payload whose byte at `index` is `value`. -/
def carriesAt (payload : List Byte) (index : Nat) (value : Byte) : Bool := decide (payload[index]? = some value)

/-- R164, R190: the request kinds are 01–1C. -/
def assignedKind (kind : Byte) : Bool := decide (1 ≤ kind.toNat ∧ kind.toNat ≤ 0x1C)

/-- A well-formed command. -/
def Instr.wf : Instr → Bool
  | .powerOn => true
  | .secondCountTick => true
  | .readRegime _ p => payloadFits p
  | .readFloor _ p => payloadFits p
  | .readZone _ p => payloadFits p
  | .readStair _ p => payloadFits p
  | .readCar _ p => payloadFits p
  | .readDoor _ p => payloadFits p
  | .readAnnouncementRecord _ p => payloadFits p && !carriesAt p 0 1 && !carriesAt p 0 2
  | .readAnnouncementPool _ p => payloadFits p && carriesAt p 0 1
  | .readAnnouncementFloor _ p => payloadFits p && carriesAt p 0 2
  | .readNode _ p => payloadFits p
  | .resetRegime _ p => payloadFits p
  | .startGeneral _ p => payloadFits p
  | .evacuateFloors _ p => payloadFits p
  | .setOccupancy _ p => payloadFits p
  | .disableZone _ p => payloadFits p
  | .enableZone _ p => payloadFits p
  | .recallGroup _ p => payloadFits p
  | .releaseGroup _ p => payloadFits p
  | .fireServiceOn _ p => payloadFits p && !carriesAt p 1 0
  | .fireServiceOff _ p => payloadFits p && carriesAt p 1 0
  | .releaseDoors _ p => payloadFits p
  | .restoreDoors _ p => payloadFits p
  | .announce _ p => payloadFits p
  | .cancelAnnouncement _ p => payloadFits p
  | .beginLive _ p => payloadFits p
  | .endLive _ p => payloadFits p
  | .restartWarm _ p => payloadFits p && !carriesAt p 0 1
  | .restartCold _ p => payloadFits p && carriesAt p 0 1
  | .beginCommission _ p => payloadFits p
  | .writeConfig _ p => payloadFits p
  | .commitConfig _ p => payloadFits p
  | .abandonCommission _ p => payloadFits p
  | .unknownKind kind _ p => payloadFits p && !assignedKind kind
  | .supervisoryFrameDiscarded => true
  | .receiveTimeout => true
  | .hostSilent => true
  | .frameSent => true
  | .warmRestart => true
  | .coldRestart => true
  | .storeWriteComplete _ => true
  | .localLineChange _ _ => true
  | .debounceExpiry _ => true
  | .windowExpiry link zone => zoneKey link zone
  | .drainExpiry stair => decide (stair < 4)
  | .forcedAdvance => true
  | .retryExpiry car => decide (car < 16)
  | .dwellExpired point => decide (point < 160)
  | .heldOpenExpiry point => decide (point < 160)
  | .playOverrun channel => decide (channel < 8)
  | .slotStart port => fieldPort port
  | .quiet port _ _ p => fieldPort port && fieldPayloadFits p
  | .changes port _ _ p => fieldPort port && fieldPayloadFits p
  | .snapshot port _ _ p => fieldPort port && fieldPayloadFits p
  | .groupStatus port _ _ p => fieldPort port && fieldPayloadFits p
  | .moduleStatus port _ _ p => fieldPort port && fieldPayloadFits p
  | .matrixStatus port _ _ p => fieldPort port && fieldPayloadFits p
  | .fieldFrameDiscarded port => fieldPort port
  | .replyWindowMiss port => fieldPort port
  | .byteReceived _ => true
  | .lossOfPower => true

end Sys2Proof
end

