-- ==== Sys2Proof/Certificates/Slice0/Obligations.lean ====
section
/-!
DEFINITION. The statements for the provers. A statement about a next state holds in every state that meets its premises,
reached or not; `s.answers` says that the part has power, that no restart is pending and that the reply list has room.
-/

open Sys2Proof Sys2Proof.Machine

/-! ## The machine -/

/-- A step takes the command at the front of the queue and is its `exec` with the queue's rest (block rule). -/
def Obligations.StepRunsFront : Prop :=
  ∀ (c : Instr) (rest : List Instr) (s : State),
    step { s with pending := c :: rest } = exec c { s with pending := rest }

/-- On an empty queue one second passes (the model's choice, log entry 4): the windows of the zones, the drain timers and the
advance timer, the retry timers of the cars, the dwell and held-open timers, the play timers and the host-silence timer each
fall by one where they run, held at 0. Nothing else changes, and a part without power stays whole. -/
def Obligations.StepIdlesOneSecond : Prop :=
  ∀ s : State, s.pending = [] →
    ∃ t, step s = .next t ∧ t.rc = s.rc ∧ t.flc = s.flc ∧ t.cs = s.cs ∧ t.pending = [] ∧
      (s.powered = false → t = s) ∧
      (s.powered = true → t.powered = true ∧
        t.ze = { s.ze with zones := s.ze.zones.map (fun z =>
          { z with window := z.window.map (fun w => { w with deadline := w.deadline - 1 }) }) } ∧
        t.es = { s.es with
          stairs := s.es.stairs.map (fun st => { st with drainTimer := st.drainTimer.map (· - 1) })
          advanceTimer := s.es.advanceTimer.map (· - 1) } ∧
        t.lc = { s.lc with cars := s.lc.cars.map (fun c => { c with retry := c.retry.map (· - 1) }) } ∧
        t.ds = { s.ds with doors := s.ds.doors.map (fun d =>
          { d with dwell := d.dwell.map (· - 1), heldOpen := d.heldOpen.map (· - 1) }) } ∧
        t.ar = { s.ar with channels := s.ar.channels.map (fun c => { c with playTimer := c.playTimer.map (· - 1) }) } ∧
        t.sp = { s.sp with silence := s.sp.silence.map (· - 1) })

/-- No command touches the queue of commands. -/
def Obligations.QueueUntouched : Prop :=
  ∀ (c : Instr) (s t : State), exec c s = .next t → t.pending = s.pending

/-- R2: the second count starts at 0 at power-on, rises by 1 modulo 2^32 at each tick, and no other command moves it. -/
def Obligations.SecondCountRule : Prop :=
  (∀ s : State, ∃ t, exec .powerOn s = .next t ∧ t.rc.secondCount = 0) ∧
  (∀ s : State, s.powered = true → ∃ t, exec .secondCountTick s = .next t ∧
    t.rc.secondCount.toNat = (s.rc.secondCount.toNat + 1) % 4294967296 ∧
    t.rc = { s.rc with secondCount := t.rc.secondCount } ∧ t.flc = s.flc ∧ t.ze = s.ze ∧ t.es = s.es ∧ t.lc = s.lc ∧
    t.ds = s.ds ∧ t.ar = s.ar ∧ t.cs = s.cs) ∧
  (∀ (c : Instr) (s t : State), c ≠ .powerOn → c ≠ .secondCountTick → exec c s = .next t →
    t.rc.secondCount = s.rc.secondCount)

/-! ## Invariants -/

/-- The part after reset is sound: the ranges of R57, R61, R154, R158, R166 and R171, the lists of R3 and R122, the flags of
R5, R19 and R20, the shape of R178, the claims and the pool of R123 to R129, the latches and output images of R101 to R104. -/
def Obligations.SoundAtReset : Prop := State.reset.Sound

/-- R171, R166: no step takes the report queue above 64 reports, nor the reply list above 8 replies. -/
def Obligations.PortListsKept : Prop :=
  (∀ s t : State, s.QueueBounded → step s = .next t → t.QueueBounded) ∧
  (∀ s t : State, s.RepliesBounded → step s = .next t → t.RepliesBounded)

/-- R20: after every step COMMON_ALARM is active exactly while the level is PHASED or GENERAL, and it is inactive after a
power-on. -/
def Obligations.CommonAlarmKept : Prop :=
  (∀ s t : State, s.AlarmAgrees → step s = .next t → t.AlarmAgrees) ∧
  (∀ s : State, ∃ t, exec .powerOn s = .next t ∧ t.rc.commonAlarm = false ∧ t.AlarmAgrees)

/-- R19: after every step COMMON_TROUBLE is active exactly while the trouble total is above 0. -/
def Obligations.TroubleLineKept : Prop :=
  ∀ s t : State, s.TroubleAgrees → step s = .next t → t.TroubleAgrees

/-- R5: after every step each floor's lockout flag is set exactly when its alarm count is above 0. -/
def Obligations.LockoutKept : Prop :=
  ∀ s t : State, s.LockoutAgrees → step s = .next t → t.LockoutAgrees

/-- R3: after every step the origin list holds at most 8 floors, none twice. -/
def Obligations.OriginListKept : Prop :=
  ∀ s t : State, s.OriginsSound → step s = .next t → t.OriginsSound

/-- R57, R61, R154, R158: after every step each node's counters and action queue, and each stair's load and credit, are
within their ranges. -/
def Obligations.RangesKept : Prop :=
  (∀ s t : State, s.NodesBounded → step s = .next t → t.NodesBounded) ∧
  (∀ s t : State, s.StairsBounded → step s = .next t → t.StairsBounded)

/-- R122, R178 and the tables of chapters 04 and 05: every step keeps the numbers of groups, cars, door points and
announcement records distinct, the records in their slots and no newer than the creation counter, and the stored and the
staged image in their shape. -/
def Obligations.TableKeysKept : Prop :=
  (∀ s t : State, s.KeysDistinct → step s = .next t → t.KeysDistinct) ∧
  (∀ s t : State, s.CarsDistinct → step s = .next t → t.CarsDistinct) ∧
  (∀ s t : State, s.RecordsSound → step s = .next t → t.RecordsSound) ∧
  (∀ s t : State, s.ImagesShaped → step s = .next t → t.ImagesShaped)

/-- R101, R103, R104: after every step each drive latch is in the state that its point requires as the level, the floor
table and the manual release set then stand, and each module's output image holds the latches and enables of its points. -/
def Obligations.DoorLatchesKept : Prop :=
  (∀ s t : State, s.KeysDistinct → s.LatchesRequired → step s = .next t → t.LatchesRequired) ∧
  (∀ s t : State, s.KeysDistinct → s.OutputsAgree → step s = .next t → t.OutputsAgree)

/-- R122 to R131: every step keeps the claims of the floors (at most three on a stack, none twice, the owner apart, all of
them records), the owned floors of the records, the channel pool (no channel held twice, free and held together the fitted
ones) and the wait list (the records in WAITING, once each). -/
def Obligations.AnnouncementTablesKept : Prop :=
  ∀ s t : State, s.RecordsSound → s.ClaimsSound → s.PoolSound → step s = .next t → t.ClaimsSound ∧ t.PoolSound

/-! ## Power and restarts -/

/-- R176, R179, R184, R186: a power-on that finds a store write in flight, or loads no image, enters FALLBACK on the FALLBACK
set; one that loads an image enters OPERATE on the tables of that image. Every block is in its power-on state, and so is the
SP. That a POWER_ON of a part with a write in flight interrupts the write is the model's (DESIGN CHOICE, log entry 5). -/
def Obligations.PowerOnLoads : Prop :=
  (∀ s : State, (s.cs.writing.isSome = true ∨ loadedTables s.cs.store = none) →
    ∃ t, exec .powerOn s = .next t ∧ t.powered = true ∧ deviceMode t.cs = .fallback ∧
      (s.cs.writing = none → t.cs.store = s.cs.store) ∧ loadedTables t.cs.store = none ∧ t.cs.writing = none ∧
      PowerOnBlocks t ∧ FallbackSet t ∧ t.rc.trouble.fallback = 1 ∧ t.rc.trouble.nodes = 31 ∧ t.sp.replies = [] ∧
      t.sp.rx = huntingReceiver ∧ t.sp.restart = none ∧ t.sp.silence = some 30 ∧ t.sp.hostSilent = false) ∧
  (∀ (s : State) (i : Image), s.cs.store = .holds i (imageCheck i) → s.cs.writing = none →
    ∃ t, exec .powerOn s = .next t ∧ t.powered = true ∧ deviceMode t.cs = .operate ∧ t.cs.store = s.cs.store ∧
      PowerOnBlocks t ∧ BootedFrom i t ∧ t.rc.trouble.fallback = 0 ∧
      t.rc.trouble.nodes = (i.nodes.filter (·.inUse)).length ∧ t.rc.trouble.zones = (i.zones.filter (·.inUse)).length ∧
      t.sp.replies = [] ∧ t.sp.restart = none ∧ t.sp.silence = some 30 ∧ t.sp.hostSilent = false)

/-- R184: loss of power ends a store write in flight and leaves a store that fails its check; without a write the store
stays. The rest of the part stays as it was until the next power-on, and a part without power keeps its whole state under
every command but POWER_ON (the model's choice, log entry 5). -/
def Obligations.LossOfPowerRule : Prop :=
  (∀ s : State, s.powered = true → ∃ t, exec .lossOfPower s = .next t ∧ t.powered = false ∧
    t.cs.writing = none ∧ (s.cs.writing.isSome = true → loadedTables t.cs.store = none) ∧
    (s.cs.writing = none → t = { s with powered := false }) ∧ t.rc = s.rc ∧ t.sp = s.sp) ∧
  (∀ (c : Instr) (s : State), s.powered = false → c ≠ .powerOn → exec c s = .next s)

/-- R173, R184: RESTART of either form is BUSY while a store write is in flight; otherwise it is accepted when, for COLD, the
level is NORMAL, and the restart becomes pending. -/
def Obligations.RestartAccepted : Prop :=
  ∀ (s : State) (tag : Byte), s.answers →
    (s.cs.writing.isSome = true →
      AnsweredOnly (.restartWarm tag [0]) s (plainReply 0x98#8 tag .busy) ∧
      AnsweredOnly (.restartCold tag [1]) s (plainReply 0x98#8 tag .busy)) ∧
    (s.cs.writing = none →
      ∃ t, exec (.restartWarm tag [0]) s = .next t ∧ t.sp.restart = some .warm ∧ SameBlocks s t ∧ SameRegime s t ∧
        newestReply t = some (plainReply 0x98#8 tag .done)) ∧
    (s.cs.writing = none → s.rc.level = .normal →
      ∃ t, exec (.restartCold tag [1]) s = .next t ∧ t.sp.restart = some .cold ∧ SameBlocks s t ∧ SameRegime s t ∧
        newestReply t = some (plainReply 0x98#8 tag .done)) ∧
    (s.cs.writing = none → s.rc.level ≠ .normal →
      AnsweredOnly (.restartCold tag [1]) s (refusal 0x98#8 tag .regimeActive))

/-- R162, R175: a due WARM restart returns every node to OFFLINE with its counters, actions and marks as at power-on, keeps
the RC's regime record and floor table and the CS whole, and the pending restart is cleared. -/
def Obligations.WarmRestartRule : Prop :=
  ∀ s : State, s.powered = true → s.sp.restart = some .warm → s.sp.restartDue = true →
    ∃ t, exec .warmRestart s = .next t ∧ t.sp.restart = none ∧ t.flc.nodes.length = s.flc.nodes.length ∧
      (∀ n ∈ t.flc.nodes, n.link = .offline ∧ n.good = 0 ∧ n.miss = 0 ∧ n.actions = [] ∧ n.rotation = 0 ∧
        n.seqBit = false ∧ ∀ m ∈ n.images, m.dirty = true ∧ m.changed = false) ∧
      (∀ p ∈ t.flc.ports, p.slot = none) ∧
      SameRegime s t ∧ t.es = s.es ∧ t.cs = s.cs

/-- R23, R175, R179: a due COLD restart takes the mode that the load yields and every block's power-on state, on the tables
of the loaded image or the FALLBACK set; the second count and the SP's supervision run on. -/
def Obligations.ColdRestartRule : Prop :=
  ∀ s : State, s.powered = true → s.sp.restart = some .cold → s.sp.restartDue = true →
    ∃ t, exec .coldRestart s = .next t ∧ t.sp.restart = none ∧
      deviceMode t.cs = (if (loadedTables s.cs.store).isSome then .operate else .fallback) ∧
      t.cs.store = s.cs.store ∧ PowerOnBlocks t ∧ (∀ i, loadedTables s.cs.store = some i → BootedFrom i t) ∧
      (loadedTables s.cs.store = none → FallbackSet t) ∧ t.rc.secondCount = s.rc.secondCount ∧
      t.ze.lines.map (·.pin) = s.ze.lines.map (·.pin) ∧
      t.sp.silence = s.sp.silence ∧ t.sp.hostSilent = s.sp.hostSilent ∧ t.sp.rx = s.sp.rx

/-! ## The supervisory line -/

/-- R163, R187, R188: the bytes of a request, received one by one by a part at rest, do what the row of that request does:
for every request row and for UNKNOWN_KIND. -/
def Obligations.ByteReceptionIsFrame : Prop :=
  ∀ (i : Instr) (kind tag : Byte) (payload : List Byte) (s : State),
    frameCommand i = some (kind, tag, payload) → i.wf = true → s.powered = true → s.sp.rx = huntingReceiver →
    s.ev = Scratch.clear → (s.sp.tx.isSome = true ∨ (s.sp.replies = [] ∧ s.sp.reports = [])) →
    receiveBytes (requestBytes kind tag payload) s = exec i s

/-- R163: the receiver's table, one byte at a time. A byte that completes no frame changes the receiver alone. -/
def Obligations.ReceiverTable : Prop :=
  ∀ (s : State) (b : Byte), s.powered = true →
    ∃ t, exec (.byteReceived b) s = .next t ∧
      (s.sp.rx.state = .hunting → t.sp.rx = if b = 0xA5#8 then ⟨.length, 0, [], none⟩ else s.sp.rx) ∧
      (s.sp.rx.state = .length →
        t.sp.rx = if 2 ≤ b.toNat ∧ b.toNat ≤ 250 then ⟨.body, b.toNat, [], none⟩ else huntingReceiver) ∧
      (s.sp.rx.state = .body → t.sp.rx.body = s.sp.rx.body ++ [b] ∧ t.sp.rx.expected = s.sp.rx.expected ∧
        t.sp.rx.state = if s.sp.rx.body.length + 1 < s.sp.rx.expected then .body else .check) ∧
      (s.sp.rx.state = .check → s.sp.rx.check = none → t.sp.rx = { s.sp.rx with check := some b }) ∧
      (s.sp.rx.state = .check → s.sp.rx.check.isSome = true → t.sp.rx = huntingReceiver) ∧
      ((s.sp.rx.state ≠ .check ∨ s.sp.rx.check = none) →
        SameBlocks s t ∧ SameRegime s t ∧ t.sp.silence = s.sp.silence ∧ t.sp.hostSilent = s.sp.hostSilent)

/-- R163: a discarded frame and a receive timeout return the receiver to HUNTING, get no reply, have no effect on any block
and leave the host-silence timer. -/
def Obligations.DiscardsAreSilent : Prop :=
  ∀ s : State, s.powered = true →
    (∃ t, exec .supervisoryFrameDiscarded s = .next t ∧ SameBlocks s t ∧ SameRegime s t ∧
      t.sp.silence = s.sp.silence ∧ t.sp.hostSilent = s.sp.hostSilent ∧
      ((s.sp.rx.state = .length ∨ s.sp.rx.state = .check) → t.sp.rx = huntingReceiver) ∧
      (s.sp.tx.isSome = true → t.sp.replies = s.sp.replies ∧ t.sp.reports = s.sp.reports)) ∧
    (∃ t, exec .receiveTimeout s = .next t ∧ SameBlocks s t ∧ SameRegime s t ∧
      t.sp.silence = s.sp.silence ∧ t.sp.hostSilent = s.sp.hostSilent ∧
      (s.sp.rx.state ≠ .hunting → t.sp.rx = huntingReceiver) ∧
      (s.sp.tx.isSome = true → t.sp.replies = s.sp.replies ∧ t.sp.reports = s.sp.reports))

/-- R164 steps 1 and 2, R188, R190: a kind that is no request kind is answered UNKNOWN_KIND with the reply kind 80 and the
kind received; a request whose payload has not its kind's length is answered BAD_LENGTH. Neither changes a block. -/
def Obligations.FrameTestsRule : Prop :=
  (∀ (s : State) (kind tag : Byte) (payload : List Byte), s.powered = true → s.sp.replies.length < 8 →
    assignedKind kind = false →
    AnsweredOnly (.unknownKind kind tag payload) s ⟨0x80#8, tag, .unknownKind, none, .kind kind⟩) ∧
  (∀ (i : Instr) (s : State) (kind tag : Byte) (payload : List Byte) (n : Nat),
      frameCommand i = some (kind, tag, payload) → s.powered = true → s.sp.replies.length < 8 →
      (kind.toNat, n) ∈ [(1, 0), (2, 1), (3, 2), (4, 1), (5, 1), (6, 1), (7, 2), (8, 2), (9, 0), (10, 0), (11, 2), (12, 3),
        (13, 2), (14, 2), (15, 1), (16, 1), (17, 2), (18, 3), (19, 3), (20, 4), (21, 1), (22, 2), (23, 0), (24, 1), (25, 0),
        (27, 0), (28, 0)] → payload.length ≠ n →
      AnsweredOnly i s (plainReply (kind + 0x80#8) tag .badLength))

/-- R164 step 4, R174: while a restart is pending every request is turned away and changes no block. R166, R172: a valid
frame that finds 8 replies waiting is discarded without effect on any block, and is still taken by the host-silence
supervision. -/
def Obligations.TurnedAwayRule : Prop :=
  (∀ (i : Instr) (s : State) (kind tag : Byte) (payload : List Byte),
    frameCommand i = some (kind, tag, payload) → s.powered = true → s.sp.replies.length < 8 →
    s.sp.restart.isSome = true →
    ∃ t r, exec i s = .next t ∧ newestReply t = some r ∧ SameBlocks s t ∧ SameRegime s t ∧
      t.sp.restart = s.sp.restart ∧
      (r.status = .unknownKind ∨ r.status = .badLength ∨ r.status = .badArgument ∨ r.status = .busy)) ∧
  (∀ (i : Instr) (s : State) (kind tag : Byte) (payload : List Byte),
    frameCommand i = some (kind, tag, payload) → s.powered = true → 8 ≤ s.sp.replies.length →
    ∃ t, exec i s = .next t ∧ SameBlocks s t ∧ SameRegime s t ∧ t.sp.hostSilent = false ∧ t.sp.silence = some 30 ∧
      t.sp.restart = s.sp.restart ∧ (s.sp.tx.isSome = true → t.sp.replies = s.sp.replies))

/-- R172: the expiry of the host-silence timer, once it stands at 0, sets the condition, stops the timer and raises the host
count; an expiry that is not due changes nothing of it (log entry 6). Every valid frame, of whatever kind, starts the timer
at 30 s; where the condition is set it clears it and lowers the host count, and where it is clear the count stays. -/
def Obligations.HostSilenceRule : Prop :=
  (∀ s : State, s.powered = true → s.sp.silence = some 0 →
    ∃ t, exec .hostSilent s = .next t ∧ t.sp.hostSilent = true ∧ t.sp.silence = none ∧
      t.rc.trouble = { s.rc.trouble with host := s.rc.trouble.host + 1 } ∧ SameBlocks s t ∧ SameRegime s t) ∧
  (∀ s : State, s.powered = true → s.sp.silence ≠ some 0 →
    ∃ t, exec .hostSilent s = .next t ∧ t.sp.hostSilent = s.sp.hostSilent ∧ t.sp.silence = s.sp.silence ∧ t.rc = s.rc ∧
      SameBlocks s t) ∧
  (∀ (i : Instr) (s : State) (kind tag : Byte) (payload : List Byte), frameCommand i = some (kind, tag, payload) →
    s.powered = true →
    ∃ t, exec i s = .next t ∧ t.sp.hostSilent = false ∧ t.sp.silence = some 30 ∧
      (s.sp.hostSilent = true → t.rc.trouble.host = s.rc.trouble.host - 1) ∧
      (s.sp.hostSilent = false → t.rc.trouble.host = s.rc.trouble.host))

/-- R166, R171, R174: at the end of a frame the transmitter takes the oldest reply, else the head report with the LOST flag
as the marker stands, the marker then being clear. The end of the DONE reply to RESTART makes the pending restart due; the
end of any other frame does not. That the restart is only due there, its effect being left to the row of the restart, and that
the next frame is taken first, is the model's (DESIGN CHOICE, log entry 35; R174 has the restart take effect at that end). -/
def Obligations.TransmitterOrder : Prop :=
  ∀ (s : State) (sent : TxFrame), s.powered = true → s.sp.tx = some sent →
    ∃ t, exec .frameSent s = .next t ∧ SameBlocks s t ∧ t.rc = s.rc ∧ t.sp.restart = s.sp.restart ∧
      (∀ r rs, s.sp.replies = r :: rs →
        t.sp.tx = some (.reply r) ∧ t.sp.replies = rs ∧ t.sp.reports = s.sp.reports ∧ t.sp.lost = s.sp.lost) ∧
      (∀ r rs, s.sp.replies = [] → s.sp.reports = r :: rs →
        t.sp.tx = some (.report r s.sp.lost) ∧ t.sp.reports = rs ∧ t.sp.replies = [] ∧ t.sp.lost = false) ∧
      (s.sp.replies = [] → s.sp.reports = [] → t.sp.tx = none) ∧
      (∀ r, sent = .reply r → r.kind = 0x98#8 → r.status = .done → s.sp.restart.isSome = true →
        t.sp.restartDue = true) ∧
      ((∀ r, sent = .reply r → r.kind = 0x98#8 → r.status ≠ .done) → t.sp.restartDue = s.sp.restartDue)

/-- R169: every query is answered with the record its owner holds, or NO_SUCH, and changes nothing else. R190 gives the value
0 alone for the POOL form of READ_ANNOUNCEMENT; that it is answered alike for every value is the model's (DESIGN CHOICE, log
entry 34). -/
def Obligations.QueriesAnswered : Prop :=
  ∀ (s : State) (tag a b : Byte), s.answers →
    QueryAnswered (.readRegime tag []) s 0x81#8 tag regimeContent ∧
    (a.toNat ≤ 63 → QueryAnswered (.readFloor tag [a]) s 0x82#8 tag (floorContent a.toNat)) ∧
    (∀ k : Line, k.code = a.toNat →
      QueryAnswered (.readZone tag [a, b]) s 0x83#8 tag (zoneContent k b.toNat)) ∧
    QueryAnswered (.readStair tag [a]) s 0x84#8 tag (stairContent a.toNat) ∧
    QueryAnswered (.readCar tag [a]) s 0x85#8 tag (carContent a.toNat) ∧
    QueryAnswered (.readDoor tag [a]) s 0x86#8 tag (doorContent a.toNat) ∧
    QueryAnswered (.readAnnouncementRecord tag [0, b]) s 0x87#8 tag (recordContent b.toNat) ∧
    QueryAnswered (.readAnnouncementPool tag [1, b]) s 0x87#8 tag poolContent ∧
    (b.toNat ≤ 63 → QueryAnswered (.readAnnouncementFloor tag [2, b]) s 0x87#8 tag (claimsContent b.toNat)) ∧
    (∀ k : Line, k.code = a.toNat → k ≠ .l →
      QueryAnswered (.readNode tag [a, b]) s 0x88#8 tag (nodeContent k b.toNat))

/-! ## Regime and floors -/

/-- R15, R16, R40: RESET_REGIME: REFUSED in NORMAL, BUSY while pending, and otherwise DONE. The pass clears each CONFIRMED
zone whose last input is NORMAL, marks every other CONFIRMED zone clear-on-restore, and cancels each VERIFYING zone. The
reset is then pending with a floor still in alarm, or complete with the level NORMAL, no origins and every floor QUIET. -/
def Obligations.ResetRegimeRule : Prop :=
  ∀ (s : State) (tag : Byte), s.answers →
    (s.rc.level = .normal → AnsweredOnly (.resetRegime tag []) s (refusal 0x89#8 tag .regimeQuiet)) ∧
    (s.rc.level ≠ .normal → s.rc.resetPending = true →
      AnsweredOnly (.resetRegime tag []) s (plainReply 0x89#8 tag .busy)) ∧
    (s.rc.level ≠ .normal → s.rc.resetPending = false →
      ∃ t, exec (.resetRegime tag []) s = .next t ∧ newestReply t = some (plainReply 0x89#8 tag .done) ∧
        t.cs = s.cs ∧ t.rc.secondCount = s.rc.secondCount ∧ t.ze.links = s.ze.links ∧ t.ze.lines = s.ze.lines ∧
        (∀ (k : Line) (n : Nat) (z : Zone), findZone s.ze k n = some z →
          (z.state = .confirmed → z.lastInput = some .normal →
            findZone t.ze k n = some { z with state := .normal, clearOnRestore := false }) ∧
          (z.state = .confirmed → z.lastInput ≠ some .normal →
            findZone t.ze k n = some { z with clearOnRestore := true }) ∧
          (z.state = .verifying → findZone t.ze k n = some { z with state := .normal, window := none }) ∧
          (z.state ≠ .confirmed → z.state ≠ .verifying → findZone t.ze k n = some z)) ∧
        ((t.rc.resetPending = true ∧ t.rc.level = s.rc.level ∧ t.rc.origins = s.rc.origins ∧
            ∃ fl ∈ t.rc.floors, 0 < fl.alarmCount) ∨
          (t.rc.resetPending = false ∧ t.rc.level = .normal ∧ t.rc.origins = [] ∧ t.es.waiting = [] ∧
            t.es.advanceTimer = none ∧
            ∀ fl ∈ t.rc.floors, fl.alarmCount = 0 ∧ fl.state = .quiet ∧ fl.origin = false ∧ fl.admission = none)))

/-- R11, R12, R113: START_GENERAL is DONE in every level. The level is then GENERAL with no reset pending. Where it was not
GENERAL before, the pending list is empty, the advance timer stopped and no floor in ALERT, every group is in recall, every
drive latch is RELEASE, RELEASE_ALL is asked for on each door loop that has a node and sent at once on one that has none,
and every output image is dirty; from NORMAL every floor is in EVAC. -/
def Obligations.StartGeneralRule : Prop :=
  ∀ (s : State) (tag : Byte), s.answers →
    ∃ t, exec (.startGeneral tag []) s = .next t ∧ newestReply t = some (plainReply 0x8A#8 tag .done) ∧
      t.rc.level = .general ∧ t.rc.resetPending = false ∧ t.rc.origins = s.rc.origins ∧
      t.rc.floors.length = s.rc.floors.length ∧
      (s.rc.level = .general → t.rc.floors = s.rc.floors ∧ t.es = s.es ∧ t.ds = s.ds ∧ t.cs = s.cs) ∧
      (s.rc.level ≠ .general → t.rc.entryTime = s.rc.secondCount ∧ t.rc.commonAlarm = true ∧ t.es.waiting = [] ∧
        t.es.advanceTimer = none ∧ (∀ fl ∈ t.rc.floors, fl.state ≠ .alert) ∧
        (s.KeysDistinct → (∀ g ∈ t.lc.groups, g.active = true ∧ g.triggers.general = true) ∧
          ∀ d ∈ t.ds.doors, d.drive = .release) ∧
        (∀ (k : Fin 2) (p : PortRec), findPort s.flc.ports (.d k) = some p → ∃ p', findPort t.flc.ports (.d k) = some p' ∧
          ((∃ n ∈ s.flc.nodes, n.port = .d k) → p'.broadcast = true) ∧
          ((∀ n ∈ s.flc.nodes, n.port ≠ .d k) → p'.sent = [releaseAllFrame])) ∧
        (∀ m ∈ t.ds.modules, ∀ n ∈ t.flc.nodes, n.port = m.loop → n.address = m.address →
          ∀ x ∈ n.images, x.name = .outputs → x.dirty = true)) ∧
      (s.rc.level = .normal → ∀ fl ∈ t.rc.floors, fl.state = .evac)

/-- R13, R168: EVACUATE_FLOORS: REFUSED in NORMAL, BAD_ARGUMENT for a reversed span; otherwise every ALERT floor of the span
that is pending, or that is not a STAIR floor, is in EVAC with kind MANUAL, and the reply is CLAMPED where the span was
cut. -/
def Obligations.EvacuateFloorsRule : Prop :=
  ∀ (s : State) (tag lo hi : Byte), s.answers → lo.toNat ≤ 63 → hi.toNat ≤ 63 →
    (s.rc.level = .normal →
      AnsweredOnly (.evacuateFloors tag [lo, hi]) s (refusal 0x8B#8 tag .regimeQuiet)) ∧
    (s.rc.level ≠ .normal → hi.toNat < lo.toNat →
      AnsweredOnly (.evacuateFloors tag [lo, hi]) s (plainReply 0x8B#8 tag .badArgument)) ∧
    (s.rc.level ≠ .normal → lo.toNat ≤ hi.toNat →
      ∃ t, exec (.evacuateFloors tag [lo, hi]) s = .next t ∧
        newestReply t =
          some (plainReply 0x8B#8 tag (if s.rc.floors.length ≤ hi.toNat then .clamped else .done)) ∧
        t.rc.level = s.rc.level ∧ t.rc.resetPending = s.rc.resetPending ∧ t.rc.origins = s.rc.origins ∧
        t.ze = s.ze ∧ t.lc = s.lc ∧ t.cs = s.cs ∧
        ∀ f fl, lo.toNat ≤ f → f ≤ hi.toNat → s.rc.floors[f]? = some fl → fl.state = .alert →
          (f ∈ s.es.waiting ∨ fl.egress ≠ .stair) →
          ∃ fl' a, t.rc.floors[f]? = some fl' ∧ fl'.state = .evac ∧ fl'.admission = some a ∧ a.kind = .manual)

/-- R14: SET_OCCUPANCY: NO_SUCH, NO_EGRESS, and otherwise the value held at 2000 stored, with every other field, floor and
block as it was. -/
def Obligations.SetOccupancyRule : Prop :=
  ∀ (s : State) (tag f v0 v1 : Byte), s.answers → f.toNat ≤ 63 →
    (s.rc.floors.length ≤ f.toNat →
      AnsweredOnly (.setOccupancy tag [f, v0, v1]) s (plainReply 0x8C#8 tag .noSuch)) ∧
    (∀ fl, s.rc.floors[f.toNat]? = some fl → fl.egress = .none →
      AnsweredOnly (.setOccupancy tag [f, v0, v1]) s (refusal 0x8C#8 tag .noEgress)) ∧
    (∀ fl, s.rc.floors[f.toNat]? = some fl → fl.egress ≠ .none →
      ∃ t, exec (.setOccupancy tag [f, v0, v1]) s = .next t ∧
        newestReply t =
          some (plainReply 0x8C#8 tag (if 2000 < v0.toNat + 256 * v1.toNat then .clamped else .done)) ∧
        t.rc.floors[f.toNat]? = some { fl with occupancy := min 2000 (v0.toNat + 256 * v1.toNat) } ∧
        (∀ g, g ≠ f.toNat → t.rc.floors[g]? = s.rc.floors[g]?) ∧
        t.rc.level = s.rc.level ∧ t.rc.resetPending = s.rc.resetPending ∧ SameBlocks s t)

/-! ## Zones -/

/-- R42: DISABLE_ZONE by the zone's state. -/
def Obligations.DisableZoneRule : Prop :=
  ∀ (s : State) (tag a b : Byte) (k : Line), s.answers → k.code = a.toNat →
    (findZone s.ze k b.toNat = none →
      AnsweredOnly (.disableZone tag [a, b]) s (plainReply 0x8D#8 tag .noSuch)) ∧
    (∀ z, findZone s.ze k b.toNat = some z →
      (z.state = .confirmed → AnsweredOnly (.disableZone tag [a, b]) s (refusal 0x8D#8 tag .zoneActive)) ∧
      (z.state = .disabled → AnsweredOnly (.disableZone tag [a, b]) s (plainReply 0x8D#8 tag .done)) ∧
      (z.state ≠ .confirmed → z.state ≠ .disabled →
        ∃ t, exec (.disableZone tag [a, b]) s = .next t ∧ newestReply t = some (plainReply 0x8D#8 tag .done) ∧
          findZone t.ze k b.toNat = some { z with state := .disabled, disabled := true, window := none } ∧
          (∀ k' n, (k', n) ≠ (k, b.toNat) → findZone t.ze k' n = findZone s.ze k' n) ∧
          t.ze.links = s.ze.links ∧ t.ze.lines = s.ze.lines ∧ t.cs = s.cs ∧
          (z.state ≠ .verifying → SameRegime s t ∧ t.flc = s.flc ∧ t.es = s.es ∧ t.lc = s.lc ∧ t.ds = s.ds ∧
            t.ar = s.ar)))

/-- R43, R28, R33, R5: ENABLE_ZONE: NO_SUCH; of a zone that is not DISABLED it changes nothing; of a DISABLED zone with its
link down or no last input it gives UNKNOWN; with the link up, a last input NORMAL gives NORMAL, FAULT gives TROUBLE, and
ALARM gives VERIFYING with a fresh window where the zone has the verify flag and is not corroborated, and else CONFIRMED,
with one more in its floor's alarm count. Its rise ends a pending reset, and a clear-on-restore mark with it (R17). -/
def Obligations.EnableZoneRule : Prop :=
  ∀ (s : State) (tag a b : Byte) (k : Line), s.answers → k.code = a.toNat →
    (findZone s.ze k b.toNat = none →
      AnsweredOnly (.enableZone tag [a, b]) s (plainReply 0x8E#8 tag .noSuch)) ∧
    ∀ z : Zone, findZone s.ze k b.toNat = some z →
    (z.state ≠ .disabled → AnsweredOnly (.enableZone tag [a, b]) s (plainReply 0x8E#8 tag .done)) ∧
    (z.state = .disabled → ∀ x : ZoneState,
      (((linkRec s.ze k).up = false ∨ z.lastInput = none) ∧ x = .unknown ∨
        (linkRec s.ze k).up = true ∧ z.lastInput = some .normal ∧ x = .normal ∨
        (linkRec s.ze k).up = true ∧ z.lastInput = some .fault ∧ x = .trouble) →
      ∃ t, exec (.enableZone tag [a, b]) s = .next t ∧ newestReply t = some (plainReply 0x8E#8 tag .done) ∧
        findZone t.ze k b.toNat = some { z with state := x, disabled := false } ∧
        (∀ k' n, (k', n) ≠ (k, b.toNat) → findZone t.ze k' n = findZone s.ze k' n) ∧
        t.ze.links = s.ze.links ∧ t.ze.lines = s.ze.lines ∧ SameRegime s t ∧ t.flc = s.flc ∧ t.es = s.es ∧
        t.lc = s.lc ∧ t.ds = s.ds ∧ t.ar = s.ar ∧ t.cs = s.cs) ∧
    (z.state = .disabled → (linkRec s.ze k).up = true → z.lastInput = some .alarm →
      ∃ t, exec (.enableZone tag [a, b]) s = .next t ∧ newestReply t = some (plainReply 0x8E#8 tag .done) ∧
        t.rc.resetPending = false ∧ t.ze.links = s.ze.links ∧ t.ze.lines = s.ze.lines ∧
        (z.verify = true → corroborated s.ze.zones z = false → findZone t.ze k b.toNat = some { z with
          state := .verifying
          disabled := false
          window := some ⟨s.ze.window, false, false⟩
          clearOnRestore := if s.rc.resetPending then false else z.clearOnRestore }) ∧
        ((z.verify = false ∨ corroborated s.ze.zones z = true) → findZone t.ze k b.toNat = some { z with
          state := .confirmed
          disabled := false
          window := none
          clearOnRestore := if s.rc.resetPending then false else z.clearOnRestore }) ∧
        ∀ fl, s.rc.floors[z.floor]? = some fl → ∃ fl', t.rc.floors[z.floor]? = some fl' ∧
          fl'.alarmCount = fl.alarmCount + 1 ∧ fl'.lockout = true)

/-- R44: a change of level starts the debounce timer; at the expiry the delivered level is the level at the line, and where
that is new, the configured zone of the line on L is given ALARM where the level matches its polarity and NORMAL otherwise:
it takes the input, a NORMAL gives NORMAL to a zone that was UNKNOWN or in TROUBLE, and an ALARM begins an alarm (R28). That a
LOCAL_LINE_CHANGE to the level that stands changes nothing is the model's (DEDUCED, log entry 28), and so is that an expiry
that is not due changes no block (DESIGN CHOICE, log entry 6). -/
def Obligations.LocalLineRule : Prop :=
  ∀ (s : State) (n : Fin 4) (x : LocalLine), s.powered = true → s.ze.lines[n.val]? = some x →
    (∀ v : LineLevel, ∃ t, exec (.localLineChange n v) s = .next t ∧
      t.ze.lines[n.val]? = some (if x.pin = v then x else { x with pin := v, debouncing := true }) ∧
      t.ze.zones = s.ze.zones ∧ t.ze.links = s.ze.links ∧ SameRegime s t ∧ t.flc = s.flc ∧ t.es = s.es ∧
      t.lc = s.lc ∧ t.ds = s.ds ∧ t.ar = s.ar ∧ t.cs = s.cs) ∧
    (x.debouncing = true → ∃ t, exec (.debounceExpiry n) s = .next t ∧
      t.ze.lines[n.val]? = some { x with delivered := some x.pin, debouncing := false } ∧
      (x.delivered = some x.pin → t.ze.zones = s.ze.zones ∧ SameRegime s t) ∧
      ∀ (z : Zone) (i : Input), x.delivered ≠ some x.pin → findZone s.ze .l n.val = some z →
        (((z.polarity = some .alarmHigh ∧ x.pin = .high ∨ z.polarity = some .alarmLow ∧ x.pin = .low) ∧ i = .alarm) ∨
          ((z.polarity = some .alarmHigh ∧ x.pin = .low ∨ z.polarity = some .alarmLow ∧ x.pin = .high) ∧ i = .normal)) →
        ∃ z', findZone t.ze .l n.val = some z' ∧ z'.lastInput = some i ∧
          ((z.state = .normal ∨ z.state = .unknown ∨ z.state = .trouble) → z'.state =
            if i = .normal then .normal
            else if z.verify = true ∧ corroborated s.ze.zones z = false then .verifying else .confirmed)) ∧
    (x.debouncing = false → ∃ t, exec (.debounceExpiry n) s = .next t ∧ SameBlocks s t ∧ SameRegime s t)

/-- R34: the expiry of a window, whose deadline stands at 0, by the first line of the table that matches; a zone that drops out
of VERIFYING takes one from its floor's alarm count, the lockout flag following (R5). An expiry ahead of its deadline is not
due and changes no block (log entry 6). -/
def Obligations.WindowExpiryRule : Prop :=
  ∀ (s : State) (k : Line) (n : Nat) (z : Zone) (w : Window), s.powered = true → findZone s.ze k n = some z →
    z.state = .verifying → z.window = some w →
    (w.deadline ≠ 0 → ∃ t, exec (.windowExpiry k n) s = .next t ∧ SameBlocks s t ∧ SameRegime s t) ∧
    (w.deadline = 0 → ∃ t, exec (.windowExpiry k n) s = .next t ∧
      (∀ k' m, (k', m) ≠ (k, n) → findZone t.ze k' m = findZone s.ze k' m) ∧ t.ze.links = s.ze.links ∧
      t.ze.lines = s.ze.lines ∧
      (w.linkLost = true → findZone t.ze k n = some { z with state := .confirmed, window := none }) ∧
      (w.linkLost = false → z.lastInput = some .alarm →
        findZone t.ze k n = some { z with state := .confirmed, window := none }) ∧
      (w.linkLost = false → z.lastInput = some .normal →
        findZone t.ze k n = some { z with state := .normal, window := none }) ∧
      (w.linkLost = false → z.lastInput = some .fault →
        findZone t.ze k n = some { z with state := .trouble, window := none }) ∧
      (w.linkLost = false → (z.lastInput = some .normal ∨ z.lastInput = some .fault) → s.rc.resetPending = false →
        t.rc.level = s.rc.level ∧ t.es = s.es ∧ t.ds = s.ds ∧ t.ar = s.ar ∧ t.cs = s.cs ∧
        ∀ fl, s.rc.floors[z.floor]? = some fl → t.rc.floors[z.floor]? =
          some { fl with alarmCount := fl.alarmCount - 1, lockout := decide (0 < fl.alarmCount - 1) }))

/-! ## Stairs -/

/-- R60, R61, R63, R65: the drain of a stair whose timer stands at 0: credit and load by the five steps, the timer again at 10.
Where the condition does not change, no other stair changes and no floor is admitted. A CONGESTED stair at or below its low
watermark is AVAILABLE, and the head of the pending list is tried: held back by a congested receiving stair, it stays; else
it is admitted with kind ORDERED and its shares, and the advance timer stands at its limit. An expiry that is not due changes
no block (log entry 6). -/
def Obligations.DrainRule : Prop :=
  ∀ (s : State) (i : Nat) (st : Stair), s.powered = true → s.es.stairs[i]? = some st →
    (st.drainTimer ≠ some 0 → ∃ t, exec (.drainExpiry i) s = .next t ∧ SameBlocks s t ∧ SameRegime s t) ∧
    (st.drainTimer = some 0 →
    ∃ t, exec (.drainExpiry i) s = .next t ∧ t.cs = s.cs ∧ t.ze = s.ze ∧ t.lc = s.lc ∧
      (¬(st.cond = .congested ∧ st.load - (st.credit + st.flow) / 6 ≤ st.low) →
        t.es.stairs[i]? = some { st with
          load := st.load - (st.credit + st.flow) / 6
          credit := if st.load - (st.credit + st.flow) / 6 = 0 then 0 else (st.credit + st.flow) % 6
          drainTimer := some 10 } ∧
        (∀ j, j ≠ i → t.es.stairs[j]? = s.es.stairs[j]?) ∧ t.es.waiting = s.es.waiting ∧ SameRegime s t) ∧
      (st.cond = .congested → st.load - (st.credit + st.flow) / 6 ≤ st.low →
        ∀ opened : List Stair, opened = s.es.stairs.set i { st with
          load := st.load - (st.credit + st.flow) / 6
          credit := if st.load - (st.credit + st.flow) / 6 = 0 then 0 else (st.credit + st.flow) % 6
          cond := .available
          drainTimer := some 10 } →
        (s.es.waiting = [] → t.es = { s.es with stairs := opened } ∧ SameRegime s t) ∧
        (∀ f rest fl, s.es.waiting = f :: rest → s.rc.floors[f]? = some fl →
          (heldBack opened (sharesOf opened fl) = true → t.es = { s.es with stairs := opened } ∧ SameRegime s t) ∧
          (heldBack opened (sharesOf opened fl) = false → t.es.advanceTimer = some s.es.advanceLimit ∧
            (fl.state = .alert → ∃ fl', t.rc.floors[f]? = some fl' ∧ fl'.state = .evac ∧
              fl'.admission = some ⟨.ordered, some (shareList opened fl), s.rc.secondCount⟩)))))

/-- R67, R68: the expiry of the advance timer, which stands at 0: on an empty list the timer stops; otherwise the head floor,
where it is in ALERT, is in EVAC with kind FORCED and the timer stands at the advance limit. An expiry that is not due admits
no floor and leaves the timer: R68 says so of a timer that was restarted, and of one that is stopped, or above 0 for any
other cause, it is the model's (DESIGN CHOICE, log entry 6). -/
def Obligations.ForcedAdvanceRule : Prop :=
  (∀ s : State, s.powered = true → s.es.advanceTimer = some 0 →
    ∃ t, exec .forcedAdvance s = .next t ∧ t.rc.level = s.rc.level ∧ t.rc.origins = s.rc.origins ∧ t.ze = s.ze ∧
      t.cs = s.cs ∧
      (s.es.waiting = [] → t.es = { s.es with advanceTimer := none } ∧ SameRegime s t) ∧
      (∀ f rest fl, s.es.waiting = f :: rest → s.rc.floors[f]? = some fl →
        t.es.advanceTimer = some s.es.advanceLimit ∧
        (fl.state = .alert → ∃ fl' a, t.rc.floors[f]? = some fl' ∧ fl'.state = .evac ∧ fl'.admission = some a ∧
          a.kind = .forced ∧ a.time = s.rc.secondCount))) ∧
  (∀ s : State, s.powered = true → s.es.advanceTimer ≠ some 0 →
    ∃ t, exec .forcedAdvance s = .next t ∧ SameBlocks s t ∧ SameRegime s t)

/-! ## Lifts -/

/-- R92: RECALL_GROUP: NO_SUCH, or DONE with the recall active and the REQUEST mark set. -/
def Obligations.RecallGroupRule : Prop :=
  ∀ (s : State) (tag a : Byte), s.answers →
    (findGroup s.lc a.toNat = none →
      AnsweredOnly (.recallGroup tag [a]) s (plainReply 0x8F#8 tag .noSuch)) ∧
    (∀ g, findGroup s.lc a.toNat = some g →
      ∃ t g', exec (.recallGroup tag [a]) s = .next t ∧ newestReply t = some (plainReply 0x8F#8 tag .done) ∧
        findGroup t.lc a.toNat = some g' ∧ g'.active = true ∧ g'.triggers.request = true ∧
        (∀ n, n ≠ a.toNat → findGroup t.lc n = findGroup s.lc n) ∧ t.lc.cars.length = s.lc.cars.length ∧
        SameRegime s t ∧ t.ze = s.ze ∧ t.es = s.es ∧ t.ds = s.ds ∧ t.ar = s.ar ∧ t.cs = s.cs)

/-- R95: RELEASE_GROUP: NO_SUCH, TRIGGER_ACTIVE, or DONE with the recall inactive, its triggers gone and its target
absent. -/
def Obligations.ReleaseGroupRule : Prop :=
  ∀ (s : State) (tag a : Byte), s.answers →
    (findGroup s.lc a.toNat = none →
      AnsweredOnly (.releaseGroup tag [a]) s (plainReply 0x90#8 tag .noSuch)) ∧
    (∀ g, findGroup s.lc a.toNat = some g →
      ((s.rc.level = .general ∨ ∃ z ∈ g.triggers.zones, z.standing = true) →
        AnsweredOnly (.releaseGroup tag [a]) s (refusal 0x90#8 tag .triggerActive)) ∧
      (s.rc.level ≠ .general → (∀ z ∈ g.triggers.zones, z.standing = false) → g.active = false →
        AnsweredOnly (.releaseGroup tag [a]) s (plainReply 0x90#8 tag .done)) ∧
      (s.rc.level ≠ .general → (∀ z ∈ g.triggers.zones, z.standing = false) → g.active = true →
        ∃ t g', exec (.releaseGroup tag [a]) s = .next t ∧ newestReply t = some (plainReply 0x90#8 tag .done) ∧
          findGroup t.lc a.toNat = some g' ∧ g'.active = false ∧ g'.target = none ∧
          g'.triggers = ⟨false, false, []⟩ ∧ (∀ n, n ≠ a.toNat → findGroup t.lc n = findGroup s.lc n) ∧
          SameRegime s t ∧ t.ze = s.ze ∧ t.es = s.es ∧ t.ds = s.ds ∧ t.ar = s.ar ∧ t.cs = s.cs))

/-- R90, R91: FIRE_SERVICE of a car whose group is configured: on, for a RECALLED car with another image, and off, for a car
in FIRE_SERVICE, each set the image afresh with attempts 0 and state SENT; on is REFUSED for a car not RECALLED. -/
def Obligations.FireServiceRule : Prop :=
  ∀ (s : State) (tag a : Byte) (c : Car) (g : Group), s.answers → findCar s.lc a.toNat = some c →
    findGroup s.lc c.group = some g →
    (c.service = .recalled → c.image ≠ some .fireOn →
      ∃ t, exec (.fireServiceOn tag [a, 1]) s = .next t ∧ newestReply t = some (plainReply 0x91#8 tag .done) ∧
        findCar t.lc a.toNat =
          some { c with image := some .fireOn, cmdState := .sent, attempts := 0, retry := none } ∧
        t.lc.groups = s.lc.groups ∧ SameRegime s t ∧ t.ze = s.ze ∧ t.es = s.es ∧ t.ds = s.ds ∧ t.ar = s.ar ∧
        t.cs = s.cs) ∧
    (c.service ≠ .recalled → c.service ≠ .fireService →
      AnsweredOnly (.fireServiceOn tag [a, 1]) s (refusal 0x91#8 tag .notParked)) ∧
    (c.service = .fireService →
      ∃ t, exec (.fireServiceOff tag [a, 0]) s = .next t ∧ newestReply t = some (plainReply 0x91#8 tag .done) ∧
        findCar t.lc a.toNat =
          some { c with image := some .fireOff, cmdState := .sent, attempts := 0, retry := none } ∧
        t.lc.groups = s.lc.groups ∧ SameRegime s t ∧ t.ze = s.ze ∧ t.es = s.es ∧ t.ds = s.ds ∧ t.ar = s.ar ∧
        t.cs = s.cs)

/-- R84: the expiry of a car's retry timer, which stands at 0: SENT again, image and attempts as they were, and nothing else
of the LC. -/
def Obligations.RetryExpiryRule : Prop :=
  ∀ (s : State) (n : Nat) (c : Car) (g : Group), s.powered = true → findCar s.lc n = some c →
    findGroup s.lc c.group = some g → c.retry = some 0 →
    ∃ t, exec (.retryExpiry n) s = .next t ∧ findCar t.lc n = some { c with cmdState := .sent, retry := none } ∧
      (∀ m, m ≠ n → findCar t.lc m = findCar s.lc m) ∧ t.lc.groups = s.lc.groups ∧ SameRegime s t ∧
      t.ze = s.ze ∧ t.es = s.es ∧ t.ds = s.ds ∧ t.ar = s.ar ∧ t.cs = s.cs ∧
      (∀ nd ∈ t.flc.nodes, nd.port = Line.ofGroup g.number → nd.address = g.address →
        ∀ m ∈ nd.images, m.name = .carCommand c.number → m.dirty = true)

/-! ## Doors -/

/-- R103, R104, R114: RELEASE_DOORS adds to the manual release set, and RESTORE_DOORS takes from it, exactly the pairs of the
span's configured floors with the stair set. The latch of a point whose pair changed is in the state the point then
requires; every other latch stays, and so does every enable. -/
def Obligations.ManualReleaseRule : Prop :=
  ∀ (s : State) (tag lo hi q : Byte), s.answers → lo.toNat ≤ hi.toNat → hi.toNat ≤ 63 → q.toNat < 16 →
    (∃ t, exec (.releaseDoors tag [lo, hi, q]) s = .next t ∧
      newestReply t = some (plainReply 0x92#8 tag (if s.rc.floors.length ≤ hi.toNat then .clamped else .done)) ∧
      SameRegime s t ∧ t.ze = s.ze ∧ t.es = s.es ∧ t.lc = s.lc ∧ t.ar = s.ar ∧ t.cs = s.cs ∧
      (∀ st set, s.ds.manual[st]? = some set → ∃ set', t.ds.manual[st]? = some set' ∧
        ∀ f, f < 64 → (hasBit set' f = true ↔ hasBit set f = true ∨
          (q.getLsbD st = true ∧ st < 4 ∧ lo.toNat ≤ f ∧ f ≤ hi.toNat ∧ f < s.rc.floors.length))) ∧
      (s.KeysDistinct → LatchesFollow s t)) ∧
    (∃ t, exec (.restoreDoors tag [lo, hi, q]) s = .next t ∧
      newestReply t = some (plainReply 0x93#8 tag (if s.rc.floors.length ≤ hi.toNat then .clamped else .done)) ∧
      SameRegime s t ∧ t.ze = s.ze ∧ t.es = s.es ∧ t.lc = s.lc ∧ t.ar = s.ar ∧ t.cs = s.cs ∧
      (∀ st set, s.ds.manual[st]? = some set → ∃ set', t.ds.manual[st]? = some set' ∧
        ∀ f, f < 64 → (hasBit set' f = true ↔ hasBit set f = true ∧
          ¬(q.getLsbD st = true ∧ st < 4 ∧ lo.toNat ≤ f ∧ f ≤ hi.toNat ∧ f < s.rc.floors.length))) ∧
      (s.KeysDistinct → LatchesFollow s t))

/-- R108, R111: the dwell of a PENDING point, which stands at 0, gives FAULT and a rise of the door point count; the held-open
timer at 0 takes a NORMAL point to HELD_OPEN and leaves any other condition, and is gone. That a point in UNKNOWN, which R111
does not name, keeps its condition and loses its timer is the model's (DESIGN CHOICE, log entry 32), and so is that an expiry
that is not due changes no block (DESIGN CHOICE, log entry 6). -/
def Obligations.DoorTimersRule : Prop :=
  ∀ (s : State) (n : Nat) (d : Door), s.powered = true → s.ds.doors.find? (fun e => e.index = n) = some d →
    (d.cond = .pending → d.dwell = some 0 →
      ∃ t, exec (.dwellExpired n) s = .next t ∧
        t.ds.doors.find? (fun e => e.index = n) = some { d with cond := .fault, dwell := none } ∧
        t.rc.trouble = { s.rc.trouble with doors := s.rc.trouble.doors + 1 } ∧ SameRegime s t ∧
        (∀ m, m ≠ n → t.ds.doors.find? (fun e => e.index = m) = s.ds.doors.find? (fun e => e.index = m)) ∧
        t.ds.manual = s.ds.manual ∧ t.ze = s.ze ∧ t.es = s.es ∧ t.lc = s.lc ∧ t.ar = s.ar ∧ t.cs = s.cs) ∧
    (d.heldOpen = some 0 →
      ∃ t, exec (.heldOpenExpiry n) s = .next t ∧
        t.ds.doors.find? (fun e => e.index = n) =
          some { d with cond := if d.cond = .normal then .heldOpen else d.cond, heldOpen := none } ∧
        t.rc = s.rc ∧
        (∀ m, m ≠ n → t.ds.doors.find? (fun e => e.index = m) = s.ds.doors.find? (fun e => e.index = m)) ∧
        t.ds.manual = s.ds.manual ∧ t.ze = s.ze ∧ t.es = s.es ∧ t.lc = s.lc ∧ t.ar = s.ar ∧ t.cs = s.cs) ∧
    (d.dwell ≠ some 0 → ∃ t, exec (.dwellExpired n) s = .next t ∧ SameBlocks s t ∧ SameRegime s t) ∧
    (d.heldOpen ≠ some 0 → ∃ t, exec (.heldOpenExpiry n) s = .next t ∧ SameBlocks s t ∧ SameRegime s t)

/-! ## Announcements -/

/-- R121, R122, R135: ANNOUNCE: the tests in their order; an accepted request is answered with the id of a new record, DONE or
CLAMPED as the span was cut, and the record is of class TENANT, requested, with the message, the repeats and the configured
floors of the span. At most three records of other classes are in the table, so that the new record, which ranks above every
older TENANT record, has room on each claim stack (R125). -/
def Obligations.AnnounceRule : Prop :=
  ∀ (s : State) (tag m lo hi r : Byte), s.answers → lo.toNat ≤ 63 → hi.toNat ≤ 63 →
    ((hi.toNat < lo.toNat ∨ 15 < r.toNat) →
      AnsweredOnly (.announce tag [m, lo, hi, r]) s (plainReply 0x94#8 tag .badArgument)) ∧
    (lo.toNat ≤ hi.toNat → r.toNat ≤ 15 → s.rc.level ≠ .normal →
      AnsweredOnly (.announce tag [m, lo, hi, r]) s (refusal 0x94#8 tag .regimeActive)) ∧
    (lo.toNat ≤ hi.toNat → r.toNat ≤ 15 → s.rc.level = .normal →
      (∀ e, s.ar.library[m.toNat]? = some e → e.inUse = false) →
      AnsweredOnly (.announce tag [m, lo, hi, r]) s (plainReply 0x94#8 tag .noSuch)) ∧
    (∀ e, lo.toNat ≤ hi.toNat → r.toNat ≤ 15 → s.rc.level = .normal → s.ar.library[m.toNat]? = some e →
      e.inUse = true →
      ((e.kind = .evac ∨ e.kind = .alert ∨ e.kind = .allClear) →
        AnsweredOnly (.announce tag [m, lo, hi, r]) s (plainReply 0x94#8 tag .badArgument)) ∧
      ((e.kind = .tenant ∨ e.kind = .test) → freeSlot s.ar = none →
        AnsweredOnly (.announce tag [m, lo, hi, r]) s (refusal 0x94#8 tag .tableFull)) ∧
      ((e.kind = .tenant ∨ e.kind = .test) → (freeSlot s.ar).isSome = true → s.rc.floors.length ≤ lo.toNat →
        AnsweredOnly (.announce tag [m, lo, hi, r]) s (plainReply 0x94#8 tag .clamped)) ∧
      ((e.kind = .tenant ∨ e.kind = .test) → (freeSlot s.ar).isSome = true → lo.toNat < s.rc.floors.length →
        s.RecordsSound → s.ClaimsSound → (s.ar.records.filter (fun x => x.cls ≠ .tenant)).length ≤ 3 →
        ∃ t id x set, exec (.announce tag [m, lo, hi, r]) s = .next t ∧
          newestReply t = some ⟨0x94#8, tag, if s.rc.floors.length ≤ hi.toNat then .clamped else .done, none,
            .recordId id⟩ ∧ findRec s.ar id = none ∧ 1 ≤ id ∧ id ≤ 255 ∧
          findRec t.ar id = some x ∧ x.cls = .tenant ∧ x.source = .requested ∧ x.message = some m.toNat ∧
          x.repeats = r.toNat ∧ x.plays = 0 ∧ x.requested = some set ∧
          (∀ f, f < 64 →
            (hasBit set f = true ↔ lo.toNat ≤ f ∧ f ≤ hi.toNat ∧ f < s.rc.floors.length)) ∧
          SameRegime s t ∧ t.ze = s.ze ∧ t.es = s.es ∧ t.lc = s.lc ∧ t.ds = s.ds ∧ t.cs = s.cs))

/-- R136: CANCEL_ANNOUNCEMENT: NO_SUCH, SYSTEM_RECORD, a TENANT record that waits or is suspended ended, and one that plays
in ENDING where no record waits for a channel. -/
def Obligations.CancelRule : Prop :=
  ∀ (s : State) (tag a : Byte), s.answers →
    (findRec s.ar a.toNat = none →
      AnsweredOnly (.cancelAnnouncement tag [a]) s (plainReply 0x95#8 tag .noSuch)) ∧
    (∀ r, findRec s.ar a.toNat = some r →
      (r.source = .system → AnsweredOnly (.cancelAnnouncement tag [a]) s (refusal 0x95#8 tag .systemRecord)) ∧
      (r.source = .requested → r.cls = .tenant → (r.state = .waiting ∨ r.state = .suspended) →
        ∃ t, exec (.cancelAnnouncement tag [a]) s = .next t ∧
          newestReply t = some (plainReply 0x95#8 tag .done) ∧ findRec t.ar a.toNat = none ∧ SameRegime s t ∧
          t.ze = s.ze ∧ t.es = s.es ∧ t.lc = s.lc ∧ t.ds = s.ds ∧ t.cs = s.cs) ∧
      (r.source = .requested → r.cls = .tenant → r.state = .playing → s.ar.waitList = [] →
        ∃ t r', exec (.cancelAnnouncement tag [a]) s = .next t ∧
          newestReply t = some (plainReply 0x95#8 tag .done) ∧ findRec t.ar a.toNat = some r' ∧
          r'.state = .ending ∧ r'.owned = r.owned ∧ r'.plays = r.plays ∧ SameRegime s t ∧
          t.ze = s.ze ∧ t.es = s.es ∧ t.lc = s.lc ∧ t.ds = s.ds ∧ t.cs = s.cs))

/-- R121, R139, R141: BEGIN_LIVE is REFUSED while a LIVE record exists, and where every slot holds a record and none is of
class TENANT; otherwise the reply carries the id of a new record. Where no slot is free, the oldest TENANT record is ended
first and the new record takes its slot. The record is the one of class LIVE, requested, with the configured floors of the
span. END_LIVE is NO_SUCH without a LIVE record and otherwise ends it. -/
def Obligations.LiveRule : Prop :=
  ∀ (s : State) (tag lo hi : Byte), s.answers → lo.toNat ≤ hi.toNat → hi.toNat ≤ 63 →
    ((liveRec s.ar).isSome = true →
      AnsweredOnly (.beginLive tag [lo, hi]) s (refusal 0x96#8 tag .liveInUse)) ∧
    (liveRec s.ar = none → s.rc.floors.length ≤ lo.toNat →
      AnsweredOnly (.beginLive tag [lo, hi]) s (plainReply 0x96#8 tag .clamped)) ∧
    (liveRec s.ar = none → lo.toNat < s.rc.floors.length → freeSlot s.ar = none →
      (∀ x ∈ s.ar.records, x.cls ≠ .tenant) →
      AnsweredOnly (.beginLive tag [lo, hi]) s (refusal 0x96#8 tag .tableFull)) ∧
    (liveRec s.ar = none → lo.toNat < s.rc.floors.length →
      ((freeSlot s.ar).isSome = true ∨ ∃ x ∈ s.ar.records, x.cls = .tenant) → s.RecordsSound → s.ClaimsSound →
      ∃ t id x set, exec (.beginLive tag [lo, hi]) s = .next t ∧
        newestReply t = some ⟨0x96#8, tag, if s.rc.floors.length ≤ hi.toNat then .clamped else .done, none,
          .recordId id⟩ ∧ ((freeSlot s.ar).isSome = true → findRec s.ar id = none) ∧ 1 ≤ id ∧ id ≤ 255 ∧
        liveRec t.ar = some x ∧ findRec t.ar id = some x ∧ x.cls = .live ∧ x.source = .requested ∧ x.message = none ∧
        x.repeats = 0 ∧ x.requested = some set ∧
        (∀ f, f < 64 → (hasBit set f = true ↔ lo.toNat ≤ f ∧ f ≤ hi.toNat ∧ f < s.rc.floors.length)) ∧
        (freeSlot s.ar = none → ∀ old ∈ s.ar.records, old.cls = .tenant →
          (∀ y ∈ s.ar.records, y.cls = .tenant → y.id ≠ old.id → old.creation < y.creation) →
          x.slot = old.slot ∧ ∀ y ∈ t.ar.records, y.id = old.id → y = x) ∧
        SameRegime s t ∧ t.ze = s.ze ∧ t.es = s.es ∧ t.lc = s.lc ∧ t.ds = s.ds ∧ t.cs = s.cs) ∧
    (liveRec s.ar = none → AnsweredOnly (.endLive tag []) s (plainReply 0x97#8 tag .noSuch)) ∧
    (∀ r, liveRec s.ar = some r →
      ∃ t, exec (.endLive tag []) s = .next t ∧ newestReply t = some (plainReply 0x97#8 tag .done) ∧
        findRec t.ar r.id = none ∧ SameRegime s t ∧ t.ze = s.ze ∧ t.es = s.es ∧ t.lc = s.lc ∧ t.ds = s.ds ∧
        t.cs = s.cs)

/-- R133, R134: the expiry of the play timer, which stands at 0, of a PLAYING record that repeats until ended counts one play,
held at 255, and raises the channel's generation. -/
def Obligations.PlayOverrunRule : Prop :=
  ∀ (s : State) (n id : Nat) (c : Channel) (r : Rec), s.powered = true → s.ar.channels[n]? = some c →
    c.playTimer = some 0 → c.holder = some id → findRec s.ar id = some r → r.state = .playing → r.repeats = 0 →
    ∃ t r' c', exec (.playOverrun n) s = .next t ∧ findRec t.ar id = some r' ∧ t.ar.channels[n]? = some c' ∧
      r' = { r with plays := min 255 (r.plays + 1) } ∧
      c'.generation = (if 255 ≤ c.generation then 1 else c.generation + 1) ∧ c'.holder = some id ∧
      c'.routing = c.routing ∧ c'.programme = c.programme ∧ SameRegime s t ∧
      t.ze = s.ze ∧ t.es = s.es ∧ t.lc = s.lc ∧ t.ds = s.ds ∧ t.cs = s.cs

/-! ## Field links -/

/-- R148, R149, R157: the start of a slot: an action goes first, then a dirty image, then a POLL; a pending broadcast goes out
ahead of the slot's frame and is no longer pending. That the window counts as open from the start of the slot is the model's
(DEDUCED, log entry 18; R148 opens it at the end of the frame), and so is that the row has no effect with a slot in progress
(DESIGN CHOICE, log entry 6). -/
def Obligations.SlotStartRule : Prop :=
  ∀ (s : State) (port : Line) (p : PortRec), s.powered = true → findPort s.flc.ports port = some p →
    (p.slot.isSome = true → ∃ t, exec (.slotStart port) s = .next t ∧ SameBlocks s t ∧ SameRegime s t) ∧
    (∀ n, p.slot = none → findNode s.flc.nodes port p.cursor = some n →
      ∃ t p' sl, exec (.slotStart port) s = .next t ∧ findPort t.flc.ports port = some p' ∧ p'.slot = some sl ∧
        sl.address = p.cursor ∧ sl.windowOpen = true ∧ p'.broadcast = false ∧ p'.cursor = p.cursor ∧
        p'.sent = (if p.broadcast then [releaseAllFrame] else []) ++ [slotFrame s n sl.carried] ∧
        (∀ a rest, n.actions = a :: rest → sl.carried = .action a) ∧
        (n.actions = [] → (∃ m ∈ n.images, m.dirty = true) →
          ∃ m ∈ n.images, m.dirty = true ∧ sl.carried = .image m.name) ∧
        (n.actions = [] → (∀ m ∈ n.images, m.dirty = false) → sl.carried = .poll) ∧
        (∀ q, q ≠ port → findPort t.flc.ports q = findPort s.flc.ports q) ∧
        SameRegime s t ∧ t.ze = s.ze ∧ t.es = s.es ∧ t.lc = s.lc ∧ t.ds = s.ds ∧ t.ar = s.ar ∧ t.cs = s.cs)

/-- R158: each slot outcome moves the counters: a valid reply of any kind sets the miss counter to 0 and raises the good
counter, held at 255; a miss sets the good counter to 0 and raises the miss counter, held at 15; in every link state. -/
def Obligations.CountersRule : Prop :=
  (∀ (i : Instr) (s : State) (f : FieldReceipt) (sl : Slot) (v : FieldReply) (n : Node), s.powered = true →
    fieldCommand i = some f → ValidReply s f sl v → findNode s.flc.nodes f.port sl.address = some n →
    ∃ t n', exec i s = .next t ∧ findNode t.flc.nodes f.port sl.address = some n' ∧ n'.miss = 0 ∧
      n'.good = min 255 (n.good + 1)) ∧
  (∀ (s : State) (port : Line) (sl : Slot) (n : Node), s.powered = true →
    (findPort s.flc.ports port).bind (·.slot) = some sl → findNode s.flc.nodes port sl.address = some n →
    ∃ t n', exec (.replyWindowMiss port) s = .next t ∧ findNode t.flc.nodes port sl.address = some n' ∧ n'.good = 0 ∧
      n'.miss = min 15 (n.miss + 1))

/-- R150: a frame that is discarded changes no block and does not end the slot: as its own row, and as a reply row whose
frame answers no open slot. -/
def Obligations.DiscardedFrameRule : Prop :=
  (∀ (s : State) (port : Line), s.powered = true →
    ∃ t, exec (.fieldFrameDiscarded port) s = .next t ∧ SameBlocks s t ∧ SameRegime s t) ∧
  (∀ (i : Instr) (s : State) (f : FieldReceipt), s.powered = true → fieldCommand i = some f →
    (¬∃ sl v, ValidReply s f sl v) → ∃ t, exec i s = .next t ∧ SameBlocks s t ∧ SameRegime s t)

/-- R102, R159, R160: four valid replies in a row take a node in TRAINING to LIVE, every image dirty, and lower the node count,
the points of a door module then having their output enables set; the fifteenth miss takes a SUSPECT node to LOST with its
action queue emptied, and raises it. -/
def Obligations.NodeLinkRule : Prop :=
  (∀ (i : Instr) (s : State) (f : FieldReceipt) (sl : Slot) (v : FieldReply) (n : Node), s.powered = true →
    fieldCommand i = some f → ValidReply s f sl v → findNode s.flc.nodes f.port sl.address = some n →
    n.link = .training → n.good = 3 →
    ∃ t n', exec i s = .next t ∧ findNode t.flc.nodes f.port sl.address = some n' ∧ n'.link = .live ∧
      (∀ m ∈ n'.images, m.dirty = true) ∧ n'.rotation = 0 ∧ t.rc.trouble.nodes = s.rc.trouble.nodes - 1 ∧
      (f.port.isDoor = true → ∀ d ∈ t.ds.doors, d.loop = f.port → d.address = sl.address → d.enable = true)) ∧
  (∀ (s : State) (port : Line) (sl : Slot) (n : Node), s.powered = true →
    (findPort s.flc.ports port).bind (·.slot) = some sl → findNode s.flc.nodes port sl.address = some n →
    n.link = .suspect → n.miss = 14 →
    ∃ t n', exec (.replyWindowMiss port) s = .next t ∧ findNode t.flc.nodes port sl.address = some n' ∧
      n'.link = .lost ∧ n'.actions = [] ∧ t.rc.trouble.nodes = s.rc.trouble.nodes + 1)

/-- R36, R31, R28: a change list of one entry taken by the zone it names: an ALARM confirms a zone in NORMAL without verify,
and a NORMAL sets the restore-seen mark of a VERIFYING zone, whose last input was not NORMAL. -/
def Obligations.ChangeListArrives : Prop :=
  ∀ (s : State) (k : Fin 6) (a c num code : Byte) (sl : Slot) (z : Zone), s.powered = true →
    ValidReply s ⟨.p k, a, 0x42#8, c, [1, num, code]⟩ sl (.changes [(num.toNat, if code = 1 then .alarm else .normal)]) →
    (code = 0 ∨ code = 1) → findZone s.ze (.p k) num.toNat = some z →
    (code = 1 → z.state = .normal → z.lastInput = some .normal → z.verify = false →
      ∃ t, exec (.changes (.p k) a c [1, num, code]) s = .next t ∧
        (findZone t.ze (.p k) num.toNat).map (·.state) = some .confirmed) ∧
    (∀ w, code = 0 → z.state = .verifying → z.lastInput ≠ some .normal → z.window = some w →
      ∃ t, exec (.changes (.p k) a c [1, num, code]) s = .next t ∧
        findZone t.ze (.p k) num.toNat =
          some { z with lastInput := some .normal, window := some { w with restoreSeen := true } })

/-- R39, R76, R78, R83, R85, R106, R133: what the other replies deliver. A SNAPSHOT gives each zone of its link the listed
input, or FAULT where the panel does not list it, and clears the snapshot-owed flag of a LIVE node's link; a GROUP_STATUS
writes the group's echo and the position cache of the car of each entry, the last entry of a place standing. Its answer block
is stale unless it names the image of a car whose command is SENT, and else gives ACCEPTED with the service mode of the image,
a deferral (the eighth attempt fails the car) or RECALL_FAILED; an accepted FIRE_SERVICE_OFF in an active recall brings the
recall step. A MODULE_STATUS writes the sensed states of the module's points, a MATRIX_STATUS the last seen marks of the
fitted channels. A mark that differs from the last seen one and is the generation of a playing message counts a play, which
raises the generation or ends the record. That the caches and the sensed states are written by a reply in TRAINING too is the
model's reading of R76, R106 and R151: R96 says that no cache is present while the node is down (DEDUCED, log entry 31), and
the worked sequence of chapter 05 shows UNKNOWN at NODE_UP (DEDUCED, log entry 32). -/
def Obligations.RepliesDeliver : Prop :=
  (∀ (s : State) (k : Fin 6) (a c : Byte) (p : List Byte) (sl : Slot) (es : List (Nat × Input)) (n : Node),
    s.powered = true → ValidReply s ⟨.p k, a, 0x43#8, c, p⟩ sl (.snapshot es) →
    findNode s.flc.nodes (.p k) sl.address = some n →
    ∃ t, exec (.snapshot (.p k) a c p) s = .next t ∧
      (n.link = .live → (linkRec t.ze (.p k)).snapshotOwed = false) ∧
      ∀ (num : Nat) (z : Zone) (x : Input), findZone s.ze (.p k) num = some z →
        ((num, x) ∈ es ∨ ((∀ e ∈ es, e.1 ≠ num) ∧ x = .fault)) →
        ∃ z', findZone t.ze (.p k) num = some z' ∧ z'.lastInput = some x ∧
          ((z.state = .normal ∨ z.state = .unknown ∨ z.state = .trouble) →
            (x = .normal → z'.state = .normal) ∧ (x = .fault → z'.state = .trouble))) ∧
  (∀ (s : State) (k : Fin 4) (a c : Byte) (p : List Byte) (sl : Slot) (echo : LandingMask)
    (b : Option AnswerBlock) (es : List CarEntry) (g : Group),
    s.powered = true → ValidReply s ⟨.g k, a, 0x44#8, c, p⟩ sl (.group echo b es) →
    findGroup s.lc k.val = some g → s.CarsDistinct →
    ∃ t g', exec (.groupStatus (.g k) a c p) s = .next t ∧ findGroup t.lc k.val = some g' ∧ g'.echo = some echo ∧
      ∀ (before after : List CarEntry) (e : CarEntry) (car : Car), es = before ++ e :: after →
        (∀ x ∈ after, x.place ≠ e.place) →
        s.lc.cars.find? (fun x => x.group = k.val && x.place = e.place) = some car →
        ∃ car', findCar t.lc car.number = some car' ∧ car'.group = k.val ∧ car'.place = e.place ∧
          car'.cache = some ⟨e.landing, mappedFloor g.map e.landing, e.direction, e.door, e.mode⟩) ∧
  (∀ (s : State) (k : Fin 2) (a c : Byte) (p : List Byte) (sl : Slot) (sensed : List Sensed),
    s.powered = true → ValidReply s ⟨.d k, a, 0x45#8, c, p⟩ sl (.module sensed) → s.KeysDistinct →
    ∃ t, exec (.moduleStatus (.d k) a c p) s = .next t ∧
      ∀ d ∈ t.ds.doors, d.loop = .d k → d.address = sl.address → ∀ x, sensed[d.point]? = some x → d.sensed = x) ∧
  (∀ (s : State) (a c : Byte) (p : List Byte) (sl : Slot) (marks : List Nat),
    s.powered = true → ValidReply s ⟨.a, a, 0x46#8, c, p⟩ sl (.matrix marks) →
    ∃ t, exec (.matrixStatus .a a c p) s = .next t ∧
      ∀ (n : Nat) (ch : Channel) (m : Nat), t.ar.channels[n]? = some ch → marks[n]? = some m → ch.lastSeen = some m) ∧
  (∀ (s : State) (k : Fin 4) (a c : Byte) (p : List Byte) (sl : Slot) (echo : LandingMask) (b : AnswerBlock) (m : Nat)
    (nd : Node) (g : Group) (car : Car),
    s.powered = true → ValidReply s ⟨.g k, a, 0x44#8, c, p⟩ sl (.group echo (some b) []) →
    sl.carried = .image (.carCommand m) → findNode s.flc.nodes (.g k) sl.address = some nd → nd.link = .live →
    findGroup s.lc k.val = some g → g.down = false → s.CarsDistinct →
    s.lc.cars.find? (fun x => x.group = k.val && x.place = b.place) = some car →
    ∃ t, exec (.groupStatus (.g k) a c p) s = .next t ∧
      (¬(car.cmdState = .sent ∧ car.image = some b.kind) → t.lc.cars = s.lc.cars) ∧
      (car.cmdState = .sent → car.image = some b.kind →
        (b.answer = .reject → findCar t.lc car.number =
          some { car with service := .recallFailed, cmdState := .failed, retry := none }) ∧
        (b.answer = .defer → car.attempts + 1 < 8 → findCar t.lc car.number =
          some { car with cmdState := .deferred, attempts := car.attempts + 1, retry := some s.lc.retryInterval }) ∧
        (b.answer = .defer → 8 ≤ car.attempts + 1 → findCar t.lc car.number = some { car with
          service := .recallFailed, cmdState := .failed, attempts := car.attempts + 1, retry := none }) ∧
        (b.answer = .accept →
          (∀ l, b.kind = .recall l → findCar t.lc car.number = some { car with cmdState := .accepted }) ∧
          (b.kind = .fireOn → findCar t.lc car.number =
            some { car with service := .fireService, cmdState := .accepted }) ∧
          ((b.kind = .release ∨ b.kind = .fireOff ∧ g.active = false) → findCar t.lc car.number = some { car with
            service := .auto, image := none, cmdState := .none, attempts := 0, retry := none }) ∧
          (b.kind = .fireOff → g.active = true →
            (g.target = none → findCar t.lc car.number = some { car with
              service := .hold, image := some (.recall 0), cmdState := .sent, attempts := 0, retry := none }) ∧
            ∀ x, g.target = some x → findCar t.lc car.number = some { car with
              service := if parkedAt car.cache (targetLanding g x) then .recalled else .recalling
              image := some (.recall (targetLanding g x))
              cmdState := if parkedAt car.cache (targetLanding g x) then .accepted else .sent
              attempts := 0
              retry := none })))) ∧
  (∀ (s : State) (a c : Byte) (p : List Byte) (sl : Slot) (marks : List Nat) (nd : Node) (n id m : Nat) (ch : Channel)
    (r : Rec),
    s.powered = true → ValidReply s ⟨.a, a, 0x46#8, c, p⟩ sl (.matrix marks) →
    findNode s.flc.nodes .a sl.address = some nd → nd.link = .live → s.ar.up = true →
    s.ar.channels[n]? = some ch → ch.holder = some id → ch.programme = .message m → findRec s.ar id = some r →
    marks[n]? = some ch.generation → ch.lastSeen ≠ some ch.generation →
    (∀ j x, j ≠ n → s.ar.channels[j]? = some x → x.lastSeen = marks[j]?) →
    ∃ t, exec (.matrixStatus .a a c p) s = .next t ∧
      (r.state = .playing → (r.repeats = 0 ∨ r.plays + 1 < r.repeats) →
        findRec t.ar id = some { r with plays := min 255 (r.plays + 1) } ∧ ∃ ch', t.ar.channels[n]? = some ch' ∧
          ch'.generation = (if 255 ≤ ch.generation then 1 else ch.generation + 1) ∧ ch'.holder = some id ∧
          ch'.programme = ch.programme) ∧
      ((r.state = .ending ∨ r.state = .playing ∧ r.repeats ≠ 0 ∧ r.repeats ≤ min 255 (r.plays + 1)) →
        findRec t.ar id = none))

/-! ## Configuration -/

/-- R180, R181, R184, R185: the session. While a store write is in flight the four configuration requests are BUSY.
BEGIN_COMMISSION opens a session with a copy of the stored image or, in FALLBACK, the default image, and leaves an open one
as it is; WRITE_CONFIG replaces one record, or is NOT_COMMISSIONING or BAD_ARGUMENT; ABANDON_COMMISSION ends the session.
The fields of the default image that R180 does not give are the model's (DESIGN CHOICE, log entry 23), and so is what a
store that fails its check holds: a free value in the shape of R178 (DESIGN CHOICE, log entry 2). That a record whose numbers
hold an absent code decodes, the code being a number, is the model's too (DESIGN CHOICE, log entry 40). -/
def Obligations.SessionRule : Prop :=
  ∀ (s : State) (tag : Byte), s.answers →
    (s.cs.writing.isSome = true →
      AnsweredOnly (.beginCommission tag []) s (plainReply 0x99#8 tag .busy) ∧
      AnsweredOnly (.commitConfig tag []) s (plainReply 0x9B#8 tag .busy) ∧
      AnsweredOnly (.abandonCommission tag []) s (plainReply 0x9C#8 tag .busy) ∧
      ∀ (table i0 i1 : Byte) (bytes : List Byte), (decodeRecord table.toNat bytes).isSome = true →
        AnsweredOnly (.writeConfig tag (table :: i0 :: i1 :: bytes)) s (plainReply 0x9A#8 tag .busy)) ∧
    (s.cs.writing = none → s.rc.level ≠ .normal →
      AnsweredOnly (.beginCommission tag []) s (refusal 0x99#8 tag .regimeActive)) ∧
    (s.cs.writing = none → s.rc.level = .normal → s.cs.staged.isSome = true →
      AnsweredOnly (.beginCommission tag []) s (plainReply 0x99#8 tag .done)) ∧
    (s.cs.writing = none → s.rc.level = .normal → s.cs.staged = none →
      ∃ t, exec (.beginCommission tag []) s = .next t ∧ newestReply t = some (plainReply 0x99#8 tag .done) ∧
        deviceMode t.cs = .commission ∧ t.cs.store = s.cs.store ∧ t.cs.fallback = s.cs.fallback ∧
        (s.cs.fallback = true → t.cs.staged = some defaultImage) ∧
        (∀ i k, s.cs.fallback = false → s.cs.store = .holds i k → t.cs.staged = some i) ∧
        (∀ k, s.cs.fallback = false → s.cs.store = .torn k → ∃ i, t.cs.staged = some i ∧ ImageShaped i) ∧
        SameRegime s t ∧ t.flc = s.flc ∧ t.ze = s.ze ∧ t.es = s.es ∧ t.lc = s.lc ∧ t.ds = s.ds ∧ t.ar = s.ar) ∧
    (s.cs.writing = none → s.cs.staged = none →
      AnsweredOnly (.abandonCommission tag []) s (refusal 0x9C#8 tag .notCommissioning)) ∧
    (s.cs.writing = none → s.cs.staged.isSome = true →
      ∃ t, exec (.abandonCommission tag []) s = .next t ∧ newestReply t = some (plainReply 0x9C#8 tag .done) ∧
        t.cs = { s.cs with staged := none } ∧ SameRegime s t ∧
        t.flc = s.flc ∧ t.ze = s.ze ∧ t.es = s.es ∧ t.lc = s.lc ∧ t.ds = s.ds ∧ t.ar = s.ar) ∧
    (∀ (table i0 i1 : Byte) (bytes : List Byte) (r : ConfigRecord), s.cs.writing = none →
      decodeRecord table.toNat bytes = some r →
      (s.cs.staged = none →
        AnsweredOnly (.writeConfig tag (table :: i0 :: i1 :: bytes)) s (refusal 0x9A#8 tag .notCommissioning)) ∧
      (s.cs.staged.isSome = true → (r.inRange (i0.toNat + 256 * i1.toNat) = false ∨ badLabel r = true) →
        AnsweredOnly (.writeConfig tag (table :: i0 :: i1 :: bytes)) s (plainReply 0x9A#8 tag .badArgument)) ∧
      (∀ i : Image, s.cs.staged = some i → r.inRange (i0.toNat + 256 * i1.toNat) = true → badLabel r = false →
        ∃ t, exec (.writeConfig tag (table :: i0 :: i1 :: bytes)) s = .next t ∧
          newestReply t = some (plainReply 0x9A#8 tag .done) ∧
          t.cs = { s.cs with staged := some (putRecord (i0.toNat + 256 * i1.toNat) r i) } ∧ SameRegime s t ∧
          t.flc = s.flc ∧ t.ze = s.ze ∧ t.es = s.es ∧ t.lc = s.lc ∧ t.ds = s.ds ∧ t.ar = s.ar))

/-- R182, R183, R184: COMMIT_CONFIG: BUSY while a store write is in flight; REFUSED outside a session; a clamped image that
fails leaves the staged image and names the record; one that passes replaces it and starts the write of its check value.
How a clamped value is named (field positions, a landing-map entry by the position of the map) is the model's reading
(DEDUCED, log entry 25), and so is the byte layout under the check value (DEDUCED, log entry 20). -/
def Obligations.CommitRule : Prop :=
  ∀ (s : State) (tag : Byte), s.answers →
    (s.cs.writing.isSome = true → AnsweredOnly (.commitConfig tag []) s (plainReply 0x9B#8 tag .busy)) ∧
    (s.cs.writing = none → s.cs.staged = none →
      AnsweredOnly (.commitConfig tag []) s (refusal 0x9B#8 tag .notCommissioning)) ∧
    (∀ i e, s.cs.writing = none → s.cs.staged = some i → firstInvalid (clampImage i) = some e →
      AnsweredOnly (.commitConfig tag []) s ⟨0x9B#8, tag, .refused, some .configInvalid, .invalid e.1 e.2⟩) ∧
    (∀ i, s.cs.writing = none → s.cs.staged = some i → firstInvalid (clampImage i) = none →
      ∃ t r, exec (.commitConfig tag []) s = .next t ∧ newestReply t = some r ∧
        t.cs = { s.cs with staged := some (clampImage i), writing := some (imageCheck (clampImage i)) } ∧
        (clampedValues i (clampImage i) = [] → r = plainReply 0x9B#8 tag .done) ∧
        (clampedValues i (clampImage i) ≠ [] → r = ⟨0x9B#8, tag, .clamped, none,
          .clamped (clampedValues i (clampImage i)).length ((clampedValues i (clampImage i)).take 40)⟩) ∧
        SameRegime s t ∧ t.flc = s.flc ∧ t.ze = s.ze ∧ t.es = s.es ∧ t.lc = s.lc ∧ t.ds = s.ds ∧ t.ar = s.ar)

/-- R49, R182: every value of a clamped image lies in its range, an image already in range is unchanged and has no clamped
values, each number of the GENERAL record goes to the nearer end of its range, and clamping is settled by one pass. That
records not in use are clamped too, that a landing of 0 is brought to 1, and that the watermarks of an unfitted stair are not
held apart is the model's reading (DEDUCED, log entry 25). -/
def Obligations.ClampSettles : Prop :=
  ∀ i : Image, ImageInRange (clampImage i) ∧
    (ImageInRange i → clampImage i = i ∧ clampedValues i (clampImage i) = []) ∧
    (clampImage i).general = ⟨nearest 2 64 i.general.floorCount, nearest 10 120 i.general.window,
      nearest 60 900 i.general.advanceLimit, nearest 1 8 i.general.originLimit, nearest 1 15 i.general.retryInterval,
      nearest 2 30 i.general.dwell, nearest 30 600 i.general.heldOpenLimit, nearest 20 200 i.general.replyTimeout,
      nearest 1 8 i.general.channels, nearest 0 4 i.general.reserve⟩ ∧
    (ImageShaped i → ImageShaped (clampImage i)) ∧
    clampImage (clampImage i) = clampImage i ∧ clampedValues (clampImage i) (clampImage (clampImage i)) = []

/-- R184: a store write that reads back equal puts the image in force, every block in its power-on state on the image's
tables and the mode OPERATE; one that reads back different leaves the tables in force, the session open and a store that
fails its check. -/
def Obligations.StoreWriteRule : Prop :=
  ∀ (s : State) (i : Image) (k : BitVec 32), s.powered = true → s.cs.staged = some i → s.cs.writing = some k →
    (∃ t, exec (.storeWriteComplete true) s = .next t ∧ t.cs = ⟨.holds i k, none, false, none⟩ ∧
      deviceMode t.cs = .operate ∧ PowerOnBlocks t ∧ BootedFrom i t ∧ t.rc.secondCount = s.rc.secondCount ∧
      t.rc.trouble.fallback = 0 ∧ t.sp.silence = s.sp.silence ∧ t.sp.restart = s.sp.restart) ∧
    (∃ t, exec (.storeWriteComplete false) s = .next t ∧ t.cs.staged = some i ∧ t.cs.writing = none ∧
      t.cs.fallback = s.cs.fallback ∧ loadedTables t.cs.store = none ∧ t.rc = s.rc ∧
      t.flc = s.flc ∧ t.ze = s.ze ∧ t.es = s.es ∧ t.lc = s.lc ∧ t.ds = s.ds ∧ t.ar = s.ar)

/-! ## Formats -/

/-- R188: the layout of a frame sent: the sync byte, the body length, the body, and the CRC-16 over the length and the body,
low byte first. -/
def Obligations.FrameLayout : Prop :=
  ∀ f : TxFrame, f.body.length ≤ 250 →
    f.bytes.length = f.body.length + 4 ∧ f.bytes[0]? = some 0xA5#8 ∧
    (∃ b, f.bytes[1]? = some b ∧ b.toNat = f.body.length) ∧ (f.bytes.drop 2).take f.body.length = f.body ∧
    ∃ lo hi, f.bytes.drop (2 + f.body.length) = [lo, hi] ∧
      lo.toNat + 256 * hi.toNat = (crc16 ((f.bytes.drop 1).take (1 + f.body.length))).toNat

/-- R187: the two check values by their polynomials, one bit at a time: the CRC-16 from FFFF, each byte most significant bit
first, no final inversion, sent low byte first; the CRC-32 from FFFFFFFF, least significant bit first, inverted. -/
def Obligations.CheckValuesRule : Prop :=
  (∀ bytes : List Byte,
    crc16 bytes = (bytes.flatMap (fun b => (bitsOf b).reverse)).foldl shift16 0xFFFF#16 ∧
    crc32 bytes = ~~~((bytes.flatMap bitsOf).foldl shift32 0xFFFFFFFF#32) ∧
    ∃ lo hi, crc16Bytes bytes = [lo, hi] ∧ lo.toNat + 256 * hi.toNat = (crc16 bytes).toNat) ∧
  (∀ f : TxFrame, ∃ covered, f.bytes = 0xA5#8 :: (covered ++ crc16Bytes covered)) ∧
  (∀ f : FieldFrame, f.bytes = f.head ++ crc16Bytes f.head)

/-- R190, R191: decode and encode agree on the records of all ten tables, and a record has its table's length. That the check
value of an image is the CRC-32 over these bytes, table by table with nothing between, is the model's reading of R178
(DEDUCED, log entry 20). -/
def Obligations.RecordRoundTrip : Prop :=
  (∀ r : ConfigRecord, recordFits r →
    decodeRecord r.table (configBytes r) = some r ∧ recordBytes[r.table]? = some (configBytes r).length) ∧
  (∀ i : Image, imageCheck i = crc32 ((imageRecords i).flatMap configBytes))
end

