-- ==== Sys2Proof/Laws/State.lean ====
section
/-!
SUPPORT. One lemma per field per update of State, each true by unfolding: no later proof opens a record update.
-/

namespace Sys2Proof.Machine

/-! ## modSp -/

@[simp] theorem State.modSp_sp (g : SP → SP) (s : State) : (s.modSp g).sp = g s.sp := rfl
@[simp] theorem State.modSp_flc (g : SP → SP) (s : State) : (s.modSp g).flc = s.flc := rfl
@[simp] theorem State.modSp_ze (g : SP → SP) (s : State) : (s.modSp g).ze = s.ze := rfl
@[simp] theorem State.modSp_rc (g : SP → SP) (s : State) : (s.modSp g).rc = s.rc := rfl
@[simp] theorem State.modSp_es (g : SP → SP) (s : State) : (s.modSp g).es = s.es := rfl
@[simp] theorem State.modSp_lc (g : SP → SP) (s : State) : (s.modSp g).lc = s.lc := rfl
@[simp] theorem State.modSp_ds (g : SP → SP) (s : State) : (s.modSp g).ds = s.ds := rfl
@[simp] theorem State.modSp_ar (g : SP → SP) (s : State) : (s.modSp g).ar = s.ar := rfl
@[simp] theorem State.modSp_cs (g : SP → SP) (s : State) : (s.modSp g).cs = s.cs := rfl
@[simp] theorem State.modSp_powered (g : SP → SP) (s : State) : (s.modSp g).powered = s.powered := rfl
@[simp] theorem State.modSp_freeCount (g : SP → SP) (s : State) : (s.modSp g).freeCount = s.freeCount := rfl
@[simp] theorem State.modSp_ev (g : SP → SP) (s : State) : (s.modSp g).ev = s.ev := rfl
@[simp] theorem State.modSp_pending (g : SP → SP) (s : State) : (s.modSp g).pending = s.pending := rfl

/-! ## modFlc -/

@[simp] theorem State.modFlc_sp (g : FLC → FLC) (s : State) : (s.modFlc g).sp = s.sp := rfl
@[simp] theorem State.modFlc_flc (g : FLC → FLC) (s : State) : (s.modFlc g).flc = g s.flc := rfl
@[simp] theorem State.modFlc_ze (g : FLC → FLC) (s : State) : (s.modFlc g).ze = s.ze := rfl
@[simp] theorem State.modFlc_rc (g : FLC → FLC) (s : State) : (s.modFlc g).rc = s.rc := rfl
@[simp] theorem State.modFlc_es (g : FLC → FLC) (s : State) : (s.modFlc g).es = s.es := rfl
@[simp] theorem State.modFlc_lc (g : FLC → FLC) (s : State) : (s.modFlc g).lc = s.lc := rfl
@[simp] theorem State.modFlc_ds (g : FLC → FLC) (s : State) : (s.modFlc g).ds = s.ds := rfl
@[simp] theorem State.modFlc_ar (g : FLC → FLC) (s : State) : (s.modFlc g).ar = s.ar := rfl
@[simp] theorem State.modFlc_cs (g : FLC → FLC) (s : State) : (s.modFlc g).cs = s.cs := rfl
@[simp] theorem State.modFlc_powered (g : FLC → FLC) (s : State) : (s.modFlc g).powered = s.powered := rfl
@[simp] theorem State.modFlc_freeCount (g : FLC → FLC) (s : State) : (s.modFlc g).freeCount = s.freeCount := rfl
@[simp] theorem State.modFlc_ev (g : FLC → FLC) (s : State) : (s.modFlc g).ev = s.ev := rfl
@[simp] theorem State.modFlc_pending (g : FLC → FLC) (s : State) : (s.modFlc g).pending = s.pending := rfl

/-! ## modZe -/

@[simp] theorem State.modZe_sp (g : ZE → ZE) (s : State) : (s.modZe g).sp = s.sp := rfl
@[simp] theorem State.modZe_flc (g : ZE → ZE) (s : State) : (s.modZe g).flc = s.flc := rfl
@[simp] theorem State.modZe_ze (g : ZE → ZE) (s : State) : (s.modZe g).ze = g s.ze := rfl
@[simp] theorem State.modZe_rc (g : ZE → ZE) (s : State) : (s.modZe g).rc = s.rc := rfl
@[simp] theorem State.modZe_es (g : ZE → ZE) (s : State) : (s.modZe g).es = s.es := rfl
@[simp] theorem State.modZe_lc (g : ZE → ZE) (s : State) : (s.modZe g).lc = s.lc := rfl
@[simp] theorem State.modZe_ds (g : ZE → ZE) (s : State) : (s.modZe g).ds = s.ds := rfl
@[simp] theorem State.modZe_ar (g : ZE → ZE) (s : State) : (s.modZe g).ar = s.ar := rfl
@[simp] theorem State.modZe_cs (g : ZE → ZE) (s : State) : (s.modZe g).cs = s.cs := rfl
@[simp] theorem State.modZe_powered (g : ZE → ZE) (s : State) : (s.modZe g).powered = s.powered := rfl
@[simp] theorem State.modZe_freeCount (g : ZE → ZE) (s : State) : (s.modZe g).freeCount = s.freeCount := rfl
@[simp] theorem State.modZe_ev (g : ZE → ZE) (s : State) : (s.modZe g).ev = s.ev := rfl
@[simp] theorem State.modZe_pending (g : ZE → ZE) (s : State) : (s.modZe g).pending = s.pending := rfl

/-! ## modRc -/

@[simp] theorem State.modRc_sp (g : RC → RC) (s : State) : (s.modRc g).sp = s.sp := rfl
@[simp] theorem State.modRc_flc (g : RC → RC) (s : State) : (s.modRc g).flc = s.flc := rfl
@[simp] theorem State.modRc_ze (g : RC → RC) (s : State) : (s.modRc g).ze = s.ze := rfl
@[simp] theorem State.modRc_rc (g : RC → RC) (s : State) : (s.modRc g).rc = g s.rc := rfl
@[simp] theorem State.modRc_es (g : RC → RC) (s : State) : (s.modRc g).es = s.es := rfl
@[simp] theorem State.modRc_lc (g : RC → RC) (s : State) : (s.modRc g).lc = s.lc := rfl
@[simp] theorem State.modRc_ds (g : RC → RC) (s : State) : (s.modRc g).ds = s.ds := rfl
@[simp] theorem State.modRc_ar (g : RC → RC) (s : State) : (s.modRc g).ar = s.ar := rfl
@[simp] theorem State.modRc_cs (g : RC → RC) (s : State) : (s.modRc g).cs = s.cs := rfl
@[simp] theorem State.modRc_powered (g : RC → RC) (s : State) : (s.modRc g).powered = s.powered := rfl
@[simp] theorem State.modRc_freeCount (g : RC → RC) (s : State) : (s.modRc g).freeCount = s.freeCount := rfl
@[simp] theorem State.modRc_ev (g : RC → RC) (s : State) : (s.modRc g).ev = s.ev := rfl
@[simp] theorem State.modRc_pending (g : RC → RC) (s : State) : (s.modRc g).pending = s.pending := rfl

/-! ## modEs -/

@[simp] theorem State.modEs_sp (g : ES → ES) (s : State) : (s.modEs g).sp = s.sp := rfl
@[simp] theorem State.modEs_flc (g : ES → ES) (s : State) : (s.modEs g).flc = s.flc := rfl
@[simp] theorem State.modEs_ze (g : ES → ES) (s : State) : (s.modEs g).ze = s.ze := rfl
@[simp] theorem State.modEs_rc (g : ES → ES) (s : State) : (s.modEs g).rc = s.rc := rfl
@[simp] theorem State.modEs_es (g : ES → ES) (s : State) : (s.modEs g).es = g s.es := rfl
@[simp] theorem State.modEs_lc (g : ES → ES) (s : State) : (s.modEs g).lc = s.lc := rfl
@[simp] theorem State.modEs_ds (g : ES → ES) (s : State) : (s.modEs g).ds = s.ds := rfl
@[simp] theorem State.modEs_ar (g : ES → ES) (s : State) : (s.modEs g).ar = s.ar := rfl
@[simp] theorem State.modEs_cs (g : ES → ES) (s : State) : (s.modEs g).cs = s.cs := rfl
@[simp] theorem State.modEs_powered (g : ES → ES) (s : State) : (s.modEs g).powered = s.powered := rfl
@[simp] theorem State.modEs_freeCount (g : ES → ES) (s : State) : (s.modEs g).freeCount = s.freeCount := rfl
@[simp] theorem State.modEs_ev (g : ES → ES) (s : State) : (s.modEs g).ev = s.ev := rfl
@[simp] theorem State.modEs_pending (g : ES → ES) (s : State) : (s.modEs g).pending = s.pending := rfl

/-! ## modLc -/

@[simp] theorem State.modLc_sp (g : LC → LC) (s : State) : (s.modLc g).sp = s.sp := rfl
@[simp] theorem State.modLc_flc (g : LC → LC) (s : State) : (s.modLc g).flc = s.flc := rfl
@[simp] theorem State.modLc_ze (g : LC → LC) (s : State) : (s.modLc g).ze = s.ze := rfl
@[simp] theorem State.modLc_rc (g : LC → LC) (s : State) : (s.modLc g).rc = s.rc := rfl
@[simp] theorem State.modLc_es (g : LC → LC) (s : State) : (s.modLc g).es = s.es := rfl
@[simp] theorem State.modLc_lc (g : LC → LC) (s : State) : (s.modLc g).lc = g s.lc := rfl
@[simp] theorem State.modLc_ds (g : LC → LC) (s : State) : (s.modLc g).ds = s.ds := rfl
@[simp] theorem State.modLc_ar (g : LC → LC) (s : State) : (s.modLc g).ar = s.ar := rfl
@[simp] theorem State.modLc_cs (g : LC → LC) (s : State) : (s.modLc g).cs = s.cs := rfl
@[simp] theorem State.modLc_powered (g : LC → LC) (s : State) : (s.modLc g).powered = s.powered := rfl
@[simp] theorem State.modLc_freeCount (g : LC → LC) (s : State) : (s.modLc g).freeCount = s.freeCount := rfl
@[simp] theorem State.modLc_ev (g : LC → LC) (s : State) : (s.modLc g).ev = s.ev := rfl
@[simp] theorem State.modLc_pending (g : LC → LC) (s : State) : (s.modLc g).pending = s.pending := rfl

/-! ## modDs -/

@[simp] theorem State.modDs_sp (g : DS → DS) (s : State) : (s.modDs g).sp = s.sp := rfl
@[simp] theorem State.modDs_flc (g : DS → DS) (s : State) : (s.modDs g).flc = s.flc := rfl
@[simp] theorem State.modDs_ze (g : DS → DS) (s : State) : (s.modDs g).ze = s.ze := rfl
@[simp] theorem State.modDs_rc (g : DS → DS) (s : State) : (s.modDs g).rc = s.rc := rfl
@[simp] theorem State.modDs_es (g : DS → DS) (s : State) : (s.modDs g).es = s.es := rfl
@[simp] theorem State.modDs_lc (g : DS → DS) (s : State) : (s.modDs g).lc = s.lc := rfl
@[simp] theorem State.modDs_ds (g : DS → DS) (s : State) : (s.modDs g).ds = g s.ds := rfl
@[simp] theorem State.modDs_ar (g : DS → DS) (s : State) : (s.modDs g).ar = s.ar := rfl
@[simp] theorem State.modDs_cs (g : DS → DS) (s : State) : (s.modDs g).cs = s.cs := rfl
@[simp] theorem State.modDs_powered (g : DS → DS) (s : State) : (s.modDs g).powered = s.powered := rfl
@[simp] theorem State.modDs_freeCount (g : DS → DS) (s : State) : (s.modDs g).freeCount = s.freeCount := rfl
@[simp] theorem State.modDs_ev (g : DS → DS) (s : State) : (s.modDs g).ev = s.ev := rfl
@[simp] theorem State.modDs_pending (g : DS → DS) (s : State) : (s.modDs g).pending = s.pending := rfl

/-! ## modAr -/

@[simp] theorem State.modAr_sp (g : AR → AR) (s : State) : (s.modAr g).sp = s.sp := rfl
@[simp] theorem State.modAr_flc (g : AR → AR) (s : State) : (s.modAr g).flc = s.flc := rfl
@[simp] theorem State.modAr_ze (g : AR → AR) (s : State) : (s.modAr g).ze = s.ze := rfl
@[simp] theorem State.modAr_rc (g : AR → AR) (s : State) : (s.modAr g).rc = s.rc := rfl
@[simp] theorem State.modAr_es (g : AR → AR) (s : State) : (s.modAr g).es = s.es := rfl
@[simp] theorem State.modAr_lc (g : AR → AR) (s : State) : (s.modAr g).lc = s.lc := rfl
@[simp] theorem State.modAr_ds (g : AR → AR) (s : State) : (s.modAr g).ds = s.ds := rfl
@[simp] theorem State.modAr_ar (g : AR → AR) (s : State) : (s.modAr g).ar = g s.ar := rfl
@[simp] theorem State.modAr_cs (g : AR → AR) (s : State) : (s.modAr g).cs = s.cs := rfl
@[simp] theorem State.modAr_powered (g : AR → AR) (s : State) : (s.modAr g).powered = s.powered := rfl
@[simp] theorem State.modAr_freeCount (g : AR → AR) (s : State) : (s.modAr g).freeCount = s.freeCount := rfl
@[simp] theorem State.modAr_ev (g : AR → AR) (s : State) : (s.modAr g).ev = s.ev := rfl
@[simp] theorem State.modAr_pending (g : AR → AR) (s : State) : (s.modAr g).pending = s.pending := rfl

/-! ## modCs -/

@[simp] theorem State.modCs_sp (g : CS → CS) (s : State) : (s.modCs g).sp = s.sp := rfl
@[simp] theorem State.modCs_flc (g : CS → CS) (s : State) : (s.modCs g).flc = s.flc := rfl
@[simp] theorem State.modCs_ze (g : CS → CS) (s : State) : (s.modCs g).ze = s.ze := rfl
@[simp] theorem State.modCs_rc (g : CS → CS) (s : State) : (s.modCs g).rc = s.rc := rfl
@[simp] theorem State.modCs_es (g : CS → CS) (s : State) : (s.modCs g).es = s.es := rfl
@[simp] theorem State.modCs_lc (g : CS → CS) (s : State) : (s.modCs g).lc = s.lc := rfl
@[simp] theorem State.modCs_ds (g : CS → CS) (s : State) : (s.modCs g).ds = s.ds := rfl
@[simp] theorem State.modCs_ar (g : CS → CS) (s : State) : (s.modCs g).ar = s.ar := rfl
@[simp] theorem State.modCs_cs (g : CS → CS) (s : State) : (s.modCs g).cs = g s.cs := rfl
@[simp] theorem State.modCs_powered (g : CS → CS) (s : State) : (s.modCs g).powered = s.powered := rfl
@[simp] theorem State.modCs_freeCount (g : CS → CS) (s : State) : (s.modCs g).freeCount = s.freeCount := rfl
@[simp] theorem State.modCs_ev (g : CS → CS) (s : State) : (s.modCs g).ev = s.ev := rfl
@[simp] theorem State.modCs_pending (g : CS → CS) (s : State) : (s.modCs g).pending = s.pending := rfl

/-! ## modEv -/

@[simp] theorem State.modEv_sp (g : Scratch → Scratch) (s : State) : (s.modEv g).sp = s.sp := rfl
@[simp] theorem State.modEv_flc (g : Scratch → Scratch) (s : State) : (s.modEv g).flc = s.flc := rfl
@[simp] theorem State.modEv_ze (g : Scratch → Scratch) (s : State) : (s.modEv g).ze = s.ze := rfl
@[simp] theorem State.modEv_rc (g : Scratch → Scratch) (s : State) : (s.modEv g).rc = s.rc := rfl
@[simp] theorem State.modEv_es (g : Scratch → Scratch) (s : State) : (s.modEv g).es = s.es := rfl
@[simp] theorem State.modEv_lc (g : Scratch → Scratch) (s : State) : (s.modEv g).lc = s.lc := rfl
@[simp] theorem State.modEv_ds (g : Scratch → Scratch) (s : State) : (s.modEv g).ds = s.ds := rfl
@[simp] theorem State.modEv_ar (g : Scratch → Scratch) (s : State) : (s.modEv g).ar = s.ar := rfl
@[simp] theorem State.modEv_cs (g : Scratch → Scratch) (s : State) : (s.modEv g).cs = s.cs := rfl
@[simp] theorem State.modEv_powered (g : Scratch → Scratch) (s : State) : (s.modEv g).powered = s.powered := rfl
@[simp] theorem State.modEv_freeCount (g : Scratch → Scratch) (s : State) : (s.modEv g).freeCount = s.freeCount := rfl
@[simp] theorem State.modEv_ev (g : Scratch → Scratch) (s : State) : (s.modEv g).ev = g s.ev := rfl
@[simp] theorem State.modEv_pending (g : Scratch → Scratch) (s : State) : (s.modEv g).pending = s.pending := rfl

/-! ## The change a block carries out: `applyEffs` on the new record -/

theorem State.liftLc_eq (f : Acc LC → Acc LC) (s : State) :
    s.liftLc f = applyEffs (f ⟨s.lc, []⟩).out { s with lc := (f ⟨s.lc, []⟩).st } := rfl

theorem State.liftDs_eq (f : Acc DS → Acc DS) (s : State) :
    s.liftDs f = applyEffs (f ⟨s.ds, []⟩).out { s with ds := (f ⟨s.ds, []⟩).st } := rfl

theorem State.liftAr_eq (f : Acc ArCtx → Acc ArCtx) (s : State) :
    s.liftAr f = applyEffs (f ⟨⟨s.ar, s.ev⟩, []⟩).out
      { s with ar := (f ⟨⟨s.ar, s.ev⟩, []⟩).st.ar, ev := (f ⟨⟨s.ar, s.ev⟩, []⟩).st.ev } := rfl

@[simp] theorem applyEffs_nil (s : State) : applyEffs [] s = s := rfl

@[simp] theorem applyEffs_cons (e : Eff) (l : List Eff) (s : State) :
    applyEffs (e :: l) s = applyEffs l (applyEff s e) := rfl

/-! ## Acc -/

@[simp] theorem Acc.upd_st {σ : Type} (f : σ → σ) (a : Acc σ) : (a.upd f).st = f a.st := rfl
@[simp] theorem Acc.upd_out {σ : Type} (f : σ → σ) (a : Acc σ) : (a.upd f).out = a.out := rfl
@[simp] theorem Acc.emit_st {σ : Type} (e : Eff) (a : Acc σ) : (a.emit e).st = a.st := rfl
@[simp] theorem Acc.emit_out {σ : Type} (e : Eff) (a : Acc σ) : (a.emit e).out = a.out ++ [e] := rfl

@[simp] theorem Acc.emitIf_st {σ : Type} (b : Bool) (e : Eff) (a : Acc σ) : (a.emitIf b e).st = a.st := by
  cases b <;> rfl

end Sys2Proof.Machine
end

