-- ==== Sys2Proof/Laws/Ops.lean ====
section
/-!
SUPPORT. What the shared operations can do: each changes only what it is for. The frames are simp lemmas; the inductions
over a list of effects are made once.
-/

namespace Sys2Proof.Machine

/-! ## offer (R171) -/

/-- R171: an offered report joins the tail with the second count as entry time, or sets the lost marker. -/
theorem offer_cases (cls : Cls) (body : Body) (s : State) :
    (takesReport cls s.sp.reports.length = true ∧
      offer cls body s = { s with sp := { s.sp with reports := s.sp.reports ++ [⟨cls, s.rc.secondCount, body⟩] } }) ∨
    (takesReport cls s.sp.reports.length = false ∧ offer cls body s = { s with sp := { s.sp with lost := true } }) := by
  unfold offer
  cases h : takesReport cls s.sp.reports.length
  · exact .inr ⟨rfl, by simp [State.modSp]⟩
  · exact .inl ⟨rfl, by simp [State.modSp]⟩

@[simp] theorem offer_flc (cls : Cls) (body : Body) (s : State) : (offer cls body s).flc = s.flc := by
  unfold offer; split <;> rfl

@[simp] theorem offer_ze (cls : Cls) (body : Body) (s : State) : (offer cls body s).ze = s.ze := by
  unfold offer; split <;> rfl

@[simp] theorem offer_es (cls : Cls) (body : Body) (s : State) : (offer cls body s).es = s.es := by
  unfold offer; split <;> rfl

@[simp] theorem offer_lc (cls : Cls) (body : Body) (s : State) : (offer cls body s).lc = s.lc := by
  unfold offer; split <;> rfl

@[simp] theorem offer_ds (cls : Cls) (body : Body) (s : State) : (offer cls body s).ds = s.ds := by
  unfold offer; split <;> rfl

@[simp] theorem offer_ar (cls : Cls) (body : Body) (s : State) : (offer cls body s).ar = s.ar := by
  unfold offer; split <;> rfl

@[simp] theorem offer_cs (cls : Cls) (body : Body) (s : State) : (offer cls body s).cs = s.cs := by
  unfold offer; split <;> rfl

@[simp] theorem offer_powered (cls : Cls) (body : Body) (s : State) : (offer cls body s).powered = s.powered := by
  unfold offer; split <;> rfl

@[simp] theorem offer_freeCount (cls : Cls) (body : Body) (s : State) : (offer cls body s).freeCount = s.freeCount := by
  unfold offer; split <;> rfl

@[simp] theorem offer_ev (cls : Cls) (body : Body) (s : State) : (offer cls body s).ev = s.ev := by
  unfold offer; split <;> rfl

@[simp] theorem offer_pending (cls : Cls) (body : Body) (s : State) : (offer cls body s).pending = s.pending := by
  unfold offer; split <;> rfl

@[simp] theorem offer_rc (cls : Cls) (body : Body) (s : State) : (offer cls body s).rc = s.rc := by
  unfold offer; split <;> rfl

@[simp] theorem offer_sp_rx (cls : Cls) (body : Body) (s : State) : (offer cls body s).sp.rx = s.sp.rx := by
  unfold offer; split <;> rfl

@[simp] theorem offer_sp_replies (cls : Cls) (body : Body) (s : State) : (offer cls body s).sp.replies = s.sp.replies := by
  unfold offer; split <;> rfl

@[simp] theorem offer_sp_tx (cls : Cls) (body : Body) (s : State) : (offer cls body s).sp.tx = s.sp.tx := by
  unfold offer; split <;> rfl

@[simp] theorem offer_sp_silence (cls : Cls) (body : Body) (s : State) : (offer cls body s).sp.silence = s.sp.silence := by
  unfold offer; split <;> rfl

@[simp] theorem offer_sp_hostSilent (cls : Cls) (body : Body) (s : State) : (offer cls body s).sp.hostSilent = s.sp.hostSilent := by
  unfold offer; split <;> rfl

@[simp] theorem offer_sp_restart (cls : Cls) (body : Body) (s : State) : (offer cls body s).sp.restart = s.sp.restart := by
  unfold offer; split <;> rfl

@[simp] theorem offer_sp_restartDue (cls : Cls) (body : Body) (s : State) : (offer cls body s).sp.restartDue = s.sp.restartDue := by
  unfold offer; split <;> rfl

/-- R171: a queue within its 64 entries stays within them. -/
theorem offer_queueBounded (cls : Cls) (body : Body) (s : State) (h : s.QueueBounded) : (offer cls body s).QueueBounded := by
  obtain ⟨ht, he⟩ | ⟨_, he⟩ := offer_cases cls body s
  · rw [he]
    show (s.sp.reports ++ [_]).length ≤ 64
    rw [List.length_append, List.length_singleton]
    cases cls with
    | routine => have h1 : s.sp.reports.length + 8 ≤ 64 := of_decide_eq_true ht; omega
    | _ => have h1 : s.sp.reports.length < 64 := of_decide_eq_true ht; omega
  · rw [he]; exact h

/-! ## The trouble set (R18, R19) -/

@[simp] theorem refreshTroubleLine_flc (s : State) : (refreshTroubleLine s).flc = s.flc := by
  unfold refreshTroubleLine; split <;> simp

@[simp] theorem refreshTroubleLine_ze (s : State) : (refreshTroubleLine s).ze = s.ze := by
  unfold refreshTroubleLine; split <;> simp

@[simp] theorem refreshTroubleLine_es (s : State) : (refreshTroubleLine s).es = s.es := by
  unfold refreshTroubleLine; split <;> simp

@[simp] theorem refreshTroubleLine_lc (s : State) : (refreshTroubleLine s).lc = s.lc := by
  unfold refreshTroubleLine; split <;> simp

@[simp] theorem refreshTroubleLine_ds (s : State) : (refreshTroubleLine s).ds = s.ds := by
  unfold refreshTroubleLine; split <;> simp

@[simp] theorem refreshTroubleLine_ar (s : State) : (refreshTroubleLine s).ar = s.ar := by
  unfold refreshTroubleLine; split <;> simp

@[simp] theorem refreshTroubleLine_cs (s : State) : (refreshTroubleLine s).cs = s.cs := by
  unfold refreshTroubleLine; split <;> simp

@[simp] theorem refreshTroubleLine_powered (s : State) : (refreshTroubleLine s).powered = s.powered := by
  unfold refreshTroubleLine; split <;> simp

@[simp] theorem refreshTroubleLine_freeCount (s : State) : (refreshTroubleLine s).freeCount = s.freeCount := by
  unfold refreshTroubleLine; split <;> simp

@[simp] theorem refreshTroubleLine_ev (s : State) : (refreshTroubleLine s).ev = s.ev := by
  unfold refreshTroubleLine; split <;> simp

@[simp] theorem refreshTroubleLine_pending (s : State) : (refreshTroubleLine s).pending = s.pending := by
  unfold refreshTroubleLine; split <;> simp

@[simp] theorem refreshTroubleLine_rc_level (s : State) : (refreshTroubleLine s).rc.level = s.rc.level := by
  unfold refreshTroubleLine; split <;> simp

@[simp] theorem refreshTroubleLine_rc_resetPending (s : State) : (refreshTroubleLine s).rc.resetPending = s.rc.resetPending := by
  unfold refreshTroubleLine; split <;> simp

@[simp] theorem refreshTroubleLine_rc_origins (s : State) : (refreshTroubleLine s).rc.origins = s.rc.origins := by
  unfold refreshTroubleLine; split <;> simp

@[simp] theorem refreshTroubleLine_rc_entryTime (s : State) : (refreshTroubleLine s).rc.entryTime = s.rc.entryTime := by
  unfold refreshTroubleLine; split <;> simp

@[simp] theorem refreshTroubleLine_rc_secondCount (s : State) : (refreshTroubleLine s).rc.secondCount = s.rc.secondCount := by
  unfold refreshTroubleLine; split <;> simp

@[simp] theorem refreshTroubleLine_rc_originLimit (s : State) : (refreshTroubleLine s).rc.originLimit = s.rc.originLimit := by
  unfold refreshTroubleLine; split <;> simp

@[simp] theorem refreshTroubleLine_rc_floors (s : State) : (refreshTroubleLine s).rc.floors = s.rc.floors := by
  unfold refreshTroubleLine; split <;> simp

@[simp] theorem refreshTroubleLine_rc_commonAlarm (s : State) : (refreshTroubleLine s).rc.commonAlarm = s.rc.commonAlarm := by
  unfold refreshTroubleLine; split <;> simp

@[simp] theorem refreshTroubleLine_rc_trouble (s : State) : (refreshTroubleLine s).rc.trouble = s.rc.trouble := by
  unfold refreshTroubleLine; split <;> simp

@[simp] theorem refreshTroubleLine_sp_rx (s : State) : (refreshTroubleLine s).sp.rx = s.sp.rx := by
  unfold refreshTroubleLine; split <;> simp

@[simp] theorem refreshTroubleLine_sp_replies (s : State) : (refreshTroubleLine s).sp.replies = s.sp.replies := by
  unfold refreshTroubleLine; split <;> simp

@[simp] theorem refreshTroubleLine_sp_tx (s : State) : (refreshTroubleLine s).sp.tx = s.sp.tx := by
  unfold refreshTroubleLine; split <;> simp

@[simp] theorem refreshTroubleLine_sp_silence (s : State) : (refreshTroubleLine s).sp.silence = s.sp.silence := by
  unfold refreshTroubleLine; split <;> simp

@[simp] theorem refreshTroubleLine_sp_hostSilent (s : State) : (refreshTroubleLine s).sp.hostSilent = s.sp.hostSilent := by
  unfold refreshTroubleLine; split <;> simp

@[simp] theorem refreshTroubleLine_sp_restart (s : State) : (refreshTroubleLine s).sp.restart = s.sp.restart := by
  unfold refreshTroubleLine; split <;> simp

@[simp] theorem refreshTroubleLine_sp_restartDue (s : State) : (refreshTroubleLine s).sp.restartDue = s.sp.restartDue := by
  unfold refreshTroubleLine; split <;> simp

/-- R19: after it, COMMON_TROUBLE is what the trouble total asks for. -/
theorem refreshTroubleLine_line (s : State) : (refreshTroubleLine s).rc.commonTrouble = troubleLine s.rc.trouble := by
  unfold refreshTroubleLine
  split
  · assumption
  · simp

theorem refreshTroubleLine_queueBounded (s : State) (h : s.QueueBounded) : (refreshTroubleLine s).QueueBounded := by
  unfold refreshTroubleLine
  split
  · exact h
  · exact offer_queueBounded _ _ _ h

@[simp] theorem troubleMove_flc (src : Source) (rise : Bool) (s : State) : (troubleMove src rise s).flc = s.flc := by
  simp [troubleMove]

@[simp] theorem troubleMove_ze (src : Source) (rise : Bool) (s : State) : (troubleMove src rise s).ze = s.ze := by
  simp [troubleMove]

@[simp] theorem troubleMove_es (src : Source) (rise : Bool) (s : State) : (troubleMove src rise s).es = s.es := by
  simp [troubleMove]

@[simp] theorem troubleMove_lc (src : Source) (rise : Bool) (s : State) : (troubleMove src rise s).lc = s.lc := by
  simp [troubleMove]

@[simp] theorem troubleMove_ds (src : Source) (rise : Bool) (s : State) : (troubleMove src rise s).ds = s.ds := by
  simp [troubleMove]

@[simp] theorem troubleMove_ar (src : Source) (rise : Bool) (s : State) : (troubleMove src rise s).ar = s.ar := by
  simp [troubleMove]

@[simp] theorem troubleMove_cs (src : Source) (rise : Bool) (s : State) : (troubleMove src rise s).cs = s.cs := by
  simp [troubleMove]

@[simp] theorem troubleMove_powered (src : Source) (rise : Bool) (s : State) : (troubleMove src rise s).powered = s.powered := by
  simp [troubleMove]

@[simp] theorem troubleMove_freeCount (src : Source) (rise : Bool) (s : State) : (troubleMove src rise s).freeCount = s.freeCount := by
  simp [troubleMove]

@[simp] theorem troubleMove_ev (src : Source) (rise : Bool) (s : State) : (troubleMove src rise s).ev = s.ev := by
  simp [troubleMove]

@[simp] theorem troubleMove_pending (src : Source) (rise : Bool) (s : State) : (troubleMove src rise s).pending = s.pending := by
  simp [troubleMove]

@[simp] theorem troubleMove_rc_level (src : Source) (rise : Bool) (s : State) : (troubleMove src rise s).rc.level = s.rc.level := by
  simp [troubleMove]

@[simp] theorem troubleMove_rc_resetPending (src : Source) (rise : Bool) (s : State) : (troubleMove src rise s).rc.resetPending = s.rc.resetPending := by
  simp [troubleMove]

@[simp] theorem troubleMove_rc_origins (src : Source) (rise : Bool) (s : State) : (troubleMove src rise s).rc.origins = s.rc.origins := by
  simp [troubleMove]

@[simp] theorem troubleMove_rc_entryTime (src : Source) (rise : Bool) (s : State) : (troubleMove src rise s).rc.entryTime = s.rc.entryTime := by
  simp [troubleMove]

@[simp] theorem troubleMove_rc_secondCount (src : Source) (rise : Bool) (s : State) : (troubleMove src rise s).rc.secondCount = s.rc.secondCount := by
  simp [troubleMove]

@[simp] theorem troubleMove_rc_originLimit (src : Source) (rise : Bool) (s : State) : (troubleMove src rise s).rc.originLimit = s.rc.originLimit := by
  simp [troubleMove]

@[simp] theorem troubleMove_rc_floors (src : Source) (rise : Bool) (s : State) : (troubleMove src rise s).rc.floors = s.rc.floors := by
  simp [troubleMove]

@[simp] theorem troubleMove_rc_commonAlarm (src : Source) (rise : Bool) (s : State) : (troubleMove src rise s).rc.commonAlarm = s.rc.commonAlarm := by
  simp [troubleMove]

@[simp] theorem troubleMove_sp_rx (src : Source) (rise : Bool) (s : State) : (troubleMove src rise s).sp.rx = s.sp.rx := by
  simp [troubleMove]

@[simp] theorem troubleMove_sp_replies (src : Source) (rise : Bool) (s : State) : (troubleMove src rise s).sp.replies = s.sp.replies := by
  simp [troubleMove]

@[simp] theorem troubleMove_sp_tx (src : Source) (rise : Bool) (s : State) : (troubleMove src rise s).sp.tx = s.sp.tx := by
  simp [troubleMove]

@[simp] theorem troubleMove_sp_silence (src : Source) (rise : Bool) (s : State) : (troubleMove src rise s).sp.silence = s.sp.silence := by
  simp [troubleMove]

@[simp] theorem troubleMove_sp_hostSilent (src : Source) (rise : Bool) (s : State) : (troubleMove src rise s).sp.hostSilent = s.sp.hostSilent := by
  simp [troubleMove]

@[simp] theorem troubleMove_sp_restart (src : Source) (rise : Bool) (s : State) : (troubleMove src rise s).sp.restart = s.sp.restart := by
  simp [troubleMove]

@[simp] theorem troubleMove_sp_restartDue (src : Source) (rise : Bool) (s : State) : (troubleMove src rise s).sp.restartDue = s.sp.restartDue := by
  simp [troubleMove]

/-- R18: one count rises or falls by one. -/
@[simp] theorem troubleMove_trouble (src : Source) (rise : Bool) (s : State) :
    (troubleMove src rise s).rc.trouble = s.rc.trouble.change src (fun n => if rise then n + 1 else n - 1) := by
  simp [troubleMove]

/-- R19: the line follows the total. -/
theorem troubleMove_line (src : Source) (rise : Bool) (s : State) :
    (troubleMove src rise s).rc.commonTrouble = troubleLine (troubleMove src rise s).rc.trouble := by
  rw [troubleMove_trouble]
  exact refreshTroubleLine_line _

theorem troubleMove_queueBounded (src : Source) (rise : Bool) (s : State) (h : s.QueueBounded) :
    (troubleMove src rise s).QueueBounded := refreshTroubleLine_queueBounded _ h

/-- R19: COMMON_TROUBLE agrees with the total exactly when it is what `troubleLine` computes. -/
theorem troubleAgrees_iff (s : State) : s.TroubleAgrees ↔ s.rc.commonTrouble = troubleLine s.rc.trouble := by
  unfold State.TroubleAgrees troubleLine Trouble.total
  cases s.rc.commonTrouble <;> simp

/-- R20: COMMON_ALARM agrees with the level exactly when it is what `alarmLine` computes. -/
theorem alarmAgrees_iff (s : State) : s.AlarmAgrees ↔ s.rc.commonAlarm = alarmLine s.rc.level := by
  unfold State.AlarmAgrees alarmLine
  cases s.rc.commonAlarm <;> cases s.rc.level <;> simp

/-! ## Effects -/

@[simp] theorem applyEff_ze (e : Eff) (s : State) : (applyEff s e).ze = s.ze := by
  cases e <;> simp [applyEff]

@[simp] theorem applyEff_es (e : Eff) (s : State) : (applyEff s e).es = s.es := by
  cases e <;> simp [applyEff]

@[simp] theorem applyEff_lc (e : Eff) (s : State) : (applyEff s e).lc = s.lc := by
  cases e <;> simp [applyEff]

@[simp] theorem applyEff_ds (e : Eff) (s : State) : (applyEff s e).ds = s.ds := by
  cases e <;> simp [applyEff]

@[simp] theorem applyEff_ar (e : Eff) (s : State) : (applyEff s e).ar = s.ar := by
  cases e <;> simp [applyEff]

@[simp] theorem applyEff_cs (e : Eff) (s : State) : (applyEff s e).cs = s.cs := by
  cases e <;> simp [applyEff]

@[simp] theorem applyEff_powered (e : Eff) (s : State) : (applyEff s e).powered = s.powered := by
  cases e <;> simp [applyEff]

@[simp] theorem applyEff_freeCount (e : Eff) (s : State) : (applyEff s e).freeCount = s.freeCount := by
  cases e <;> simp [applyEff]

@[simp] theorem applyEff_ev (e : Eff) (s : State) : (applyEff s e).ev = s.ev := by
  cases e <;> simp [applyEff]

@[simp] theorem applyEff_pending (e : Eff) (s : State) : (applyEff s e).pending = s.pending := by
  cases e <;> simp [applyEff]

@[simp] theorem applyEff_rc_level (e : Eff) (s : State) : (applyEff s e).rc.level = s.rc.level := by
  cases e <;> simp [applyEff]

@[simp] theorem applyEff_rc_resetPending (e : Eff) (s : State) : (applyEff s e).rc.resetPending = s.rc.resetPending := by
  cases e <;> simp [applyEff]

@[simp] theorem applyEff_rc_origins (e : Eff) (s : State) : (applyEff s e).rc.origins = s.rc.origins := by
  cases e <;> simp [applyEff]

@[simp] theorem applyEff_rc_entryTime (e : Eff) (s : State) : (applyEff s e).rc.entryTime = s.rc.entryTime := by
  cases e <;> simp [applyEff]

@[simp] theorem applyEff_rc_secondCount (e : Eff) (s : State) : (applyEff s e).rc.secondCount = s.rc.secondCount := by
  cases e <;> simp [applyEff]

@[simp] theorem applyEff_rc_originLimit (e : Eff) (s : State) : (applyEff s e).rc.originLimit = s.rc.originLimit := by
  cases e <;> simp [applyEff]

@[simp] theorem applyEff_rc_floors (e : Eff) (s : State) : (applyEff s e).rc.floors = s.rc.floors := by
  cases e <;> simp [applyEff]

@[simp] theorem applyEff_rc_commonAlarm (e : Eff) (s : State) : (applyEff s e).rc.commonAlarm = s.rc.commonAlarm := by
  cases e <;> simp [applyEff]

@[simp] theorem applyEff_sp_rx (e : Eff) (s : State) : (applyEff s e).sp.rx = s.sp.rx := by
  cases e <;> simp [applyEff]

@[simp] theorem applyEff_sp_replies (e : Eff) (s : State) : (applyEff s e).sp.replies = s.sp.replies := by
  cases e <;> simp [applyEff]

@[simp] theorem applyEff_sp_tx (e : Eff) (s : State) : (applyEff s e).sp.tx = s.sp.tx := by
  cases e <;> simp [applyEff]

@[simp] theorem applyEff_sp_silence (e : Eff) (s : State) : (applyEff s e).sp.silence = s.sp.silence := by
  cases e <;> simp [applyEff]

@[simp] theorem applyEff_sp_hostSilent (e : Eff) (s : State) : (applyEff s e).sp.hostSilent = s.sp.hostSilent := by
  cases e <;> simp [applyEff]

@[simp] theorem applyEff_sp_restart (e : Eff) (s : State) : (applyEff s e).sp.restart = s.sp.restart := by
  cases e <;> simp [applyEff]

@[simp] theorem applyEff_sp_restartDue (e : Eff) (s : State) : (applyEff s e).sp.restartDue = s.sp.restartDue := by
  cases e <;> simp [applyEff]

theorem applyEff_queueBounded (e : Eff) (s : State) (h : s.QueueBounded) : (applyEff s e).QueueBounded := by
  cases e with
  | report cls body => exact offer_queueBounded cls body s h
  | trouble src rise => exact troubleMove_queueBounded src rise s h
  | _ => exact h

theorem applyEff_troubleAgrees (e : Eff) (s : State) (h : s.TroubleAgrees) : (applyEff s e).TroubleAgrees := by
  cases e with
  | report cls body => rw [troubleAgrees_iff] at *; simpa [applyEff] using h
  | trouble src rise => rw [troubleAgrees_iff]; exact troubleMove_line src rise s
  | _ => exact h

/-- What every effect keeps, a list of effects keeps. -/
theorem applyEffs_keeps {P : State → Prop} (hP : ∀ e s, P s → P (applyEff s e)) (l : List Eff) (s : State) (h : P s) :
    P (applyEffs l s) := by
  induction l generalizing s with
  | nil => exact h
  | cons e l ih => exact ih _ (hP e s h)

@[simp] theorem applyEffs_ze (l : List Eff) (s : State) : (applyEffs l s).ze = s.ze :=
  applyEffs_keeps (P := fun t => t.ze = s.ze) (fun e t h => by simpa using h) l s rfl

@[simp] theorem applyEffs_es (l : List Eff) (s : State) : (applyEffs l s).es = s.es :=
  applyEffs_keeps (P := fun t => t.es = s.es) (fun e t h => by simpa using h) l s rfl

@[simp] theorem applyEffs_lc (l : List Eff) (s : State) : (applyEffs l s).lc = s.lc :=
  applyEffs_keeps (P := fun t => t.lc = s.lc) (fun e t h => by simpa using h) l s rfl

@[simp] theorem applyEffs_ds (l : List Eff) (s : State) : (applyEffs l s).ds = s.ds :=
  applyEffs_keeps (P := fun t => t.ds = s.ds) (fun e t h => by simpa using h) l s rfl

@[simp] theorem applyEffs_ar (l : List Eff) (s : State) : (applyEffs l s).ar = s.ar :=
  applyEffs_keeps (P := fun t => t.ar = s.ar) (fun e t h => by simpa using h) l s rfl

@[simp] theorem applyEffs_cs (l : List Eff) (s : State) : (applyEffs l s).cs = s.cs :=
  applyEffs_keeps (P := fun t => t.cs = s.cs) (fun e t h => by simpa using h) l s rfl

@[simp] theorem applyEffs_powered (l : List Eff) (s : State) : (applyEffs l s).powered = s.powered :=
  applyEffs_keeps (P := fun t => t.powered = s.powered) (fun e t h => by simpa using h) l s rfl

@[simp] theorem applyEffs_freeCount (l : List Eff) (s : State) : (applyEffs l s).freeCount = s.freeCount :=
  applyEffs_keeps (P := fun t => t.freeCount = s.freeCount) (fun e t h => by simpa using h) l s rfl

@[simp] theorem applyEffs_ev (l : List Eff) (s : State) : (applyEffs l s).ev = s.ev :=
  applyEffs_keeps (P := fun t => t.ev = s.ev) (fun e t h => by simpa using h) l s rfl

@[simp] theorem applyEffs_pending (l : List Eff) (s : State) : (applyEffs l s).pending = s.pending :=
  applyEffs_keeps (P := fun t => t.pending = s.pending) (fun e t h => by simpa using h) l s rfl

@[simp] theorem applyEffs_rc_level (l : List Eff) (s : State) : (applyEffs l s).rc.level = s.rc.level :=
  applyEffs_keeps (P := fun t => t.rc.level = s.rc.level) (fun e t h => by simpa using h) l s rfl

@[simp] theorem applyEffs_rc_resetPending (l : List Eff) (s : State) : (applyEffs l s).rc.resetPending = s.rc.resetPending :=
  applyEffs_keeps (P := fun t => t.rc.resetPending = s.rc.resetPending) (fun e t h => by simpa using h) l s rfl

@[simp] theorem applyEffs_rc_origins (l : List Eff) (s : State) : (applyEffs l s).rc.origins = s.rc.origins :=
  applyEffs_keeps (P := fun t => t.rc.origins = s.rc.origins) (fun e t h => by simpa using h) l s rfl

@[simp] theorem applyEffs_rc_entryTime (l : List Eff) (s : State) : (applyEffs l s).rc.entryTime = s.rc.entryTime :=
  applyEffs_keeps (P := fun t => t.rc.entryTime = s.rc.entryTime) (fun e t h => by simpa using h) l s rfl

@[simp] theorem applyEffs_rc_secondCount (l : List Eff) (s : State) : (applyEffs l s).rc.secondCount = s.rc.secondCount :=
  applyEffs_keeps (P := fun t => t.rc.secondCount = s.rc.secondCount) (fun e t h => by simpa using h) l s rfl

@[simp] theorem applyEffs_rc_originLimit (l : List Eff) (s : State) : (applyEffs l s).rc.originLimit = s.rc.originLimit :=
  applyEffs_keeps (P := fun t => t.rc.originLimit = s.rc.originLimit) (fun e t h => by simpa using h) l s rfl

@[simp] theorem applyEffs_rc_floors (l : List Eff) (s : State) : (applyEffs l s).rc.floors = s.rc.floors :=
  applyEffs_keeps (P := fun t => t.rc.floors = s.rc.floors) (fun e t h => by simpa using h) l s rfl

@[simp] theorem applyEffs_rc_commonAlarm (l : List Eff) (s : State) : (applyEffs l s).rc.commonAlarm = s.rc.commonAlarm :=
  applyEffs_keeps (P := fun t => t.rc.commonAlarm = s.rc.commonAlarm) (fun e t h => by simpa using h) l s rfl

@[simp] theorem applyEffs_sp_rx (l : List Eff) (s : State) : (applyEffs l s).sp.rx = s.sp.rx :=
  applyEffs_keeps (P := fun t => t.sp.rx = s.sp.rx) (fun e t h => by simpa using h) l s rfl

@[simp] theorem applyEffs_sp_replies (l : List Eff) (s : State) : (applyEffs l s).sp.replies = s.sp.replies :=
  applyEffs_keeps (P := fun t => t.sp.replies = s.sp.replies) (fun e t h => by simpa using h) l s rfl

@[simp] theorem applyEffs_sp_tx (l : List Eff) (s : State) : (applyEffs l s).sp.tx = s.sp.tx :=
  applyEffs_keeps (P := fun t => t.sp.tx = s.sp.tx) (fun e t h => by simpa using h) l s rfl

@[simp] theorem applyEffs_sp_silence (l : List Eff) (s : State) : (applyEffs l s).sp.silence = s.sp.silence :=
  applyEffs_keeps (P := fun t => t.sp.silence = s.sp.silence) (fun e t h => by simpa using h) l s rfl

@[simp] theorem applyEffs_sp_hostSilent (l : List Eff) (s : State) : (applyEffs l s).sp.hostSilent = s.sp.hostSilent :=
  applyEffs_keeps (P := fun t => t.sp.hostSilent = s.sp.hostSilent) (fun e t h => by simpa using h) l s rfl

@[simp] theorem applyEffs_sp_restart (l : List Eff) (s : State) : (applyEffs l s).sp.restart = s.sp.restart :=
  applyEffs_keeps (P := fun t => t.sp.restart = s.sp.restart) (fun e t h => by simpa using h) l s rfl

@[simp] theorem applyEffs_sp_restartDue (l : List Eff) (s : State) : (applyEffs l s).sp.restartDue = s.sp.restartDue :=
  applyEffs_keeps (P := fun t => t.sp.restartDue = s.sp.restartDue) (fun e t h => by simpa using h) l s rfl

/-! ## The order of lift reports (R97) -/

/-- A record put into a table by its key is one record more. -/
theorem insertBy_perm {α : Type} (key : α → Nat) (x : α) : ∀ l : List α, (insertBy key x l).Perm (x :: l)
  | [] => .refl _
  | y :: ys => by
    unfold insertBy
    split
    · exact .refl _
    · exact ((insertBy_perm key x ys).cons y).trans (.swap x y ys)

/-- A sorted table has the same records. -/
theorem sortBy_perm {α : Type} (key : α → Nat) : ∀ l : List α, (sortBy key l).Perm l
  | [] => .refl _
  | x :: xs => (insertBy_perm key x (sortBy key xs)).trans ((sortBy_perm key xs).cons x)

/-- No report is both a group report and a car report. -/
theorem carNumber_of_isGroupReport (e : Report) (h : e.isGroupReport = true) : e.carNumber = none := by
  unfold Report.isGroupReport at h
  split at h
  · rename_i hb
    simp [Report.carNumber, hb]
  · cases h

/-- R97: the lift reports put in order are the lift reports. -/
theorem liftReports_perm (l : List Report) : (liftReports l).Perm (l.filter Report.isLiftReport) := by
  refine ((sortBy_perm _ _).append_left _).trans ?_
  induction l with
  | nil => exact .refl _
  | cons e es ih =>
    cases hg : e.isGroupReport
    · cases hc : e.carNumber with
      | none => simpa [List.filter_cons, Report.isLiftReport, hg, hc] using ih
      | some n =>
        have hl : e.isLiftReport = true := by simp [Report.isLiftReport, hc]
        rw [List.filter_cons_of_neg (by simp [hg]), List.filter_cons_of_pos (by simp [hc]), List.filter_cons_of_pos hl]
        exact List.perm_middle.trans (ih.cons e)
    · have hl : e.isLiftReport = true := by simp [Report.isLiftReport, hg]
      rw [List.filter_cons_of_pos hg, List.filter_cons_of_neg (by simp [carNumber_of_isGroupReport e hg]),
        List.filter_cons_of_pos hl]
      exact ih.cons e

/-- R97: the reports other than lift reports keep their order. -/
theorem refill_others : ∀ (l rs : List Report), (∀ r ∈ rs, r.isLiftReport = true) →
    (refill l rs).filter (fun e => !e.isLiftReport) = l.filter (fun e => !e.isLiftReport)
  | [], _, _ => rfl
  | e :: es, rs, h => by
    unfold refill
    split
    · rename_i he
      split
      · rename_i r rest
        rw [List.filter_cons_of_neg (by simp [h r List.mem_cons_self]), List.filter_cons_of_neg (by simp [he])]
        exact refill_others es rest (fun x hx => h x (List.mem_cons_of_mem _ hx))
      · rw [List.filter_cons_of_neg (by simp [he]), List.filter_cons_of_neg (by simp [he])]
        exact refill_others es [] (by simp)
    · rename_i he
      rw [List.filter_cons_of_pos (by simp [he]), List.filter_cons_of_pos (by simp [he]), refill_others es rs h]

/-- R97: the places of the lift reports hold the given reports, where they are as many. -/
theorem refill_reports : ∀ (l rs : List Report), (∀ r ∈ rs, r.isLiftReport = true) →
    rs.length = (l.filter Report.isLiftReport).length → (refill l rs).filter Report.isLiftReport = rs
  | [], rs, _, hn => by
    simp only [List.filter_nil, List.length_nil, List.length_eq_zero_iff] at hn
    rw [hn]
    rfl
  | e :: es, rs, h, hn => by
    unfold refill
    split
    · rename_i he
      rw [List.filter_cons_of_pos he] at hn
      split
      · rename_i r rest
        rw [List.filter_cons_of_pos (h r List.mem_cons_self),
          refill_reports es rest (fun x hx => h x (List.mem_cons_of_mem _ hx)) (by simpa using hn)]
      · cases hn
    · rename_i he
      rw [List.filter_cons_of_neg he] at hn
      rw [List.filter_cons_of_neg he, refill_reports es rs h hn]

theorem liftReports_all (l : List Report) : ∀ r ∈ liftReports l, r.isLiftReport = true :=
  fun _ hr => (List.mem_filter.mp ((liftReports_perm l).mem_iff.mp hr)).2

/-- R161: a NODE_EVENT is no lift report. -/
theorem isNodeUp_notLift (r : Report) (h : r.isNodeUp = true) : r.isLiftReport = false := by
  unfold Report.isNodeUp at h
  split at h
  · rename_i hb
    simp [Report.isLiftReport, Report.isGroupReport, Report.carNumber, hb]
  · cases h

/-- R161: the reports other than lift reports keep their order behind and ahead of the NODE_EVENT. -/
theorem behindNodeUp_others : ∀ (l held : List Report), (∀ r ∈ held, r.isLiftReport = true) →
    (behindNodeUp held l).filter (fun e => !e.isLiftReport) = l.filter (fun e => !e.isLiftReport)
  | [], held, h => List.filter_eq_nil_iff.mpr fun r hr => by simp [h r hr]
  | e :: es, held, h => by
    have none : held.filter (fun e => !e.isLiftReport) = [] := List.filter_eq_nil_iff.mpr fun r hr => by simp [h r hr]
    unfold behindNodeUp
    split
    · simp [List.filter_cons, List.filter_append, none]
    · split
      · rename_i he
        rw [behindNodeUp_others es _ (by simpa [or_imp, forall_and] using ⟨h, he⟩), List.filter_cons_of_neg (by simp [he])]
      · rename_i he
        rw [List.filter_cons_of_pos (by simp [he]), List.filter_cons_of_pos (by simp [he]), behindNodeUp_others es held h]

/-- R161: the lift reports keep their order among themselves. -/
theorem behindNodeUp_reports : ∀ (l held : List Report), (∀ r ∈ held, r.isLiftReport = true) →
    (behindNodeUp held l).filter Report.isLiftReport = held ++ l.filter Report.isLiftReport
  | [], held, h => by simpa [behindNodeUp] using h
  | e :: es, held, h => by
    have all : held.filter Report.isLiftReport = held := List.filter_eq_self.mpr h
    unfold behindNodeUp
    split
    · rename_i he
      simp [List.filter_append, all, isNodeUp_notLift e he]
    · split
      · rename_i he
        rw [behindNodeUp_reports es _ (by simpa [or_imp, forall_and] using ⟨h, he⟩), List.filter_cons_of_pos he,
          List.append_assoc, List.singleton_append]
      · rename_i he
        rw [List.filter_cons_of_neg he, List.filter_cons_of_neg he, behindNodeUp_reports es held h]

/-- R161: choosing the places of the lift reports moves lift reports alone. -/
theorem liftPlaces_others (l : List Report) :
    (liftPlaces l).filter (fun e => !e.isLiftReport) = l.filter (fun e => !e.isLiftReport) := by
  unfold liftPlaces
  split
  · exact behindNodeUp_others l [] (by simp)
  · rfl

/-- R161: choosing the places of the lift reports keeps their number and their order. -/
theorem liftPlaces_reports (l : List Report) :
    (liftPlaces l).filter Report.isLiftReport = l.filter Report.isLiftReport := by
  unfold liftPlaces
  split
  · exact behindNodeUp_reports l [] (by simp)
  · rfl

/-- R97: ordering moves lift reports alone. -/
@[simp] theorem eventOrdered_others (l : List Report) :
    (eventOrdered l).filter (fun e => !e.isLiftReport) = l.filter (fun e => !e.isLiftReport) :=
  (refill_others _ _ (liftReports_all l)).trans (liftPlaces_others l)

/-- R97: the lift reports go group reports first, then car reports in car order. -/
@[simp] theorem eventOrdered_reports (l : List Report) : (eventOrdered l).filter Report.isLiftReport = liftReports l :=
  refill_reports _ _ (liftReports_all l) (by rw [liftPlaces_reports]; exact (liftReports_perm l).length_eq)

/-- R97: ordering loses and makes no report. -/
theorem eventOrdered_perm (l : List Report) : (eventOrdered l).Perm l := by
  refine (List.filter_append_perm Report.isLiftReport (eventOrdered l)).symm.trans ?_
  rw [eventOrdered_reports, eventOrdered_others]
  exact ((liftReports_perm l).append_right _).trans (List.filter_append_perm _ _)

/-- R97: the ordering of an event's reports keeps the queue's reports, and so its length. -/
theorem orderLift_reports (n : Nat) (s : State) : (orderLift n s).sp.reports.Perm s.sp.reports := by
  refine ((eventOrdered_perm _).append_left _).trans ?_
  rw [List.take_append_drop]

@[simp] theorem orderLift_reports_length (n : Nat) (s : State) :
    (orderLift n s).sp.reports.length = s.sp.reports.length := (orderLift_reports n s).length_eq

/-- What the ordering of an event's reports changes: the report queue alone. -/
theorem orderLift_eq (n : Nat) (s : State) :
    orderLift n s = { s with sp := { s.sp with reports := (orderLift n s).sp.reports } } := rfl

/-! ## liftLc -/

@[simp] theorem liftLc_ze (f : Acc LC → Acc LC) (s : State) : (s.liftLc f).ze = s.ze := by
  simp [State.liftLc]

@[simp] theorem liftLc_es (f : Acc LC → Acc LC) (s : State) : (s.liftLc f).es = s.es := by
  simp [State.liftLc]

@[simp] theorem liftLc_ds (f : Acc LC → Acc LC) (s : State) : (s.liftLc f).ds = s.ds := by
  simp [State.liftLc]

@[simp] theorem liftLc_ar (f : Acc LC → Acc LC) (s : State) : (s.liftLc f).ar = s.ar := by
  simp [State.liftLc]

@[simp] theorem liftLc_cs (f : Acc LC → Acc LC) (s : State) : (s.liftLc f).cs = s.cs := by
  simp [State.liftLc]

@[simp] theorem liftLc_powered (f : Acc LC → Acc LC) (s : State) : (s.liftLc f).powered = s.powered := by
  simp [State.liftLc]

@[simp] theorem liftLc_freeCount (f : Acc LC → Acc LC) (s : State) : (s.liftLc f).freeCount = s.freeCount := by
  simp [State.liftLc]

@[simp] theorem liftLc_ev (f : Acc LC → Acc LC) (s : State) : (s.liftLc f).ev = s.ev := by
  simp [State.liftLc]

@[simp] theorem liftLc_pending (f : Acc LC → Acc LC) (s : State) : (s.liftLc f).pending = s.pending := by
  simp [State.liftLc]

@[simp] theorem liftLc_rc_level (f : Acc LC → Acc LC) (s : State) : (s.liftLc f).rc.level = s.rc.level := by
  simp [State.liftLc]

@[simp] theorem liftLc_rc_resetPending (f : Acc LC → Acc LC) (s : State) : (s.liftLc f).rc.resetPending = s.rc.resetPending := by
  simp [State.liftLc]

@[simp] theorem liftLc_rc_origins (f : Acc LC → Acc LC) (s : State) : (s.liftLc f).rc.origins = s.rc.origins := by
  simp [State.liftLc]

@[simp] theorem liftLc_rc_entryTime (f : Acc LC → Acc LC) (s : State) : (s.liftLc f).rc.entryTime = s.rc.entryTime := by
  simp [State.liftLc]

@[simp] theorem liftLc_rc_secondCount (f : Acc LC → Acc LC) (s : State) : (s.liftLc f).rc.secondCount = s.rc.secondCount := by
  simp [State.liftLc]

@[simp] theorem liftLc_rc_originLimit (f : Acc LC → Acc LC) (s : State) : (s.liftLc f).rc.originLimit = s.rc.originLimit := by
  simp [State.liftLc]

@[simp] theorem liftLc_rc_floors (f : Acc LC → Acc LC) (s : State) : (s.liftLc f).rc.floors = s.rc.floors := by
  simp [State.liftLc]

@[simp] theorem liftLc_rc_commonAlarm (f : Acc LC → Acc LC) (s : State) : (s.liftLc f).rc.commonAlarm = s.rc.commonAlarm := by
  simp [State.liftLc]

@[simp] theorem liftLc_sp_rx (f : Acc LC → Acc LC) (s : State) : (s.liftLc f).sp.rx = s.sp.rx := by
  simp [State.liftLc]

@[simp] theorem liftLc_sp_replies (f : Acc LC → Acc LC) (s : State) : (s.liftLc f).sp.replies = s.sp.replies := by
  simp [State.liftLc]

@[simp] theorem liftLc_sp_tx (f : Acc LC → Acc LC) (s : State) : (s.liftLc f).sp.tx = s.sp.tx := by
  simp [State.liftLc]

@[simp] theorem liftLc_sp_silence (f : Acc LC → Acc LC) (s : State) : (s.liftLc f).sp.silence = s.sp.silence := by
  simp [State.liftLc]

@[simp] theorem liftLc_sp_hostSilent (f : Acc LC → Acc LC) (s : State) : (s.liftLc f).sp.hostSilent = s.sp.hostSilent := by
  simp [State.liftLc]

@[simp] theorem liftLc_sp_restart (f : Acc LC → Acc LC) (s : State) : (s.liftLc f).sp.restart = s.sp.restart := by
  simp [State.liftLc]

@[simp] theorem liftLc_sp_restartDue (f : Acc LC → Acc LC) (s : State) : (s.liftLc f).sp.restartDue = s.sp.restartDue := by
  simp [State.liftLc]

theorem liftLc_keeps {P : State → Prop} (hP : ∀ e s, P s → P (applyEff s e)) (f : Acc LC → Acc LC) (s : State)
    (h : P { s with lc := (f ⟨s.lc, []⟩).st }) : P (s.liftLc f) :=
  applyEffs_keeps hP _ _ h

/-! ## liftDs -/

@[simp] theorem liftDs_ze (f : Acc DS → Acc DS) (s : State) : (s.liftDs f).ze = s.ze := by
  simp [State.liftDs]

@[simp] theorem liftDs_es (f : Acc DS → Acc DS) (s : State) : (s.liftDs f).es = s.es := by
  simp [State.liftDs]

@[simp] theorem liftDs_lc (f : Acc DS → Acc DS) (s : State) : (s.liftDs f).lc = s.lc := by
  simp [State.liftDs]

@[simp] theorem liftDs_ar (f : Acc DS → Acc DS) (s : State) : (s.liftDs f).ar = s.ar := by
  simp [State.liftDs]

@[simp] theorem liftDs_cs (f : Acc DS → Acc DS) (s : State) : (s.liftDs f).cs = s.cs := by
  simp [State.liftDs]

@[simp] theorem liftDs_powered (f : Acc DS → Acc DS) (s : State) : (s.liftDs f).powered = s.powered := by
  simp [State.liftDs]

@[simp] theorem liftDs_freeCount (f : Acc DS → Acc DS) (s : State) : (s.liftDs f).freeCount = s.freeCount := by
  simp [State.liftDs]

@[simp] theorem liftDs_ev (f : Acc DS → Acc DS) (s : State) : (s.liftDs f).ev = s.ev := by
  simp [State.liftDs]

@[simp] theorem liftDs_pending (f : Acc DS → Acc DS) (s : State) : (s.liftDs f).pending = s.pending := by
  simp [State.liftDs]

@[simp] theorem liftDs_rc_level (f : Acc DS → Acc DS) (s : State) : (s.liftDs f).rc.level = s.rc.level := by
  simp [State.liftDs]

@[simp] theorem liftDs_rc_resetPending (f : Acc DS → Acc DS) (s : State) : (s.liftDs f).rc.resetPending = s.rc.resetPending := by
  simp [State.liftDs]

@[simp] theorem liftDs_rc_origins (f : Acc DS → Acc DS) (s : State) : (s.liftDs f).rc.origins = s.rc.origins := by
  simp [State.liftDs]

@[simp] theorem liftDs_rc_entryTime (f : Acc DS → Acc DS) (s : State) : (s.liftDs f).rc.entryTime = s.rc.entryTime := by
  simp [State.liftDs]

@[simp] theorem liftDs_rc_secondCount (f : Acc DS → Acc DS) (s : State) : (s.liftDs f).rc.secondCount = s.rc.secondCount := by
  simp [State.liftDs]

@[simp] theorem liftDs_rc_originLimit (f : Acc DS → Acc DS) (s : State) : (s.liftDs f).rc.originLimit = s.rc.originLimit := by
  simp [State.liftDs]

@[simp] theorem liftDs_rc_floors (f : Acc DS → Acc DS) (s : State) : (s.liftDs f).rc.floors = s.rc.floors := by
  simp [State.liftDs]

@[simp] theorem liftDs_rc_commonAlarm (f : Acc DS → Acc DS) (s : State) : (s.liftDs f).rc.commonAlarm = s.rc.commonAlarm := by
  simp [State.liftDs]

@[simp] theorem liftDs_sp_rx (f : Acc DS → Acc DS) (s : State) : (s.liftDs f).sp.rx = s.sp.rx := by
  simp [State.liftDs]

@[simp] theorem liftDs_sp_replies (f : Acc DS → Acc DS) (s : State) : (s.liftDs f).sp.replies = s.sp.replies := by
  simp [State.liftDs]

@[simp] theorem liftDs_sp_tx (f : Acc DS → Acc DS) (s : State) : (s.liftDs f).sp.tx = s.sp.tx := by
  simp [State.liftDs]

@[simp] theorem liftDs_sp_silence (f : Acc DS → Acc DS) (s : State) : (s.liftDs f).sp.silence = s.sp.silence := by
  simp [State.liftDs]

@[simp] theorem liftDs_sp_hostSilent (f : Acc DS → Acc DS) (s : State) : (s.liftDs f).sp.hostSilent = s.sp.hostSilent := by
  simp [State.liftDs]

@[simp] theorem liftDs_sp_restart (f : Acc DS → Acc DS) (s : State) : (s.liftDs f).sp.restart = s.sp.restart := by
  simp [State.liftDs]

@[simp] theorem liftDs_sp_restartDue (f : Acc DS → Acc DS) (s : State) : (s.liftDs f).sp.restartDue = s.sp.restartDue := by
  simp [State.liftDs]

theorem liftDs_keeps {P : State → Prop} (hP : ∀ e s, P s → P (applyEff s e)) (f : Acc DS → Acc DS) (s : State)
    (h : P { s with ds := (f ⟨s.ds, []⟩).st }) : P (s.liftDs f) :=
  applyEffs_keeps hP _ _ h

/-! ## liftAr -/

@[simp] theorem liftAr_ze (f : Acc ArCtx → Acc ArCtx) (s : State) : (s.liftAr f).ze = s.ze := by
  simp [State.liftAr]

@[simp] theorem liftAr_es (f : Acc ArCtx → Acc ArCtx) (s : State) : (s.liftAr f).es = s.es := by
  simp [State.liftAr]

@[simp] theorem liftAr_lc (f : Acc ArCtx → Acc ArCtx) (s : State) : (s.liftAr f).lc = s.lc := by
  simp [State.liftAr]

@[simp] theorem liftAr_ds (f : Acc ArCtx → Acc ArCtx) (s : State) : (s.liftAr f).ds = s.ds := by
  simp [State.liftAr]

@[simp] theorem liftAr_cs (f : Acc ArCtx → Acc ArCtx) (s : State) : (s.liftAr f).cs = s.cs := by
  simp [State.liftAr]

@[simp] theorem liftAr_powered (f : Acc ArCtx → Acc ArCtx) (s : State) : (s.liftAr f).powered = s.powered := by
  simp [State.liftAr]

@[simp] theorem liftAr_freeCount (f : Acc ArCtx → Acc ArCtx) (s : State) : (s.liftAr f).freeCount = s.freeCount := by
  simp [State.liftAr]

@[simp] theorem liftAr_pending (f : Acc ArCtx → Acc ArCtx) (s : State) : (s.liftAr f).pending = s.pending := by
  simp [State.liftAr]

@[simp] theorem liftAr_rc_level (f : Acc ArCtx → Acc ArCtx) (s : State) : (s.liftAr f).rc.level = s.rc.level := by
  simp [State.liftAr]

@[simp] theorem liftAr_rc_resetPending (f : Acc ArCtx → Acc ArCtx) (s : State) : (s.liftAr f).rc.resetPending = s.rc.resetPending := by
  simp [State.liftAr]

@[simp] theorem liftAr_rc_origins (f : Acc ArCtx → Acc ArCtx) (s : State) : (s.liftAr f).rc.origins = s.rc.origins := by
  simp [State.liftAr]

@[simp] theorem liftAr_rc_entryTime (f : Acc ArCtx → Acc ArCtx) (s : State) : (s.liftAr f).rc.entryTime = s.rc.entryTime := by
  simp [State.liftAr]

@[simp] theorem liftAr_rc_secondCount (f : Acc ArCtx → Acc ArCtx) (s : State) : (s.liftAr f).rc.secondCount = s.rc.secondCount := by
  simp [State.liftAr]

@[simp] theorem liftAr_rc_originLimit (f : Acc ArCtx → Acc ArCtx) (s : State) : (s.liftAr f).rc.originLimit = s.rc.originLimit := by
  simp [State.liftAr]

@[simp] theorem liftAr_rc_floors (f : Acc ArCtx → Acc ArCtx) (s : State) : (s.liftAr f).rc.floors = s.rc.floors := by
  simp [State.liftAr]

@[simp] theorem liftAr_rc_commonAlarm (f : Acc ArCtx → Acc ArCtx) (s : State) : (s.liftAr f).rc.commonAlarm = s.rc.commonAlarm := by
  simp [State.liftAr]

@[simp] theorem liftAr_sp_rx (f : Acc ArCtx → Acc ArCtx) (s : State) : (s.liftAr f).sp.rx = s.sp.rx := by
  simp [State.liftAr]

@[simp] theorem liftAr_sp_replies (f : Acc ArCtx → Acc ArCtx) (s : State) : (s.liftAr f).sp.replies = s.sp.replies := by
  simp [State.liftAr]

@[simp] theorem liftAr_sp_tx (f : Acc ArCtx → Acc ArCtx) (s : State) : (s.liftAr f).sp.tx = s.sp.tx := by
  simp [State.liftAr]

@[simp] theorem liftAr_sp_silence (f : Acc ArCtx → Acc ArCtx) (s : State) : (s.liftAr f).sp.silence = s.sp.silence := by
  simp [State.liftAr]

@[simp] theorem liftAr_sp_hostSilent (f : Acc ArCtx → Acc ArCtx) (s : State) : (s.liftAr f).sp.hostSilent = s.sp.hostSilent := by
  simp [State.liftAr]

@[simp] theorem liftAr_sp_restart (f : Acc ArCtx → Acc ArCtx) (s : State) : (s.liftAr f).sp.restart = s.sp.restart := by
  simp [State.liftAr]

@[simp] theorem liftAr_sp_restartDue (f : Acc ArCtx → Acc ArCtx) (s : State) : (s.liftAr f).sp.restartDue = s.sp.restartDue := by
  simp [State.liftAr]

theorem liftAr_keeps {P : State → Prop} (hP : ∀ e s, P s → P (applyEff s e)) (f : Acc ArCtx → Acc ArCtx) (s : State)
    (h : P { s with ar := (f ⟨⟨s.ar, s.ev⟩, []⟩).st.ar, ev := (f ⟨⟨s.ar, s.ev⟩, []⟩).st.ev }) : P (s.liftAr f) :=
  applyEffs_keeps hP _ _ h

/-! ## The transmitter -/

/-- R166, R171: a transmitter that is free takes the oldest reply, else the head report with the LOST flag. -/
theorem takeNextFrame_cases (p : SP) :
    (p.tx.isSome = true ∧ takeNextFrame p = p) ∨
    (p.tx = none ∧ ∃ r rs, p.replies = r :: rs ∧ takeNextFrame p = { p with tx := some (.reply r), replies := rs }) ∨
    (p.tx = none ∧ p.replies = [] ∧ ∃ r rs, p.reports = r :: rs ∧
      takeNextFrame p = { p with tx := some (.report r p.lost), reports := rs, lost := false }) ∨
    (p.tx = none ∧ p.replies = [] ∧ p.reports = [] ∧ takeNextFrame p = p) := by
  unfold takeNextFrame
  cases htx : p.tx with
  | some f => exact .inl ⟨rfl, rfl⟩
  | none =>
    cases hr : p.replies with
    | cons r rs => exact .inr (.inl ⟨rfl, r, rs, rfl, rfl⟩)
    | nil =>
      cases hq : p.reports with
      | cons r rs => exact .inr (.inr (.inl ⟨rfl, rfl, r, rs, rfl, by simp⟩))
      | nil => exact .inr (.inr (.inr ⟨rfl, rfl, rfl, rfl⟩))

/-- R166: the frame taken is not lost: the newest reply stays the newest. -/
theorem newestReply_takeNextFrame (s : State) (r : Reply) (h : s.sp.replies.getLast? = some r) :
    newestReply (s.modSp takeNextFrame) = some r := by
  unfold newestReply
  obtain ⟨_, he⟩ | ⟨_, x, xs, hx, he⟩ | ⟨_, hn, _⟩ | ⟨_, hn, _⟩ := takeNextFrame_cases s.sp
  · simp [he, h]
  · cases xs with
    | nil => simp [hx] at h; simp [he, h]
    | cons y ys => simp [hx] at h; simp [he, h]
  · simp [hn] at h
  · simp [hn] at h

end Sys2Proof.Machine
end

