-- ==== Sys2Proof/Tests/Slice0.lean ====
section
/-!
SUPPORT. Tests. Expected results are the spec's own figures, each named with its place; the witnesses at the end show for
every statement with premises a state and operands that meet them, clause by clause.
-/

namespace Sys2Proof.Tests

open Sys2Proof Sys2Proof.Machine

/-! ## A small tower -/

/-- Three floors (STAIR, DIRECT, NONE), two stairs, a panel, a lift group with one car, a door and a matrix. -/
def image : Image where
  general := { defaultGeneral with floorCount := 3, channels := 2, reserve := 1 }
  floors := [⟨labelOfNumber 0, .stair, 0, some 1, 60, false, 130⟩, ⟨labelOfNumber 1, .direct, 0, none, 100, false, 50⟩,
    ⟨labelOfNumber 2, .none, 0, none, 100, false, 0⟩]
  stairs := [⟨true, 60, 250, 150⟩, ⟨true, 45, 300, 180⟩, unfittedStair, unfittedStair]
  zones := [⟨true, .p 0, 1, 0, .smoke, .latching, false, 0, none, none⟩,
    ⟨true, .p 0, 2, 0, .smoke, .latching, true, 0, none, none⟩, ⟨true, .l, 0, 1, .manualCall, .latching, false, 0, none,
    some .alarmHigh⟩]
  nodes := [⟨true, .p 0, 1⟩, ⟨true, .g 0, 1⟩, ⟨true, .d 0, 5⟩, ⟨true, .a, 1⟩]
  groups := [⟨true, 1, [some 1, some 2, some 3], 0, 1⟩]
  cars := [⟨true, 0, 0⟩]
  doors := [⟨true, .d 0, 5, 5, 0, 1, .secure, true⟩]
  messages := [⟨true, .evac, 60⟩, ⟨true, .alert, 60⟩, ⟨true, .tenant, 30⟩]
  regimeMsgs := ⟨0, 1, none⟩

/-- The tower after power-on, its transmitter free and its queues empty. -/
def tower : State :=
  bootBlocks (some image) 0 true { State.reset with sp := bootSP, cs := ⟨.holds image 0, none, false, none⟩ }

/-- The state of an outcome; the start state where there is none. -/
def after (o : Host.Outcome State Fault Refusal) : State :=
  match o with
  | .next s => s
  | .fault _ | .refused _ => State.reset

/-- Commands run one after the other. -/
def run : List Instr → State → State
  | [], s => s
  | c :: cs, s => run cs (after (exec c s))

/-- The tower with one zone record of P0, number 1, as given. -/
def withZone (state : ZoneState) (last : Option Input) (window : Option Window) : State :=
  match findZone tower.ze (.p 0) 1 with
  | some z => tower.modZe (ZE.putZone { z with state := state, lastInput := last, window := window })
  | none => tower

/-- The tower in GENERAL by request. -/
def general : State := tower.modRc (fun r => { r with level := .general })

/-- The tower with a slot in progress at a node. -/
def withSlot (port : Line) (address : Nat) (c : Carried) : State :=
  tower.modFlc (FLC.modPort port (fun p => { p with slot := some ⟨address, c, true⟩ }))

/-! ## WellFormed refuses -/

theorem test_wf_payload : (Instr.readRegime 0 (List.replicate 249 0)).wf = false := by decide +kernel
theorem test_wf_recordForm : (Instr.readAnnouncementRecord 0 [1, 0]).wf = false := by decide
theorem test_wf_poolForm : (Instr.readAnnouncementPool 0 [2, 0]).wf = false := by decide
theorem test_wf_floorForm : (Instr.readAnnouncementFloor 0 [0, 0]).wf = false := by decide
theorem test_wf_fireOn : (Instr.fireServiceOn 0 [0, 0]).wf = false := by decide
theorem test_wf_fireOff : (Instr.fireServiceOff 0 [0, 1]).wf = false := by decide
theorem test_wf_restartWarm : (Instr.restartWarm 0 [1]).wf = false := by decide
theorem test_wf_restartCold : (Instr.restartCold 0 [0]).wf = false := by decide
theorem test_wf_assignedKind : (Instr.unknownKind 0x1C 0 []).wf = false := by decide
theorem test_wf_zoneLink : (Instr.windowExpiry (.g 0) 0).wf = false := by decide
theorem test_wf_localZone : (Instr.windowExpiry .l 4).wf = false := by decide
theorem test_wf_stair : (Instr.drainExpiry 4).wf = false := by decide
theorem test_wf_car : (Instr.retryExpiry 16).wf = false := by decide
theorem test_wf_point : (Instr.dwellExpired 160).wf = false := by decide
theorem test_wf_channel : (Instr.playOverrun 8).wf = false := by decide
theorem test_wf_port : (Instr.slotStart .l).wf = false := by decide
theorem test_wf_fieldPayload (p : List Byte) (h : p.length = 65536) : (Instr.quiet .a 1 0 p).wf = false := by
  simp [Instr.wf, fieldPayloadFits, h]

/-! ## The spec's own figures -/

/-- The published check values of the two polynomials of R187 over the nine characters 1 to 9. -/
theorem test_crc16 : crc16 [0x31, 0x32, 0x33, 0x34, 0x35, 0x36, 0x37, 0x38, 0x39] = 0x29B1#16 := by decide +kernel
theorem test_crc32 : crc32 [0x31, 0x32, 0x33, 0x34, 0x35, 0x36, 0x37, 0x38, 0x39] = 0xCBF43926#32 := by decide +kernel

/-- R56: O = 130 and w = 60 gives 78; O = 75 and w = 50 gives 38. -/
theorem test_shares : primaryShare 130 60 = 78 ∧ primaryShare 75 50 = 38 := by decide

/-- R61: the table for a flow of 45 from a load of 331: 324 with credit 3, then 316 with credit 0. -/
theorem test_drain :
    let st : Stair := ⟨true, 45, 300, 180, 331, 0, .congested, false, false, some 0⟩
    ((drainedStair st).load, (drainedStair st).credit, (drainedStair (drainedStair st)).load) = (324, 3, 316) := by decide

/-- Chapter 03, worked case: 289 is not at or below 250 after a drain of 10; 259 is, and the stair is AVAILABLE. -/
theorem test_reopen :
    let st : Stair := ⟨true, 60, 400, 250, 259, 0, .congested, false, false, some 0⟩
    (reopenedStair (drainedStair st)).cond = .available := by decide

/-- Chapter 09, worked sequence: high watermark 300 and low watermark 320 are clamped to a low watermark of 299. -/
theorem test_clampStair : (clampStair ⟨true, 60, 300, 320⟩).low = 299 := by decide

/-- R182: records whose in-use flag is clear are clamped too, and each landing-map entry changed is named. -/
theorem test_clampUnused : clampCar ⟨false, 9, 20⟩ = ⟨false, 3, 15⟩ ∧
    diffGroup ⟨false, 1, [some 0, some 128], 0, 0⟩ (clampGroup 2 ⟨false, 1, [some 0, some 128], 0, 0⟩) = [2, 2] := by decide

/-- R51: the candidates around floor 17 of 32: 18, 16, 19 to 31, 15 down to 1 (and 0). -/
theorem test_candidates : (candidates 32 17).take 4 = [18, 16, 19, 20] ∧ (candidates 32 17).length = 31 := by
  decide +kernel

/-- R189: absent fields are FF, and the floor set of floor 9 has bit 9. -/
theorem test_codes : optByte none = 0xFF#8 ∧ floorSetBytes (addBit 0 9) = [0, 2, 0, 0, 0, 0, 0, 0] := by decide +kernel

/-- R188: a READ_REGIME frame of tag 7: A5, 2, kind 01, tag 07 and two check bytes. -/
theorem test_frame : (requestBytes 0x01#8 0x07#8 []).take 4 = [0xA5#8, 2, 1, 7] ∧
    (requestBytes 0x01#8 0x07#8 []).length = 6 := by decide +kernel

/-- R115: a module that is down already keeps what replies in TRAINING gave its points, and is reported with no point. -/
theorem test_downAlready :
    let a : DAcc := ⟨(tower.modDs (DS.modDoors (fun _ => true) (fun d => { d with sensed := .isOpen }))).ds, []⟩
    let b := a.moduleDown (.d 0) 5
    b.st.doors.map (·.sensed) = [.isOpen] ∧ b.out = [.report .trouble (.moduleDown (.d 0) 5 0 0)] := by decide +kernel

/-- R96: RECALL_GROUP while NODE_DOWN stands takes no cache hit, though a reply in TRAINING showed the car parked. -/
theorem test_recallWhileDown : ∀ down : Bool,
    let s := tower.modLc (fun x => { x with
      groups := x.groups.map (fun g => { g with down := down })
      cars := x.cars.map (fun c => { c with service := .auto, cache := some ⟨1, some 0, .still, .isOpen, .parked⟩ }) })
    (after (exec (.recallGroup 1 [0]) s)).lc.cars.map (fun c => (c.service, c.cmdState)) =
      [if down then (.recalling, .sent) else (.recalled, .accepted)] := by decide +kernel

/-- R7, R47: the ALARM that finds the FALLBACK table full is reported by a ZONE_EVENT ahead of the entry to GENERAL. -/
theorem test_confirmWithoutRecord :
    let t := confirmWithoutRecord (.p 0) 9 State.reset
    let z : Zone := { madeZone (.p 0) 9 with state := .confirmed, lastInput := some .alarm }
    t.rc.level = .general ∧ t.ze.zones = [] ∧ t.rc.trouble.zones = 0 ∧
      (t.sp.reports[1]?).map (·.body) = some (.zone .arrival z (labelOfNumber 0)) := by decide +kernel

/-- R97: the group report first, then the car reports in car order; a report of another block keeps its place. -/
theorem test_liftOrder :
    let car (n : Nat) : Report := ⟨.routine, 0, .car (bootCar n 0 n) none⟩
    let group : Report := ⟨.routine, 0, .group (.recallEnded .host) 0 none⟩
    eventOrdered [car 3, resetPowerOnReport, car 1, group] = [group, resetPowerOnReport, car 1, car 3] := by
  decide +kernel

/-- R97, R161: the NODE_EVENT of an entry to LIVE goes ahead of every CAR_EVENT of its event. -/
theorem test_liftOrderAtNodeUp :
    let car (n : Nat) : Report := ⟨.routine, 0, .car (bootCar n 0 n) none⟩
    let node : Report := ⟨.routine, 0, .node .nodeUp (bootNode (fun _ => []) (.g 0) 1)⟩
    eventOrdered [car 3, resetPowerOnReport, node, car 1] = [resetPowerOnReport, node, car 1, car 3] := by decide +kernel

/-- R189: a door's floor without record has an absent label. -/
theorem test_absentLabel : labelOf tower.rc.floors 3 = [0xFF, 0xFF, 0xFF, 0xFF] := by decide +kernel

/-! ## Single commands -/

theorem test_tick : (after (exec .secondCountTick
    (tower.modRc (fun r => { r with secondCount := 0xFFFFFFFF#32 })))).rc.secondCount = 0 := by decide +kernel

theorem test_readRegime : newestReply (after (exec (.readRegime 3 []) tower)) =
    some (queryReply 0x81#8 3 (regimeContent tower)) := by decide +kernel

theorem test_resetInNormal : newestReply (after (exec (.resetRegime 3 []) tower)) =
    some (refusal 0x89#8 3 .regimeQuiet) := by decide +kernel

/-- R12: START_GENERAL from NORMAL puts every floor into EVAC and recalls every group. -/
theorem test_startGeneral : let s := after (exec (.startGeneral 3 []) tower)
    s.rc.level = .general ∧ s.rc.floors.map (·.state) = [.evac, .evac, .evac] ∧ s.lc.groups.map (·.active) = [true] ∧
      s.rc.commonAlarm = true := by decide +kernel

/-- R113, R157: GENERAL entry asks for the broadcast on the loop that has a node. -/
theorem test_broadcast : (findPort (after (exec (.startGeneral 3 []) tower)).flc.ports (.d 0)).map (·.broadcast) =
    some true := by decide +kernel

theorem test_occupancy : ((after (exec (.setOccupancy 3 [0, 0xD1, 0x07]) tower)).rc.floors[0]?).map (·.occupancy) =
    some 2000 := by decide +kernel

/-- R44: a level that stands until the debounce timer expires is delivered, and the alarm of a local zone without verify
confirms it: the regime is entered at PHASED. -/
theorem test_localAlarm :
    let s := run [.localLineChange 0 .high, .debounceExpiry 0] tower
    s.rc.level = .phased ∧ s.rc.origins = [1] := by decide +kernel

/-- R59: the origin floor's shares: 130 people, 60 percent to stair 0. -/
theorem test_originShares :
    let s := after (exec (.changes (.p 0) 1 0 [1, 1, 1]) (withSlot (.p 0) 1 .poll))
    s.es.stairs.map (·.load) = [78, 52, 0, 0] ∧ s.rc.floors.map (·.state) = [.evac, .evac, .alert] := by decide +kernel

/-- R33: an ALARM of a zone with verify opens a window of 60 s and offers RESET_DETECTORS. -/
theorem test_verify :
    let s := after (exec (.changes (.p 0) 1 0 [1, 2, 1]) (withSlot (.p 0) 1 .poll))
    (findZone s.ze (.p 0) 2).map (fun z => (z.state, z.window)) = some (.verifying, some ⟨60, false, false⟩) ∧
      (findNode s.flc.nodes (.p 0) 1).map (·.actions) = some [.resetDetectors 2] := by decide +kernel

/-- R155: a CHANGES reply to a POLL toggles the sequence bit; a QUIET reply leaves it. -/
theorem test_sequenceBit :
    (findNode (after (exec (.changes (.p 0) 1 0 [1, 2, 0]) (withSlot (.p 0) 1 .poll))).flc.nodes (.p 0) 1).map (·.seqBit) =
      some true ∧
    (findNode (after (exec (.quiet (.p 0) 1 0 []) (withSlot (.p 0) 1 .poll))).flc.nodes (.p 0) 1).map (·.seqBit) =
      some false := by decide +kernel

/-- R150: a reply of another node's address is discarded. -/
theorem test_otherAddress : (after (exec (.quiet (.p 0) 2 0 []) (withSlot (.p 0) 1 .poll))).flc =
    (withSlot (.p 0) 1 .poll).flc := by decide +kernel

/-- R171: with 7 entries free a ROUTINE report is refused and sets the lost marker; with 8 it is taken. -/
theorem test_routineRefused : takesReport .routine 57 = false ∧ takesReport .routine 56 = true ∧
    takesReport .alarm 63 = true ∧ takesReport .trouble 64 = false := by decide

/-- R163: the length byte 1 and the length byte 251 return the receiver to HUNTING. -/
theorem test_lengthByte :
    (run [.byteReceived 0xA5, .byteReceived 1] tower).sp.rx = huntingReceiver ∧
    (run [.byteReceived 0xA5, .byteReceived 251] tower).sp.rx = huntingReceiver ∧
    (run [.byteReceived 0xA5, .byteReceived 250] tower).sp.rx = ⟨.body, 250, [], none⟩ := by decide +kernel

/-- R172: a frame that comes before the expiry is handled makes it no longer due. -/
theorem test_silenceOvertaken :
    let s := run [.unknownKind 0xFF 0 [], .hostSilent] (tower.modSp (fun p => { p with silence := some 0 }))
    s.sp.hostSilent = false ∧ s.sp.silence = some 30 := by decide +kernel

/-- R174: the restart reply, once sent, makes the restart due. -/
theorem test_restartDue : (run [.restartWarm 3 [0], .frameSent] tower).sp.restartDue = true := by decide +kernel

/-- R185: an alarm ends an open session. -/
theorem test_sessionAborted : (after (exec (.changes (.p 0) 1 0 [1, 1, 1])
    ((withSlot (.p 0) 1 .poll).modCs (fun c => { c with staged := some image })))).cs.staged = none := by decide +kernel

/-- R122, R135: the first announcement has id 1 and is granted a channel at once. -/
theorem test_announce :
    let s := after (exec (.announce 3 [2, 0, 2, 1]) tower)
    newestReply s = some ⟨0x94#8, 3, .done, none, .recordId 1⟩ ∧ s.ar.records.map (·.state) = [.playing] := by
  decide +kernel

/-! ## Witnesses: the premises of the statements can be met -/

theorem noReplies {s : State} (h : s.sp.replies = []) : s.sp.replies.length < 8 := by simp [h]

theorem tower_answers : tower.answers := ⟨rfl, rfl, by decide⟩
theorem general_answers : general.answers := ⟨rfl, rfl, by decide⟩

theorem test_witness_StepIdlesOneSecond : (∃ s : State, s.pending = [] ∧ s.powered = false) ∧
    ∃ s : State, s.pending = [] ∧ s.powered = true ∧ s.sp.silence = some 30 :=
  ⟨⟨{ tower with powered := false }, rfl, rfl⟩, tower, rfl, rfl, rfl⟩

theorem test_witness_QueueUntouched : ∃ (c : Instr) (s t : State), exec c s = .next t ∧ s.pending ≠ [] :=
  ⟨.forcedAdvance, { tower with pending := [.powerOn] }, _, rfl, by decide⟩

theorem test_witness_SecondCountRule : ∃ (c : Instr) (s t : State), s.powered = true ∧ c ≠ .powerOn ∧
    c ≠ .secondCountTick ∧ exec c s = .next t := ⟨.frameSent, tower, _, rfl, by decide, by decide, rfl⟩

/-- One state with a command in its queue meets the premises of every invariant. -/
def queued : State := { tower with pending := [.startGeneral 1 []] }

theorem test_witness_PortListsKept : ∃ s t : State, s.QueueBounded ∧ s.RepliesBounded ∧ step s = .next t :=
  ⟨queued, _, by unfold State.QueueBounded; decide, by unfold State.RepliesBounded; decide, rfl⟩

theorem test_witness_CommonAlarmKept : ∃ s t : State, s.AlarmAgrees ∧ step s = .next t :=
  ⟨queued, _, by unfold State.AlarmAgrees; decide +kernel, rfl⟩

theorem test_witness_TroubleLineKept : ∃ s t : State, s.TroubleAgrees ∧ step s = .next t :=
  ⟨queued, _, by unfold State.TroubleAgrees; decide +kernel, rfl⟩

theorem test_witness_LockoutKept : ∃ s t : State, s.LockoutAgrees ∧ step s = .next t :=
  ⟨queued, _, by unfold State.LockoutAgrees; decide +kernel, rfl⟩

theorem test_witness_OriginListKept : ∃ s t : State, s.OriginsSound ∧ step s = .next t :=
  ⟨queued, _, by unfold State.OriginsSound; decide +kernel, rfl⟩

theorem test_witness_RangesKept : ∃ s t : State, s.NodesBounded ∧ s.StairsBounded ∧ step s = .next t :=
  ⟨queued, _, by unfold State.NodesBounded; decide +kernel, by unfold State.StairsBounded; decide +kernel, rfl⟩

theorem tower_keys : tower.KeysDistinct := by unfold State.KeysDistinct; decide +kernel
theorem tower_cars : tower.CarsDistinct := by unfold State.CarsDistinct; decide +kernel
theorem tower_records : tower.RecordsSound := by unfold State.RecordsSound; decide +kernel

/-- Floors without claims and records without floors are in order. -/
theorem claims_of {s : State} (hl : s.ar.claims.length = s.rc.floors.length)
    (hc : ∀ c ∈ s.ar.claims, c.owner = none ∧ c.stack = []) (hr : ∀ r ∈ s.ar.records, r.owned = 0) : s.ClaimsSound := by
  refine ⟨hl, fun c h => ?_, fun f c _ h r m => ?_⟩
  · obtain ⟨ho, hs⟩ := hc c h
    exact ⟨by simp [hs], by simp [hs], by simp [ho], by simp [ho, hs]⟩
  · simp [hr r m, (hc c (List.mem_of_getElem? h)).1, hasBit]

theorem tower_claims : tower.ClaimsSound := claims_of (by decide +kernel) (by decide +kernel) nofun

theorem tower_pool : tower.PoolSound := by
  have hn : ∀ c ∈ tower.ar.channels, c.holder = none := by decide +kernel
  have hr : ∀ {P : Rec → Prop}, ¬∃ r ∈ tower.ar.records, P r := fun ⟨_, h, _⟩ => nomatch h
  refine ⟨fun n id => ⟨fun ⟨c, hc, h⟩ => ?_, fun h => absurd h hr⟩, by decide +kernel, by decide, fun id =>
    ⟨fun h => (nomatch h), fun h => absurd h hr⟩⟩
  simp [hn c (List.mem_of_getElem? hc)] at h

/-- The tower with a session open on the default image. -/
def shaped : State := { queued with cs := ⟨.holds defaultImage 0, some defaultImage, false, none⟩ }

theorem defaultImage_shaped : ImageShaped defaultImage := by constructor <;> decide +kernel

theorem test_witness_TableKeysKept : (∃ s t : State, s.KeysDistinct ∧ s.CarsDistinct ∧ s.RecordsSound ∧ step s = .next t) ∧
    ∃ s t : State, s.ImagesShaped ∧ step s = .next t :=
  ⟨⟨queued, _, tower_keys, tower_cars, tower_records, rfl⟩,
    shaped, _, ⟨fun | _, _, rfl => defaultImage_shaped, fun | _, rfl => defaultImage_shaped⟩, rfl⟩

/-- Latches at LOCK are required where nothing asks for RELEASE. -/
theorem latches_of {s : State} (hd : ∀ d ∈ s.ds.doors, d.drive = .lock ∧ d.floor = 0 ∧ d.normal = .secure)
    (hl : s.rc.level = .normal) (hf : ∀ fl ∈ s.rc.floors, fl.state ≠ .evac)
    (hm : s.ds.manual = List.replicate 4 0) : s.LatchesRequired := by
  intro d h
  obtain ⟨h1, h2, h3⟩ := hd d h
  simp only [h1, h2, h3, hl, reduceCtorEq, false_and, false_or, or_false, false_iff, not_or, not_exists, not_and]
  exact ⟨fun fl e => hf fl (List.mem_of_getElem? e), fun set e => by
    obtain ⟨-, rfl⟩ := List.mem_replicate.mp (hm ▸ List.mem_of_getElem? e)
    simp [hasBit]⟩

theorem queued_latches : queued.LatchesRequired :=
  latches_of (by decide +kernel) rfl (by decide +kernel) rfl

theorem test_witness_DoorLatchesKept : ∃ s t : State, s.KeysDistinct ∧ s.LatchesRequired ∧ s.OutputsAgree ∧
    step s = .next t :=
  ⟨queued, _, tower_keys, queued_latches,
    by unfold State.OutputsAgree; decide +kernel, rfl⟩

theorem test_witness_AnnouncementTablesKept : ∃ s t : State, s.RecordsSound ∧ s.ClaimsSound ∧ s.PoolSound ∧
    step s = .next t := ⟨queued, _, tower_records,
    ⟨tower_claims.floors, tower_claims.ordered, tower_claims.owners⟩,
    ⟨tower_pool.held, tower_pool.counted, tower_pool.once, tower_pool.waiting⟩, rfl⟩

/-- The tower with a session open and its store write in flight. -/
def writing : State := tower.modCs (fun c => { c with staged := some image, writing := some 7 })

theorem test_witness_PowerOnLoads : (∃ s : State, s.cs.writing.isSome = true) ∧
    (∃ s : State, loadedTables s.cs.store = none ∧ s.cs.writing = none) ∧
    ∃ (s : State) (i : Image), s.cs.store = .holds i (imageCheck i) ∧ s.cs.writing = none :=
  ⟨⟨writing, rfl⟩, ⟨State.reset, rfl, rfl⟩, { tower with cs := ⟨.holds image (imageCheck image), none, false, none⟩ }, image,
    rfl, rfl⟩

theorem test_witness_LossOfPowerRule : (∃ s : State, s.powered = true ∧ s.cs.writing.isSome = true) ∧
    (∃ s : State, s.powered = true ∧ s.cs.writing = none) ∧
    ∃ (c : Instr) (s : State), s.powered = false ∧ c ≠ .powerOn :=
  ⟨⟨writing, rfl, rfl⟩, ⟨tower, rfl, rfl⟩, .lossOfPower, { tower with powered := false }, rfl, by decide⟩

theorem writing_answers : writing.answers := ⟨rfl, rfl, by decide⟩

theorem test_witness_RestartAccepted : (∃ s : State, s.answers ∧ s.cs.writing = none ∧ s.rc.level = .normal) ∧
    (∃ s : State, s.answers ∧ s.cs.writing = none ∧ s.rc.level ≠ .normal) ∧
    ∃ s : State, s.answers ∧ s.cs.writing.isSome = true :=
  ⟨⟨tower, tower_answers, rfl, rfl⟩, ⟨general, general_answers, rfl, by decide⟩, writing, writing_answers, rfl⟩

/-- The tower with a restart pending, due or not. -/
def restarting (form : RestartForm) (due : Bool) : State :=
  tower.modSp (fun p => { p with restart := some form, restartDue := due })

theorem test_witness_WarmRestartRule : ∃ s : State, s.powered = true ∧ s.sp.restart = some .warm ∧
    s.sp.restartDue = true := ⟨restarting .warm true, rfl, rfl, rfl⟩

theorem test_witness_ColdRestartRule : ∃ s : State, s.powered = true ∧ s.sp.restart = some .cold ∧
    s.sp.restartDue = true := ⟨restarting .cold true, rfl, rfl, rfl⟩

theorem test_witness_ByteReceptionIsFrame : ∃ (i : Instr) (kind tag : Byte) (payload : List Byte) (s : State),
    frameCommand i = some (kind, tag, payload) ∧ i.wf = true ∧ s.powered = true ∧ s.sp.rx = huntingReceiver ∧
      s.ev = Scratch.clear ∧ s.sp.replies = [] ∧ s.sp.reports = [] :=
  ⟨.setOccupancy 3 [0, 1, 0], 0x0C#8, 3, [0, 1, 0], tower, rfl, by decide, rfl, rfl, rfl, rfl, rfl⟩

/-- The tower with its receiver as given. -/
def receiving (r : Receiver) : State := tower.modSp (fun p => { p with rx := r })

theorem test_witness_ReceiverTable :
    (∃ s : State, s.powered = true ∧ s.sp.rx.state = .hunting) ∧ (∃ s : State, s.powered = true ∧ s.sp.rx.state = .length) ∧
    (∃ s : State, s.powered = true ∧ s.sp.rx.state = .body ∧ s.sp.rx.body.length + 1 = s.sp.rx.expected) ∧
    (∃ s : State, s.powered = true ∧ s.sp.rx.state = .check ∧ s.sp.rx.check = none) ∧
    ∃ s : State, s.powered = true ∧ s.sp.rx.state = .check ∧ s.sp.rx.check.isSome = true :=
  ⟨⟨tower, rfl, rfl⟩, ⟨receiving ⟨.length, 0, [], none⟩, rfl, rfl⟩, ⟨receiving ⟨.body, 2, [1], none⟩, rfl, rfl, rfl⟩,
    ⟨receiving ⟨.check, 2, [1, 7], none⟩, rfl, rfl, rfl⟩, receiving ⟨.check, 2, [1, 7], some 0⟩, rfl, rfl, rfl⟩

theorem test_witness_DiscardsAreSilent : ∃ s : State, s.powered = true ∧ s.sp.rx.state = .check ∧
    (s.modSp (fun p => { p with tx := some (.report resetPowerOnReport false) })).sp.tx.isSome = true :=
  ⟨receiving ⟨.check, 2, [1, 7], none⟩, rfl, rfl, rfl⟩

theorem test_witness_FrameTestsRule :
    (∃ (s : State) (kind : Byte), s.powered = true ∧ s.sp.replies.length < 8 ∧ assignedKind kind = false) ∧
    (∃ kind : Byte, kind = 0x1D ∧ assignedKind kind = false) ∧
    ∃ (i : Instr) (s : State) (kind tag : Byte) (payload : List Byte) (n : Nat),
      frameCommand i = some (kind, tag, payload) ∧ s.powered = true ∧ s.sp.replies.length < 8 ∧
        (kind.toNat, n) = (28, 0) ∧ payload.length ≠ n :=
  ⟨⟨tower, 0, rfl, by decide, by decide⟩, ⟨_, rfl, by decide⟩,
    .abandonCommission 3 [0], tower, 0x1C#8, 3, [0], 0, rfl, rfl, by decide, rfl, by decide⟩

/-- The tower with eight replies waiting behind a report that is being sent. -/
def crowded : State := tower.modSp (fun p =>
  { p with replies := List.replicate 8 (plainReply 0x81#8 0 .done), tx := some (.report resetPowerOnReport false) })

theorem test_witness_TurnedAwayRule :
    (∃ (i : Instr) (s : State) (kind tag : Byte) (payload : List Byte), frameCommand i = some (kind, tag, payload) ∧
      s.powered = true ∧ s.sp.replies.length < 8 ∧ s.sp.restart.isSome = true) ∧
    ∃ (i : Instr) (s : State) (kind tag : Byte) (payload : List Byte), frameCommand i = some (kind, tag, payload) ∧
      s.powered = true ∧ s.sp.replies.length = 8 ∧ s.sp.tx.isSome = true :=
  ⟨⟨.readRegime 3 [], restarting .warm false, 1, 3, [], rfl, rfl, by decide, rfl⟩,
    .readRegime 3 [], crowded, 1, 3, [], rfl, rfl, rfl, rfl⟩

theorem test_witness_HostSilenceRule : (∃ s : State, s.powered = true ∧ s.sp.silence = some 0) ∧
    (∃ s : State, s.powered = true ∧ s.sp.silence = some 1) ∧ (∃ s : State, s.powered = true ∧ s.sp.silence = none) ∧
    ∀ set : Bool, ∃ (i : Instr) (s : State) (kind tag : Byte) (payload : List Byte),
      frameCommand i = some (kind, tag, payload) ∧ s.powered = true ∧ s.sp.hostSilent = set :=
  ⟨⟨tower.modSp (fun p => { p with silence := some 0 }), rfl, rfl⟩,
    ⟨tower.modSp (fun p => { p with silence := some 1 }), rfl, rfl⟩,
    ⟨tower.modSp (fun p => { p with silence := none }), rfl, rfl⟩,
    fun set => ⟨.readRegime 3 [], tower.modSp (fun p => { p with hostSilent := set }), 1, 3, [], rfl, rfl, rfl⟩⟩

/-- The tower with a frame being sent. -/
def sending (f : TxFrame) : State := tower.modSp (fun p => { p with tx := some f })

theorem test_witness_TransmitterOrder :
    (∃ (s : State) (f : TxFrame) (r : Reply) (rs : List Reply), s.powered = true ∧ s.sp.tx = some f ∧
      s.sp.replies = r :: rs) ∧
    (∃ (s : State) (f : TxFrame) (r : Report) (rs : List Report), s.powered = true ∧ s.sp.tx = some f ∧
      s.sp.replies = [] ∧ s.sp.reports = r :: rs) ∧
    (∃ (s : State) (f : TxFrame), s.powered = true ∧ s.sp.tx = some f ∧ s.sp.replies = [] ∧ s.sp.reports = [] ∧
      ∀ r, f = .reply r → r.kind = 0x98#8 → r.status ≠ .done) ∧
    ∃ (s : State) (r : Reply), s.powered = true ∧ s.sp.tx = some (.reply r) ∧ r.kind = 0x98#8 ∧ r.status = .done ∧
      s.sp.restart.isSome = true :=
  ⟨⟨crowded, .report resetPowerOnReport false, _, _, rfl, rfl, rfl⟩,
    ⟨(sending (.report resetPowerOnReport true)).modSp (fun p => { p with reports := [resetPowerOnReport] }), _, _, _, rfl,
      rfl, rfl, rfl⟩,
    ⟨sending (.report resetPowerOnReport false), _, rfl, rfl, rfl, rfl, fun r h => by cases h⟩,
    (sending (.reply (plainReply 0x98#8 3 .done))).modSp (fun p => { p with restart := some .warm }),
    plainReply 0x98#8 3 .done, rfl, rfl, rfl, rfl, rfl⟩

theorem test_witness_QueriesAnswered : ∃ (s : State) (a b : Byte), s.answers ∧ a.toNat ≤ 63 ∧ b.toNat ≤ 63 ∧
    ∃ k : Line, k.code = a.toNat ∧ k ≠ .l :=
  ⟨tower, 0, 63, tower_answers, by decide, by decide, .p 0, rfl, by decide⟩

/-- The tower in GENERAL with one zone record of P0, number 1, as given. -/
def generalZone (state : ZoneState) (last : Option Input) (window : Option Window) : State :=
  { general with ze := (withZone state last window).ze }

theorem test_witness_ResetRegimeRule : (∃ s : State, s.answers ∧ s.rc.level = .normal) ∧
    (∃ s : State, s.answers ∧ s.rc.level ≠ .normal ∧ s.rc.resetPending = true) ∧
    ∀ (st : ZoneState) (i : Input), ∃ (s : State) (z : Zone), s.answers ∧ s.rc.level ≠ .normal ∧
      s.rc.resetPending = false ∧ findZone s.ze (.p 0) 1 = some z ∧ z.state = st ∧ z.lastInput = some i :=
  ⟨⟨tower, tower_answers, rfl⟩,
    ⟨general.modRc (fun r => { r with resetPending := true }), ⟨rfl, rfl, by decide⟩, by decide, rfl⟩,
    fun st i => ⟨generalZone st (some i) none, _, ⟨rfl, rfl, noReplies rfl⟩, nofun, rfl, rfl, rfl, rfl⟩⟩

theorem test_witness_StartGeneralRule :
    (∃ (s : State) (p q : PortRec) (m : Module), s.answers ∧ s.rc.level = .normal ∧ s.KeysDistinct ∧
      findPort s.flc.ports (.d 0) = some p ∧ (∃ n ∈ s.flc.nodes, n.port = .d 0 ∧ n.port = m.loop ∧
        n.address = m.address ∧ ∃ x ∈ n.images, x.name = .outputs) ∧ m ∈ s.ds.modules ∧
      findPort s.flc.ports (.d 1) = some q ∧ ∀ n ∈ s.flc.nodes, n.port ≠ .d 1) ∧
    ∃ s : State, s.answers ∧ s.rc.level = .general :=
  ⟨⟨tower, _, _, _, tower_answers, rfl, tower_keys, rfl, ⟨_, List.mem_of_getElem? (i := 2) rfl, rfl, rfl, rfl, _,
    List.mem_cons_self, rfl⟩, List.mem_cons_self, rfl, by decide +kernel⟩, general, general_answers, rfl⟩

/-- The tower in PHASED with every floor in ALERT and floor 0 pending. -/
def phased : State :=
  (tower.modRc (fun r => { r with level := .phased, floors := r.floors.map (fun f => { f with state := .alert }) })).modEs
    (fun x => { x with waiting := [0], advanceTimer := some 0 })

theorem test_witness_EvacuateFloorsRule : (∃ s : State, s.answers ∧ s.rc.level = .normal) ∧
    (∃ (s : State) (lo hi : Byte), s.answers ∧ lo.toNat ≤ 63 ∧ hi.toNat ≤ 63 ∧ s.rc.level ≠ .normal ∧
      hi.toNat < lo.toNat) ∧
    ∃ (s : State) (lo hi : Byte) (fl : Floor), s.answers ∧ lo.toNat ≤ 63 ∧ hi.toNat ≤ 63 ∧ s.rc.level ≠ .normal ∧
      lo.toNat ≤ hi.toNat ∧ s.rc.floors[0]? = some fl ∧ fl.state = .alert ∧ 0 ∈ s.es.waiting :=
  ⟨⟨tower, tower_answers, rfl⟩, ⟨phased, 63, 62, ⟨rfl, rfl, by decide⟩, by decide, by decide, by decide, by decide⟩,
    phased, 0, 63, _, ⟨rfl, rfl, by decide⟩, by decide, by decide, by decide, by decide, rfl, rfl, by decide⟩

theorem test_witness_SetOccupancyRule : (∃ (s : State) (f : Byte), s.answers ∧ f.toNat ≤ 63 ∧
      s.rc.floors.length = f.toNat) ∧
    (∃ (s : State) (f : Byte) (fl : Floor), s.answers ∧ f.toNat ≤ 63 ∧ s.rc.floors[f.toNat]? = some fl ∧
      fl.egress = .none) ∧
    ∃ (s : State) (f v0 v1 : Byte) (fl : Floor), s.answers ∧ f.toNat ≤ 63 ∧ s.rc.floors[f.toNat]? = some fl ∧
      fl.egress ≠ .none ∧ v0.toNat + 256 * v1.toNat = 2001 :=
  ⟨⟨tower, 3, tower_answers, by decide, rfl⟩, ⟨tower, 2, _, tower_answers, by decide, rfl, rfl⟩,
    tower, 0, 0xD1, 0x07, _, tower_answers, by decide, rfl, by decide, by decide⟩

theorem withZone_answers (st : ZoneState) (i : Option Input) (w : Option Window) : (withZone st i w).answers :=
  ⟨rfl, rfl, noReplies rfl⟩

theorem test_witness_DisableZoneRule : (∃ (s : State) (b : Byte), s.answers ∧ findZone s.ze (.p 0) b.toNat = none) ∧
    ∀ st : ZoneState, ∃ (s : State) (a b : Byte) (z : Zone), s.answers ∧ (Line.p 0).code = a.toNat ∧
      findZone s.ze (.p 0) b.toNat = some z ∧ z.state = st :=
  ⟨⟨tower, 9, tower_answers, rfl⟩, fun st => ⟨withZone st none none, 0, 1, _, withZone_answers _ _ _, rfl, rfl, rfl⟩⟩

/-- Zone 1 of P0 DISABLED with its link up, and zone 2 of the same floor in the given state. -/
def enabling (i : Input) (verify : Bool) (other : ZoneState) : State :=
  (zonesUp (.p 0) (withZone .disabled (some i) none)).modZe (fun x => { x with zones := x.zones.map (fun z =>
    if z.number = 2 then { z with state := other } else { z with verify := verify }) })

theorem test_witness_EnableZoneRule : (∃ (s : State) (b : Byte), s.answers ∧ findZone s.ze (.p 0) b.toNat = none) ∧
    (∃ (s : State) (z : Zone), s.answers ∧ findZone s.ze (.p 0) 1 = some z ∧ z.state ≠ .disabled) ∧
    (∃ (s : State) (z : Zone), s.answers ∧ findZone s.ze (.p 0) 1 = some z ∧ z.state = .disabled ∧
      (linkRec s.ze (.p 0)).up = false) ∧
    ∀ (i : Input) (verify known : Bool), ∃ (s : State) (z : Zone) (fl : Floor), s.answers ∧
      findZone s.ze (.p 0) 1 = some z ∧ z.state = .disabled ∧ (linkRec s.ze (.p 0)).up = true ∧ z.lastInput = some i ∧
      z.verify = verify ∧ corroborated s.ze.zones z = known ∧ s.rc.floors[z.floor]? = some fl := by
  refine ⟨⟨tower, 9, tower_answers, rfl⟩, ⟨tower, _, tower_answers, rfl, by decide⟩,
    ⟨withZone .disabled none none, _, withZone_answers _ _ _, rfl, rfl, rfl⟩, fun i v k => ?_⟩
  refine ⟨enabling i v (if k then .confirmed else .normal), _, _, ⟨rfl, rfl, noReplies rfl⟩, rfl, rfl, rfl, rfl, rfl, ?_, rfl⟩
  cases k <;> rfl

/-- Line 0 with its debounce timer running and the opposite level delivered; zone 0 of L is ALARM_HIGH. -/
def settling (pin delivered : LineLevel) : State :=
  tower.modZe (ZE.modLine 0 (fun _ => { pin := pin, delivered := some delivered, debouncing := true }))

theorem test_witness_LocalLineRule :
    (∃ (s : State) (x : LocalLine), s.powered = true ∧ s.ze.lines[3]? = some x ∧ x.debouncing = true) ∧
    (∃ (s : State) (x : LocalLine), s.powered = true ∧ s.ze.lines[0]? = some x ∧ x.debouncing = false ∧ x.pin = .low) ∧
    (∃ (s : State) (x : LocalLine), s.powered = true ∧ s.ze.lines[0]? = some x ∧ x.debouncing = true ∧
      x.delivered = some x.pin) ∧
    ∀ v : LineLevel, ∃ (s : State) (x : LocalLine) (z : Zone), s.powered = true ∧ s.ze.lines[0]? = some x ∧
      x.debouncing = true ∧ x.pin = v ∧ x.delivered ≠ some x.pin ∧ findZone s.ze .l 0 = some z ∧
      z.polarity = some .alarmHigh ∧ z.state = .unknown :=
  ⟨⟨tower, _, rfl, rfl, rfl⟩, ⟨after (exec (.debounceExpiry 0) tower), _, by decide +kernel, rfl, rfl, rfl⟩,
    ⟨settling .high .high, _, rfl, rfl, rfl, rfl⟩,
    fun v => match v with
      | .high => ⟨settling .high .low, _, _, rfl, rfl, rfl, rfl, nofun, rfl, rfl, rfl⟩
      | .low => ⟨settling .low .high, _, _, rfl, rfl, rfl, rfl, nofun, rfl, rfl, rfl⟩⟩

theorem test_witness_WindowExpiryRule : ∀ (i : Input) (lost : Bool) (d : Nat), ∃ (s : State) (z : Zone) (w : Window),
    s.powered = true ∧ findZone s.ze (.p 0) 1 = some z ∧ z.state = .verifying ∧ z.window = some w ∧ z.lastInput = some i ∧
      w.linkLost = lost ∧ w.deadline = d ∧ s.rc.resetPending = false :=
  fun i lost d => ⟨withZone .verifying (some i) (some ⟨d, false, lost⟩), _, _, rfl, rfl, rfl, rfl, rfl, rfl, rfl, rfl⟩

/-- The tower in PHASED with stair 0 of the given condition and load, its drain timer at the given figure, and the given
pending list. -/
def drained (cond : StairCond) (load timer : Nat) (waiting : List Nat) : State :=
  phased.modEs (fun x =>
    { ES.modStair 0 (fun st => { st with load := load, cond := cond, drainTimer := some timer }) x with waiting := waiting })

/-- The boundary of R63: after a drain of 10 a load of 160 stands at the low watermark of 150, and one of 161 above it. -/
theorem test_witness_DrainRule :
    (∃ (s : State) (st : Stair), s.powered = true ∧ s.es.stairs[0]? = some st ∧ st.drainTimer = some 0 ∧
      st.cond = .congested ∧ st.load - (st.credit + st.flow) / 6 = st.low ∧ s.es.waiting = []) ∧
    (∃ (s : State) (st : Stair), s.powered = true ∧ s.es.stairs[0]? = some st ∧ st.drainTimer = some 0 ∧
      st.cond = .congested ∧ st.load - (st.credit + st.flow) / 6 = st.low + 1) ∧
    (∃ (s : State) (st : Stair), s.powered = true ∧ s.es.stairs[0]? = some st ∧ st.drainTimer = some 1) ∧
    ∀ held : Bool, ∃ (s : State) (st : Stair) (fl : Floor) (opened : List Stair), s.powered = true ∧
      s.es.stairs[0]? = some st ∧ st.drainTimer = some 0 ∧ st.cond = .congested ∧
      st.load - (st.credit + st.flow) / 6 = st.low ∧ s.es.waiting = [0] ∧ s.rc.floors[0]? = some fl ∧
      fl.state = .alert ∧ opened = s.es.stairs.set 0 { st with
        load := st.load - (st.credit + st.flow) / 6
        credit := if st.load - (st.credit + st.flow) / 6 = 0 then 0 else (st.credit + st.flow) % 6
        cond := .available
        drainTimer := some 10 } ∧ heldBack opened (sharesOf opened fl) = held := by
  refine ⟨⟨drained .congested 160 0 [], _, rfl, rfl, rfl, rfl, by decide, rfl⟩,
    ⟨drained .congested 161 0 [], _, rfl, rfl, rfl, rfl, by decide⟩, ⟨drained .congested 160 1 [], _, rfl, rfl, rfl⟩, ?_⟩
  rintro (_ | _)
  · exact ⟨drained .congested 160 0 [0], _, _, _, rfl, rfl, rfl, rfl, by decide, rfl, rfl, rfl, rfl, by decide +kernel⟩
  · exact ⟨(drained .congested 160 0 [0]).modEs (ES.modStair 1 (fun st => { st with cond := .congested })), _, _, _, rfl, rfl,
      rfl, rfl, by decide, rfl, rfl, rfl, rfl, by decide +kernel⟩

theorem test_witness_ForcedAdvanceRule : (∃ s : State, s.powered = true ∧ s.es.advanceTimer = some 0 ∧
      s.es.waiting = []) ∧
    (∃ (s : State) (fl : Floor), s.powered = true ∧ s.es.advanceTimer = some 0 ∧ s.es.waiting = 0 :: [] ∧
      s.rc.floors[0]? = some fl ∧ fl.state = .alert) ∧
    ∃ s : State, s.powered = true ∧ s.es.advanceTimer = some s.es.advanceLimit ∧ s.es.advanceLimit ≠ 0 :=
  ⟨⟨phased.modEs (fun x => { x with waiting := [] }), rfl, rfl, rfl⟩, ⟨phased, _, rfl, rfl, rfl, rfl, rfl⟩,
    restartAdvance phased, rfl, rfl, by decide⟩

theorem test_witness_RecallGroupRule : (∃ (s : State) (a : Byte), s.answers ∧ findGroup s.lc a.toNat = none) ∧
    ∃ (s : State) (a : Byte) (g : Group), s.answers ∧ findGroup s.lc a.toNat = some g :=
  ⟨⟨tower, 1, tower_answers, rfl⟩, tower, 0, _, tower_answers, rfl⟩

/-- The tower with group 0 recalled at request. -/
def recalled : State := { tower with lc := (after (exec (.recallGroup 1 [0]) tower)).lc }

theorem test_witness_ReleaseGroupRule : (∃ (s : State) (a : Byte), s.answers ∧ findGroup s.lc a.toNat = none) ∧
    (∃ (s : State) (g : Group), s.answers ∧ findGroup s.lc 0 = some g ∧ s.rc.level = .general) ∧
    (∃ (s : State) (g : Group), s.answers ∧ findGroup s.lc 0 = some g ∧ s.rc.level ≠ .general ∧
      (∀ z ∈ g.triggers.zones, z.standing = false) ∧ g.active = false) ∧
    ∃ (s : State) (g : Group), s.answers ∧ findGroup s.lc 0 = some g ∧ s.rc.level ≠ .general ∧
      (∀ z ∈ g.triggers.zones, z.standing = false) ∧ g.active = true :=
  ⟨⟨tower, 1, tower_answers, rfl⟩, ⟨general, _, general_answers, rfl, rfl⟩,
    ⟨tower, _, tower_answers, rfl, by decide, by decide, rfl⟩,
    recalled, _, ⟨rfl, rfl, by decide⟩, rfl, by decide, by decide, rfl⟩

/-- The tower with its car in a service mode, with an image and a retry timer. -/
def withCar (service : Service) (image : Option Command) (retry : Option Nat) : State :=
  tower.modLc (fun x => { x with cars := x.cars.map (fun c => { c with service := service, image := image, retry := retry }) })

theorem test_witness_FireServiceRule : ∀ v : Service, ∃ (s : State) (c : Car) (g : Group), s.answers ∧
    findCar s.lc 0 = some c ∧ findGroup s.lc c.group = some g ∧ c.service = v ∧ c.image ≠ some .fireOn :=
  fun v => ⟨withCar v (some (.recall 1)) none, _, _, ⟨rfl, rfl, noReplies rfl⟩, rfl, rfl, rfl, by simp⟩

theorem test_witness_RetryExpiryRule : ∃ (s : State) (c : Car) (g : Group), s.powered = true ∧ findCar s.lc 0 = some c ∧
    findGroup s.lc c.group = some g ∧ c.retry = some 0 :=
  ⟨withCar .recalling (some (.recall 1)) (some 0), _, _, rfl, rfl, rfl, rfl⟩

theorem test_witness_ManualReleaseRule : ∃ (s : State) (lo hi q : Byte), s.answers ∧ lo.toNat ≤ hi.toNat ∧ hi.toNat = 63 ∧
    q.toNat = 15 ∧ s.ds.manual[3]?.isSome = true ∧ s.KeysDistinct :=
  ⟨tower, 0, 63, 15, tower_answers, by decide, by decide, by decide, rfl, tower_keys⟩

/-- The tower with its door point in a condition, its timers as given. -/
def withDoor (cond : DoorCond) (dwell heldOpen : Option Nat) : State :=
  tower.modDs (fun x => { x with doors := x.doors.map (fun d => { d with cond := cond, dwell := dwell, heldOpen := heldOpen }) })

theorem test_witness_DoorTimersRule : (∃ (s : State) (d : Door), s.powered = true ∧
      s.ds.doors.find? (fun e => e.index = 0) = some d ∧ d.cond = .pending ∧ d.dwell = some 0) ∧
    (∀ c : DoorCond, ∃ (s : State) (d : Door), s.powered = true ∧ s.ds.doors.find? (fun e => e.index = 0) = some d ∧
      d.cond = c ∧ d.heldOpen = some 0) ∧
    ∃ (s : State) (d : Door), s.powered = true ∧ s.ds.doors.find? (fun e => e.index = 0) = some d ∧
      d.dwell = some 1 ∧ d.heldOpen = some 1 :=
  ⟨⟨withDoor .pending (some 0) none, _, rfl, rfl, rfl, rfl⟩, fun c => ⟨withDoor c none (some 0), _, rfl, rfl, rfl, rfl⟩,
    withDoor .pending (some 1) (some 1), _, rfl, rfl, rfl, rfl⟩

/-- The tower with its sixteen slots filled, slot 0 with a record of the given class and the others with EVAC records, the
oldest in slot 0; no record has a claim. -/
def fullTable (first : RecClass) : State := tower.modAr (fun x =>
  { x with
    records := (List.range 16).map (fun n =>
      ⟨n, n + 1, n + 1, if n = 0 then first else .evac, .requested, none, 0, 0, none, 0, none, .suspended⟩)
    creation := 16 })

theorem fullTable_answers (first : RecClass) : (fullTable first).answers := ⟨rfl, rfl, noReplies rfl⟩

theorem test_witness_AnnounceRule : (∃ (s : State) (lo hi : Byte), s.answers ∧ lo.toNat = 63 ∧ hi.toNat = 62) ∧
    (∃ (s : State) (r : Byte), s.answers ∧ r.toNat = 16) ∧
    (∃ (s : State) (r : Byte), s.answers ∧ r.toNat = 15 ∧ s.rc.level ≠ .normal) ∧
    (∃ (s : State) (m : Byte), s.answers ∧ s.rc.level = .normal ∧
      ∀ e, s.ar.library[m.toNat]? = some e → e.inUse = false) ∧
    (∃ (s : State) (m : Byte) (e : MsgRec), s.answers ∧ s.rc.level = .normal ∧ s.ar.library[m.toNat]? = some e ∧
      e.inUse = true ∧ e.kind = .evac) ∧
    (∃ (s : State) (m : Byte) (e : MsgRec), s.answers ∧ s.rc.level = .normal ∧ s.ar.library[m.toNat]? = some e ∧
      e.inUse = true ∧ e.kind = .tenant ∧ freeSlot s.ar = none) ∧
    ∀ beyond : Bool, ∃ (s : State) (m lo hi r : Byte) (e : MsgRec), s.answers ∧ lo.toNat ≤ hi.toNat ∧ hi.toNat = 63 ∧
      r.toNat = 15 ∧ s.rc.level = .normal ∧ s.ar.library[m.toNat]? = some e ∧ e.inUse = true ∧ e.kind = .tenant ∧
      (freeSlot s.ar).isSome = true ∧ lo.toNat + 1 = s.rc.floors.length + (if beyond then 1 else 0) ∧ s.RecordsSound ∧
      s.ClaimsSound ∧ (s.ar.records.filter (fun x => x.cls ≠ .tenant)).length ≤ 3 := by
  refine ⟨⟨tower, 63, 62, tower_answers, by decide, by decide⟩, ⟨tower, 16, tower_answers, by decide⟩,
    ⟨general, 15, general_answers, by decide, by decide⟩, ⟨tower, 3, tower_answers, rfl, nofun⟩,
    ⟨tower, 0, _, tower_answers, rfl, rfl, rfl, rfl⟩,
    ⟨fullTable .evac, 2, _, fullTable_answers _, rfl, rfl, rfl, rfl, by decide +kernel⟩, ?_⟩
  rintro (_ | _)
  · exact ⟨tower, 2, 2, 63, 15, _, tower_answers, by decide, by decide, by decide, rfl, rfl, rfl, rfl, by decide +kernel,
      rfl, tower_records, tower_claims, by decide⟩
  · exact ⟨tower, 2, 3, 63, 15, _, tower_answers, by decide, by decide, by decide, rfl, rfl, rfl, rfl, by decide +kernel,
      rfl, tower_records, tower_claims, by decide⟩

/-- The tower with one announcement record of id 1. -/
def withRec (cls : RecClass) (source : RecSource) (state : RecState) : State :=
  tower.modAr (fun x => { x with records := [⟨0, 1, 1, cls, source, some 2, 0, 255, some 1, 0, some 0, state⟩] })

theorem test_witness_CancelRule : (∃ s : State, s.answers ∧ findRec s.ar 0 = none) ∧
    (∃ (s : State) (r : Rec), s.answers ∧ findRec s.ar 1 = some r ∧ r.source = .system) ∧
    ∀ st : RecState, ∃ (s : State) (r : Rec), s.answers ∧ findRec s.ar 1 = some r ∧ r.source = .requested ∧
      r.cls = .tenant ∧ r.state = st ∧ s.ar.waitList = [] :=
  ⟨⟨tower, tower_answers, rfl⟩, ⟨withRec .evac .system .playing, _, ⟨rfl, rfl, by decide⟩, rfl, rfl⟩,
    fun st => ⟨withRec .tenant .requested st, _, ⟨rfl, rfl, noReplies rfl⟩, rfl, rfl, rfl, rfl, rfl⟩⟩

theorem test_witness_LiveRule : (∃ (s : State) (r : Rec), s.answers ∧ liveRec s.ar = some r) ∧
    (∃ (s : State) (lo hi : Byte), s.answers ∧ lo.toNat ≤ hi.toNat ∧ hi.toNat = 63 ∧ liveRec s.ar = none ∧
      lo.toNat = s.rc.floors.length) ∧
    (∃ (s : State) (lo hi : Byte), s.answers ∧ lo.toNat ≤ hi.toNat ∧ hi.toNat = 63 ∧ liveRec s.ar = none ∧
      lo.toNat < s.rc.floors.length ∧ freeSlot s.ar = none ∧ ∀ x ∈ s.ar.records, x.cls ≠ .tenant) ∧
    (∃ (s : State) (lo hi : Byte) (old : Rec), s.answers ∧ lo.toNat ≤ hi.toNat ∧ hi.toNat = 63 ∧ liveRec s.ar = none ∧
      lo.toNat < s.rc.floors.length ∧ freeSlot s.ar = none ∧ old ∈ s.ar.records ∧ old.cls = .tenant ∧
      (∀ y ∈ s.ar.records, y.cls = .tenant → y.id ≠ old.id → old.creation < y.creation) ∧ s.RecordsSound ∧
      s.ClaimsSound) ∧
    ∃ (s : State) (lo hi : Byte), s.answers ∧ lo.toNat ≤ hi.toNat ∧ hi.toNat = 63 ∧ liveRec s.ar = none ∧
      lo.toNat + 1 = s.rc.floors.length ∧ (freeSlot s.ar).isSome = true ∧ s.RecordsSound ∧ s.ClaimsSound :=
  ⟨⟨withRec .live .requested .playing, _, ⟨rfl, rfl, by decide⟩, rfl⟩,
    ⟨tower, 3, 63, tower_answers, by decide, by decide, rfl, rfl⟩,
    ⟨fullTable .evac, 0, 63, fullTable_answers _, by decide, by decide, by decide +kernel, by decide, by decide +kernel,
      by decide +kernel⟩,
    ⟨fullTable .tenant, 0, 63, _, fullTable_answers _, by decide, by decide, by decide +kernel, by decide,
      by decide +kernel, List.mem_cons_self, rfl, by decide +kernel, by unfold State.RecordsSound; decide +kernel,
      claims_of (by decide +kernel) (by decide +kernel) (by decide +kernel)⟩,
    tower, 2, 63, tower_answers, by decide, by decide, rfl, rfl, by decide +kernel, tower_records, tower_claims⟩

/-- Channel 0 held by the record of id 1, its play timer run down, its generation at the end. -/
def playing : State := (withRec .tenant .requested .playing).modAr (fun x =>
  { x with channels := x.channels.modify 0 (fun c =>
      { c with holder := some 1, programme := .message 2, generation := 255, playTimer := some 0 }) })

theorem test_witness_PlayOverrunRule : ∃ (s : State) (c : Channel) (r : Rec), s.powered = true ∧
    s.ar.channels[0]? = some c ∧ c.playTimer = some 0 ∧ c.holder = some 1 ∧ findRec s.ar 1 = some r ∧
    r.state = .playing ∧ r.repeats = 0 := ⟨playing, _, _, rfl, rfl, rfl, rfl, rfl, rfl, rfl⟩

theorem test_witness_SlotStartRule :
    (∃ (s : State) (p : PortRec), s.powered = true ∧ findPort s.flc.ports (.p 0) = some p ∧ p.slot.isSome = true) ∧
    (∃ (s : State) (p : PortRec) (n : Node), s.powered = true ∧ findPort s.flc.ports (.g 0) = some p ∧ p.slot = none ∧
      findNode s.flc.nodes (.g 0) p.cursor = some n ∧ n.actions = [] ∧ ∃ m ∈ n.images, m.dirty = true) ∧
    (∃ (s : State) (p : PortRec) (n : Node), s.powered = true ∧ findPort s.flc.ports (.p 0) = some p ∧ p.slot = none ∧
      findNode s.flc.nodes (.p 0) p.cursor = some n ∧ n.actions = [] ∧ ∀ m ∈ n.images, m.dirty = false) ∧
    ∃ (s : State) (p : PortRec) (n : Node) (a : Action) (rest : List Action), s.powered = true ∧
      findPort s.flc.ports (.p 0) = some p ∧ p.slot = none ∧ findNode s.flc.nodes (.p 0) p.cursor = some n ∧
      n.actions = a :: rest :=
  ⟨⟨withSlot (.p 0) 1 .poll, _, rfl, rfl, rfl⟩, ⟨tower, _, _, rfl, rfl, rfl, rfl, rfl, _, List.mem_cons_self, rfl⟩,
    ⟨tower, _, _, rfl, rfl, rfl, rfl, rfl, by decide⟩,
    offerSnapshot (.p 0) tower, _, _, .askSnapshot, [], rfl, rfl, rfl, rfl, rfl⟩

/-- A QUIET reply to a POLL of the panel is a valid reply. -/
theorem quiet_valid (s : State) (h : (findPort s.flc.ports (.p 0)).bind (·.slot) = some ⟨1, .poll, true⟩) :
    ValidReply s ⟨.p 0, 1, 0x41#8, 0, []⟩ ⟨1, .poll, true⟩ .quiet := ⟨h, rfl, rfl, by decide, rfl, rfl⟩

/-- The tower with a slot at its panel, the panel's node in a link state with counters. -/
def withNode (link : LinkState) (good miss : Nat) : State :=
  (withSlot (.p 0) 1 .poll).modFlc (FLC.modNode (.p 0) 1 (fun n => { n with link := link, good := good, miss := miss }))

theorem test_witness_CountersRule : (∃ (i : Instr) (s : State) (f : FieldReceipt) (sl : Slot) (v : FieldReply) (n : Node),
      s.powered = true ∧ fieldCommand i = some f ∧ ValidReply s f sl v ∧
      findNode s.flc.nodes f.port sl.address = some n ∧ n.good = 255) ∧
    ∃ (s : State) (sl : Slot) (n : Node), s.powered = true ∧ (findPort s.flc.ports (.p 0)).bind (·.slot) = some sl ∧
      findNode s.flc.nodes (.p 0) sl.address = some n ∧ n.miss = 15 :=
  ⟨⟨.quiet (.p 0) 1 0 [], withNode .live 255 0, _, _, _, _, rfl, rfl, quiet_valid _ rfl, rfl, rfl⟩,
    withNode .offline 0 15, _, _, rfl, rfl, rfl, rfl⟩

theorem test_witness_DiscardedFrameRule : ∃ (i : Instr) (s : State) (f : FieldReceipt), s.powered = true ∧
    fieldCommand i = some f ∧ ¬∃ sl v, ValidReply s f sl v :=
  ⟨.quiet (.p 0) 1 0 [], tower, _, rfl, rfl, fun ⟨_, _, h⟩ => nomatch h.slot⟩

/-- The tower with a slot at its door module, whose node is in TRAINING with three good replies. -/
def moduleTraining : State :=
  (withSlot (.d 0) 5 .poll).modFlc (FLC.modNode (.d 0) 5 (fun n => { n with link := .training, good := 3 }))

theorem test_witness_NodeLinkRule :
    (∃ (i : Instr) (s : State) (f : FieldReceipt) (sl : Slot) (v : FieldReply) (n : Node),
      s.powered = true ∧ fieldCommand i = some f ∧ ValidReply s f sl v ∧
      findNode s.flc.nodes f.port sl.address = some n ∧ n.link = .training ∧ n.good = 3) ∧
    (∃ (i : Instr) (s : State) (f : FieldReceipt) (sl : Slot) (v : FieldReply) (n : Node),
      s.powered = true ∧ fieldCommand i = some f ∧ ValidReply s f sl v ∧
      findNode s.flc.nodes f.port sl.address = some n ∧ n.link = .training ∧ n.good = 3 ∧ f.port.isDoor = true) ∧
    ∃ (s : State) (sl : Slot) (n : Node), s.powered = true ∧ (findPort s.flc.ports (.p 0)).bind (·.slot) = some sl ∧
      findNode s.flc.nodes (.p 0) sl.address = some n ∧ n.link = .suspect ∧ n.miss = 14 :=
  ⟨⟨.quiet (.p 0) 1 0 [], withNode .training 3 0, _, _, _, _, rfl, rfl, quiet_valid _ rfl, rfl, rfl, rfl⟩,
    ⟨.moduleStatus (.d 0) 5 0 [0, 0], moduleTraining, _, ⟨5, .poll, true⟩, .module (List.replicate 8 .secure), _, rfl, rfl,
      ⟨rfl, rfl, rfl, by decide, by decide +kernel, rfl⟩, rfl, rfl, rfl, rfl⟩,
    withNode .suspect 0 14, _, _, rfl, rfl, rfl, rfl, rfl⟩

/-- A zone of the tower's panel with a slot in progress there. -/
def zoneInSlot (state : ZoneState) (last : Option Input) (window : Option Window) : State :=
  { withSlot (.p 0) 1 .poll with ze := (withZone state last window).ze }

theorem test_witness_ChangeListArrives : ∀ code : Byte, code = 0 ∨ code = 1 →
    ∃ (s : State) (a c num : Byte) (sl : Slot) (z : Zone), s.powered = true ∧
      ValidReply s ⟨.p 0, a, 0x42#8, c, [1, num, code]⟩ sl
        (.changes [(num.toNat, if code = 1 then .alarm else .normal)]) ∧
      findZone s.ze (.p 0) num.toNat = some z ∧
      (code = 1 → z.state = .normal ∧ z.lastInput = some .normal ∧ z.verify = false) ∧
      (code = 0 → z.state = .verifying ∧ z.lastInput ≠ some .normal ∧ z.window = some ⟨60, false, false⟩) := by
  rintro code (rfl | rfl)
  · exact ⟨zoneInSlot .verifying (some .alarm) (some ⟨60, false, false⟩), 1, 0, 1, ⟨1, .poll, true⟩, _, rfl,
      ⟨rfl, rfl, rfl, by decide, by decide +kernel, rfl⟩, rfl, by decide, fun _ => ⟨rfl, by decide, rfl⟩⟩
  · exact ⟨zoneInSlot .normal (some .normal) none, 1, 0, 1, ⟨1, .poll, true⟩, _, rfl,
      ⟨rfl, rfl, rfl, by decide, by decide +kernel, rfl⟩, rfl, fun _ => ⟨rfl, rfl, rfl⟩, by decide⟩

/-- A GROUP_STATUS payload that echoes the empty mask, with no answer and one car entry: place 0 at landing 2. -/
def groupPayload : List Byte := List.replicate 16 0 ++ [0xFF#8, 0, 0, 0, 1, 0, 2, 0]

/-- A node of the tower in LIVE with a slot in progress there. -/
def atLive (port : Line) (address : Nat) (c : Carried) : State :=
  (withSlot port address c).modFlc (FLC.modNode port address (Node.enter .live))

theorem test_witness_RepliesDeliver :
    (∃ (s : State) (p : List Byte) (sl : Slot) (es : List (Nat × Input)) (n : Node), s.powered = true ∧
      ValidReply s ⟨.p 0, 1, 0x43#8, 0, p⟩ sl (.snapshot es) ∧ findNode s.flc.nodes (.p 0) sl.address = some n ∧
      n.link = .live ∧ (findZone s.ze (.p 0) 1).isSome = true ∧ (1, Input.normal) ∈ es ∧
      (findZone s.ze (.p 0) 2).isSome = true ∧ ∀ e ∈ es, e.1 ≠ 2) ∧
    (∃ (s : State) (p : List Byte) (sl : Slot) (echo : LandingMask) (b : Option AnswerBlock) (e : CarEntry)
      (g : Group) (car : Car), s.powered = true ∧ ValidReply s ⟨.g 0, 1, 0x44#8, 0, p⟩ sl (.group echo b [e]) ∧
      findGroup s.lc 0 = some g ∧ s.CarsDistinct ∧
      s.lc.cars.find? (fun x => x.group = 0 && x.place = e.place) = some car) ∧
    (∃ (s : State) (p : List Byte) (sl : Slot) (x : List Sensed), s.powered = true ∧
      ValidReply s ⟨.d 0, 5, 0x45#8, 0, p⟩ sl (.module x) ∧ s.KeysDistinct) ∧
    ∃ (s : State) (p : List Byte) (sl : Slot) (marks : List Nat), s.powered = true ∧
      ValidReply s ⟨.a, 1, 0x46#8, 0, p⟩ sl (.matrix marks) :=
  ⟨⟨atLive (.p 0) 1 (.action .askSnapshot),
      0xF3#8 :: List.replicate 63 0xFF#8, ⟨1, .action .askSnapshot, true⟩, _, _, rfl,
      ⟨rfl, rfl, rfl, by decide, rfl, rfl⟩, rfl, rfl, rfl, by decide +kernel, rfl, by decide +kernel⟩,
    ⟨withSlot (.g 0) 1 .poll, groupPayload, ⟨1, .poll, true⟩, 0, none, ⟨0, 2, .up, .isOpen, .auto⟩, _, _, rfl,
      ⟨rfl, rfl, rfl, by decide, by decide +kernel, rfl⟩, rfl, tower_cars, rfl⟩,
    ⟨withSlot (.d 0) 5 .poll, [0, 0], ⟨5, .poll, true⟩, List.replicate 8 .secure, rfl,
      ⟨rfl, rfl, rfl, by decide, by decide +kernel, rfl⟩, tower_keys⟩,
    withSlot .a 1 .poll, List.replicate 8 0, ⟨1, .poll, true⟩, List.replicate 8 0, rfl,
      ⟨rfl, rfl, rfl, by decide, by decide +kernel, rfl⟩⟩

/-- The tower's car with a command SENT after some attempts, and its group's node about to answer the frame. -/
def awaiting (kind : Command) (attempts : Nat) : State :=
  (atLive (.g 0) 1 (.image (.carCommand 0))).modLc (fun x =>
    { x with cars := x.cars.map (fun c => { c with cmdState := .sent, image := some kind, attempts := attempts }) })

/-- A GROUP_STATUS payload with an answer for place 0 and no car entry. -/
def answerPayload (answer : GroupAnswer) (kind : Command) : List Byte :=
  List.replicate 16 0 ++ [0, match answer with
    | .accept => 0
    | .defer => 1
    | .reject => 2, commandCode kind, byte (commandLanding kind), 0]

/-- `awaiting` an answer to FIRE_SERVICE_OFF in an active recall, with the target given or absent. -/
def offInRecall (target : Option Target) : State :=
  (awaiting .fireOff 0).modLc (fun x =>
    { x with groups := x.groups.map (fun g => { g with active := true, target := target }) })

theorem test_witness_RepliesDeliver_recall : ∀ target : Option Target, ∃ (s : State) (p : List Byte) (sl : Slot)
    (nd : Node) (g : Group) (car : Car), s.powered = true ∧
      ValidReply s ⟨.g 0, 1, 0x44#8, 0, p⟩ sl (.group 0 (some ⟨0, .accept, .fireOff⟩) []) ∧
      sl.carried = .image (.carCommand 0) ∧ findNode s.flc.nodes (.g 0) sl.address = some nd ∧ nd.link = .live ∧
      findGroup s.lc 0 = some g ∧ g.down = false ∧ g.active = true ∧ g.target = target ∧ s.CarsDistinct ∧
      s.lc.cars.find? (fun c => c.group = 0 && c.place = 0) = some car ∧ car.cmdState = .sent ∧
      car.image = some .fireOff := by
  intro target
  have hc : (offInRecall target).lc.cars.map (·.number) = [0] := rfl
  refine ⟨offInRecall target, answerPayload .accept .fireOff, ⟨1, .image (.carCommand 0), true⟩, ?_, ?_, ?_, rfl,
    ⟨rfl, rfl, rfl, Nat.zero_le 1, by decide +kernel, rfl⟩, ?_⟩
  rotate_left 3
  and_intros
  any_goals rfl
  · rw [hc]
    decide
  · nofun

/-- R83, R152: an accepted RELEASE leaves the car without a command, and its changed image dirty. -/
theorem test_releaseAccepted :
    let t := after (exec (.groupStatus (.g 0) 1 0 (answerPayload .accept .release)) (awaiting .release 0))
    t.lc.cars.map (fun c => (c.service, c.image)) = [(.auto, none)] ∧
      isDirty t.flc (.g 0) 1 (.carCommand 0) = true := by decide +kernel

theorem test_witness_RepliesDeliver_answer : ∀ (x : GroupAnswer) (kind : Command) (n : Nat),
    kind ∈ [.recall 1, .release, .fireOn, .fireOff] →
    ∃ (s : State) (p : List Byte) (sl : Slot) (echo : LandingMask) (nd : Node) (g : Group) (car : Car),
      s.powered = true ∧ ValidReply s ⟨.g 0, 1, 0x44#8, 0, p⟩ sl (.group echo (some ⟨0, x, kind⟩) []) ∧
      sl.carried = .image (.carCommand 0) ∧ findNode s.flc.nodes (.g 0) sl.address = some nd ∧ nd.link = .live ∧
      findGroup s.lc 0 = some g ∧ g.down = false ∧ g.active = false ∧ s.CarsDistinct ∧
      s.lc.cars.find? (fun c => c.group = 0 && c.place = 0) = some car ∧ car.cmdState = .sent ∧
      car.image = some kind ∧ car.attempts = n := by
  intro x kind n hk
  have hc : (awaiting kind n).lc.cars.map (·.number) = [0] := rfl
  refine ⟨awaiting kind n, answerPayload x kind, ⟨1, .image (.carCommand 0), true⟩, 0, _, _, _, rfl,
    ⟨rfl, rfl, rfl, Nat.zero_le 1, ?_, rfl⟩, rfl, rfl, rfl, rfl, rfl, rfl, ⟨by rw [hc]; decide, nofun⟩, rfl, rfl, rfl, rfl⟩
  simp only [List.mem_cons, List.not_mem_nil, or_false] at hk
  rcases hk with rfl | rfl | rfl | rfl <;> cases x <;> decide +kernel

/-- The tower's matrix node about to reply, channel 0 playing at generation 255 and channel 1 with nothing new. -/
def marking (state : RecState) (repeats : Nat) : State :=
  { atLive .a 1 .poll with
    ar := ((withRec .tenant .requested state).modAr (fun x =>
      { x with
        up := true
        records := x.records.map (fun r => { r with plays := 1, repeats := repeats })
        channels := [{ releaseChannel x.channels[0]! with
          holder := some 1, programme := .message 2, generation := 255, lastSeen := some 254 },
          { releaseChannel x.channels[0]! with lastSeen := some 0 }] })).ar }

theorem test_witness_RepliesDeliver_mark : ∀ (st : RecState) (k : Nat), ∃ (s : State) (p : List Byte) (sl : Slot)
    (marks : List Nat) (nd : Node) (ch : Channel) (r : Rec), s.powered = true ∧
      ValidReply s ⟨.a, 1, 0x46#8, 0, p⟩ sl (.matrix marks) ∧ findNode s.flc.nodes .a sl.address = some nd ∧
      nd.link = .live ∧ s.ar.up = true ∧ s.ar.channels[0]? = some ch ∧ ch.holder = some 1 ∧
      ch.programme = .message 2 ∧ findRec s.ar 1 = some r ∧ r.state = st ∧ r.plays = 1 ∧ r.repeats = k ∧
      marks[0]? = some ch.generation ∧ ch.lastSeen ≠ some ch.generation ∧
      ∀ j x, j ≠ 0 → s.ar.channels[j]? = some x → x.lastSeen = marks[j]? := by
  intro st k
  refine ⟨marking st k, 255 :: List.replicate 7 0, ⟨1, .poll, true⟩, 255 :: List.replicate 7 0, ?_, ?_, ?_, rfl,
    ⟨rfl, rfl, rfl, by decide, by decide +kernel, rfl⟩, ?_⟩
  rotate_left 3
  and_intros
  any_goals rfl
  · nofun
  intro j x hj h
  match j, hj with
  | 1, _ => cases h; rfl
  | j + 2, _ => cases h

/-- The tower with a session open on an image. -/
def session (i : Image) : State := tower.modCs (fun c => { c with staged := some i })

theorem session_answers (i : Image) : (session i).answers := ⟨rfl, rfl, noReplies rfl⟩

theorem test_witness_SessionRule : (∃ s : State, s.answers ∧ s.cs.writing.isSome = true) ∧
    (∃ s : State, s.answers ∧ s.cs.writing = none ∧ s.rc.level ≠ .normal) ∧
    (∃ s : State, s.answers ∧ s.cs.writing = none ∧ s.rc.level = .normal ∧ s.cs.staged.isSome = true) ∧
    (∃ s : State, s.answers ∧ s.cs.writing = none ∧ s.rc.level = .normal ∧ s.cs.staged = none ∧ s.cs.fallback = true) ∧
    (∃ (s : State) (i : Image) (k : BitVec 32), s.answers ∧ s.cs.writing = none ∧ s.rc.level = .normal ∧
      s.cs.staged = none ∧ s.cs.fallback = false ∧ s.cs.store = .holds i k) ∧
    (∃ (s : State) (k : Nat), s.answers ∧ s.cs.writing = none ∧ s.rc.level = .normal ∧
      s.cs.staged = none ∧ s.cs.fallback = false ∧ s.cs.store = .torn k) ∧
    (∃ (s : State) (i : Image) (bytes : List Byte) (r : ConfigRecord), s.answers ∧ s.cs.writing = none ∧
      s.cs.staged = some i ∧ decodeRecord 6 bytes = some r ∧ r.inRange 15 = true ∧ r.inRange 16 = false ∧
      badLabel r = false) ∧
    ∃ (s : State) (i : Image) (bytes : List Byte) (r : ConfigRecord), s.answers ∧ s.cs.writing = none ∧
      s.cs.staged = some i ∧ decodeRecord 1 bytes = some r ∧ badLabel r = true :=
  ⟨⟨writing, writing_answers, rfl⟩, ⟨general, general_answers, rfl, by decide⟩,
    ⟨session image, session_answers _, rfl, rfl, rfl⟩, ⟨State.reset, ⟨rfl, rfl, by decide⟩, rfl, rfl, rfl, rfl⟩,
    ⟨tower, image, 0, tower_answers, rfl, rfl, rfl, rfl, rfl⟩,
    ⟨tower.modCs (fun c => { c with store := .torn 0 }), 0, ⟨rfl, rfl, by decide⟩, rfl, rfl, rfl, rfl, rfl⟩,
    ⟨session image, image, [1, 3, 15], .car ⟨true, 3, 15⟩, session_answers _, rfl, rfl, rfl, rfl, rfl, rfl⟩,
    session image, image, [0x1F, 0x20, 0x20, 0x20, 0, 0, 0xFF, 100, 0, 0, 0], _, session_answers _, rfl, rfl, rfl,
    by decide +kernel⟩

theorem test_witness_CommitRule : (∃ s : State, s.answers ∧ s.cs.writing.isSome = true) ∧
    (∃ s : State, s.answers ∧ s.cs.writing = none ∧ s.cs.staged = none) ∧
    (∃ (s : State) (i : Image), s.answers ∧ s.cs.writing = none ∧ s.cs.staged = some i ∧
      firstInvalid (clampImage i) = some (1, 0)) ∧
    (∃ (s : State) (i : Image), s.answers ∧ s.cs.writing = none ∧ s.cs.staged = some i ∧
      firstInvalid (clampImage i) = none ∧ clampedValues i (clampImage i) = []) ∧
    ∃ (s : State) (i : Image), s.answers ∧ s.cs.writing = none ∧ s.cs.staged = some i ∧
      firstInvalid (clampImage i) = none ∧ clampedValues i (clampImage i) = [(0, 0, 8)] :=
  ⟨⟨writing, writing_answers, rfl⟩, ⟨tower, tower_answers, rfl, rfl⟩,
    ⟨session { image with stairs := [] }, _, ⟨rfl, rfl, by decide⟩, rfl, rfl, by decide +kernel⟩,
    ⟨session image, _, ⟨rfl, rfl, by decide⟩, rfl, rfl, by decide +kernel, by decide +kernel⟩,
    session { image with general := { image.general with channels := 9 } }, _, ⟨rfl, rfl, by decide⟩, rfl, rfl,
    by decide +kernel, by decide +kernel⟩

theorem test_witness_StoreWriteRule : ∃ (s : State) (i : Image) (k : BitVec 32), s.powered = true ∧
    s.cs.staged = some i ∧ s.cs.writing = some k := ⟨writing, image, 7, rfl, rfl, rfl⟩

theorem test_witness_FrameLayout : ∃ f : TxFrame, f.body.length ≤ 250 :=
  ⟨.reply (plainReply 0x81#8 0 .done), by decide +kernel⟩

theorem test_witness_RecordRoundTrip : recordFits (.group ⟨true, 255, List.replicate 64 (some 254), 63, 63⟩) ∧
    recordFits (.zone ⟨true, .l, 255, 63, .recallKey, .following, true, 15, some 254, some .alarmLow⟩) := by
  refine ⟨⟨by decide, by decide, ?_, by decide, by decide⟩, by decide, by decide, ?_⟩
  · intro x hx y hy
    obtain ⟨-, rfl⟩ := List.mem_replicate.mp hx
    cases hy
    decide
  · rintro x ⟨⟩
    decide

end Sys2Proof.Tests
end

section
/-!
What an event can do to the Regime Core, layer by layer. `Keeps` holds of every operation of an event, `Calm` of a confirmation
with its responses, `Admits` of an admission. Each is reflexive and transitive, is proved once of each change of a record, and
is then composed along the definitions.
-/

namespace Sys2Proof.Machine

/-! ## The three relations -/

/-- R3, R5, R19, R20: what every change of the Regime Core keeps, each property on its own. -/
structure RC.Keeps (r r' : RC) : Prop where
  alarm : r.commonAlarm = alarmLine r.level → r'.commonAlarm = alarmLine r'.level
  trouble : r.commonTrouble = troubleLine r.trouble → r'.commonTrouble = troubleLine r'.trouble
  lockout : (∀ fl ∈ r.floors, fl.lockout = decide (0 < fl.alarmCount)) →
    ∀ fl ∈ r'.floors, fl.lockout = decide (0 < fl.alarmCount)
  origins : r.origins.length ≤ 8 ∧ r.origins.Nodup → r'.origins.length ≤ 8 ∧ r'.origins.Nodup

/-- What every operation of an event keeps: the properties of the Regime Core, the second count and the queue of commands. -/
structure Keeps (s t : State) : Prop where
  rc : s.rc.Keeps t.rc
  count : t.rc.secondCount = s.rc.secondCount
  pending : t.pending = s.pending

/-- A floor in the course of an alarm: only its state, its origin flag and its admission move; EVAC and its admission stay, and
an ALERT floor does not become QUIET. -/
structure Floor.Held (a b : Floor) : Prop where
  rest : b = { a with state := b.state, origin := b.origin, admission := b.admission }
  evac : a.state = .evac → b.state = .evac ∧ b.admission = a.admission
  alert : a.state = .alert → b.state ≠ .quiet

/-- A floor table in the course of an alarm, floor by floor. -/
structure FloorsHeld (l l' : List Floor) : Prop where
  length : l'.length = l.length
  held : ∀ (f : Nat) (a : Floor), l[f]? = some a → ∃ b, l'[f]? = some b ∧ a.Held b

/-- R147: the nodes and ports of the field lines, their states aside. -/
structure FLC.SameShape (x y : FLC) : Prop where
  nodes : y.nodes.map (fun n => (n.port, n.address)) = x.nodes.map (fun n => (n.port, n.address))
  ports : y.ports.map (·.port) = x.ports.map (·.port)

/-- A confirmation with its responses: the zones, the pending reset and the alarm counts stay. -/
structure Calm (s t : State) : Prop extends Keeps s t where
  ze : t.ze = s.ze
  resetPending : t.rc.resetPending = s.rc.resetPending
  floors : FloorsHeld s.rc.floors t.rc.floors
  flc : s.flc.SameShape t.flc

/-- An admission with its responses: the level, the origins, the lifts, the session and the door points' indices stay. -/
structure Admits (s t : State) : Prop extends Calm s t where
  level : t.rc.level = s.rc.level
  origins : t.rc.origins = s.rc.origins
  entryTime : t.rc.entryTime = s.rc.entryTime
  commonAlarm : t.rc.commonAlarm = s.rc.commonAlarm
  lc : t.lc = s.lc
  cs : t.cs = s.cs
  doors : t.ds.doors.map (·.index) = s.ds.doors.map (·.index)

/-! ## Reflexive and transitive -/

theorem RC.Keeps.refl (r : RC) : r.Keeps r := ⟨id, id, id, id⟩

theorem RC.Keeps.trans {a b c : RC} (h : a.Keeps b) (k : b.Keeps c) : a.Keeps c :=
  ⟨k.alarm ∘ h.alarm, k.trouble ∘ h.trouble, k.lockout ∘ h.lockout, k.origins ∘ h.origins⟩

theorem Keeps.refl (s : State) : Keeps s s := ⟨.refl _, rfl, rfl⟩

theorem Keeps.trans {a b c : State} (h : Keeps a b) (k : Keeps b c) : Keeps a c :=
  ⟨h.rc.trans k.rc, k.count.trans h.count, k.pending.trans h.pending⟩

theorem Floor.Held.refl (a : Floor) : a.Held a := ⟨rfl, fun h => ⟨h, rfl⟩, fun h => by simp [h]⟩

theorem Floor.Held.trans {a b c : Floor} (h : a.Held b) (k : b.Held c) : a.Held c where
  rest := by rw [k.rest, h.rest]
  evac ha := by
    obtain ⟨hb, hab⟩ := h.evac ha
    obtain ⟨hc, hbc⟩ := k.evac hb
    exact ⟨hc, hbc.trans hab⟩
  alert ha := by
    cases hb : b.state with
    | quiet => exact absurd hb (h.alert ha)
    | alert => exact k.alert hb
    | evac => simp [(k.evac hb).1]

theorem FloorsHeld.refl (l : List Floor) : FloorsHeld l l := ⟨rfl, fun _ a h => ⟨a, h, .refl a⟩⟩

theorem FloorsHeld.trans {l m n : List Floor} (h : FloorsHeld l m) (k : FloorsHeld m n) : FloorsHeld l n where
  length := k.length.trans h.length
  held f a ha := by
    obtain ⟨b, hb, hab⟩ := h.held f a ha
    obtain ⟨c, hc, hbc⟩ := k.held f b hb
    exact ⟨c, hc, hab.trans hbc⟩

theorem FLC.SameShape.refl (x : FLC) : x.SameShape x := ⟨rfl, rfl⟩

theorem FLC.SameShape.trans {x y z : FLC} (h : x.SameShape y) (k : y.SameShape z) : x.SameShape z :=
  ⟨k.nodes.trans h.nodes, k.ports.trans h.ports⟩

theorem Calm.refl (s : State) : Calm s s := ⟨.refl s, rfl, rfl, FloorsHeld.refl _, .refl _⟩

theorem Calm.trans {a b c : State} (h : Calm a b) (k : Calm b c) : Calm a c where
  toKeeps := h.toKeeps.trans k.toKeeps
  ze := k.ze.trans h.ze
  resetPending := k.resetPending.trans h.resetPending
  floors := h.floors.trans k.floors
  flc := h.flc.trans k.flc

theorem Admits.refl (s : State) : Admits s s := ⟨.refl s, rfl, rfl, rfl, rfl, rfl, rfl, rfl⟩

theorem Admits.trans {a b c : State} (h : Admits a b) (k : Admits b c) : Admits a c :=
  ⟨h.toCalm.trans k.toCalm, k.level.trans h.level, k.origins.trans h.origins, k.entryTime.trans h.entryTime,
    k.commonAlarm.trans h.commonAlarm, k.lc.trans h.lc, k.cs.trans h.cs, k.doors.trans h.doors⟩

theorem Keeps.ite {c : Prop} [Decidable c] {s a b : State} (h : Keeps s a) (k : Keeps s b) :
    Keeps s (if c then a else b) := by
  split
  · exact h
  · exact k

theorem Calm.ite {c : Prop} [Decidable c] {s a b : State} (h : Calm s a) (k : Calm s b) :
    Calm s (if c then a else b) := by
  split
  · exact h
  · exact k

theorem Admits.ite {c : Prop} [Decidable c] {s a b : State} (h : Admits s a) (k : Admits s b) :
    Admits s (if c then a else b) := by
  split
  · exact h
  · exact k

/-- What every operation of a list keeps, the list keeps. -/
theorem Keeps.foldl {α : Type} {op : State → α → State} (h : ∀ s a, Keeps s (op s a)) (l : List α) (s : State) :
    Keeps s (l.foldl op s) := by
  induction l generalizing s with
  | nil => exact .refl s
  | cons a l ih => exact (h s a).trans (ih _)

theorem Calm.foldl {α : Type} {op : State → α → State} (h : ∀ s a, Calm s (op s a)) (l : List α) (s : State) :
    Calm s (l.foldl op s) := by
  induction l generalizing s with
  | nil => exact .refl s
  | cons a l ih => exact (h s a).trans (ih _)

theorem Admits.foldl {α : Type} {op : State → α → State} (h : ∀ s a, Admits s (op s a)) (l : List α) (s : State) :
    Admits s (l.foldl op s) := by
  induction l generalizing s with
  | nil => exact .refl s
  | cons a l ih => exact (h s a).trans (ih _)

end Sys2Proof.Machine
end

section
/-!
The shared operations and the blocks' changes among `Keeps`, `Calm` and `Admits`.
-/

namespace Sys2Proof.Machine

/-! ## Records left alone -/

/-- A change that leaves the Regime Core and the queue. -/
theorem Keeps.of_rc {s t : State} (hrc : t.rc = s.rc) (hp : t.pending = s.pending) : Keeps s t :=
  ⟨hrc ▸ .refl _, congrArg RC.secondCount hrc, hp⟩

/-- A change that leaves the Regime Core, the zones and the field lines' nodes and ports. -/
theorem Calm.of_rc {s t : State} (hrc : t.rc = s.rc) (hp : t.pending = s.pending) (hze : t.ze = s.ze)
    (hflc : s.flc.SameShape t.flc) : Calm s t :=
  ⟨.of_rc hrc hp, hze, congrArg RC.resetPending hrc, hrc ▸ .refl _, hflc⟩

/-- A change of the SP, the ES, the AR or the images of the field lines alone. -/
theorem Admits.of_rc {s t : State} (hrc : t.rc = s.rc) (hp : t.pending = s.pending) (hze : t.ze = s.ze)
    (hflc : s.flc.SameShape t.flc) (hlc : t.lc = s.lc) (hcs : t.cs = s.cs)
    (hds : t.ds.doors.map (·.index) = s.ds.doors.map (·.index)) : Admits s t :=
  ⟨.of_rc hrc hp hze hflc, congrArg RC.level hrc, congrArg RC.origins hrc, congrArg RC.entryTime hrc,
    congrArg RC.commonAlarm hrc, hlc, hcs, hds⟩

theorem modSp_admits (f : SP → SP) (s : State) : Admits s (s.modSp f) := .of_rc rfl rfl rfl (.refl _) rfl rfl rfl

theorem modEs_admits (f : ES → ES) (s : State) : Admits s (s.modEs f) := .of_rc rfl rfl rfl (.refl _) rfl rfl rfl

theorem modFlc_admits {f : FLC → FLC} {s : State} (h : s.flc.SameShape (f s.flc)) : Admits s (s.modFlc f) :=
  .of_rc rfl rfl rfl h rfl rfl rfl

theorem modFlc_keeps (f : FLC → FLC) (s : State) : Keeps s (s.modFlc f) := .of_rc rfl rfl

theorem modZe_keeps (f : ZE → ZE) (s : State) : Keeps s (s.modZe f) := .of_rc rfl rfl

theorem modCs_keeps (f : CS → CS) (s : State) : Keeps s (s.modCs f) := .of_rc rfl rfl

theorem modCs_calm (f : CS → CS) (s : State) : Calm s (s.modCs f) := .of_rc rfl rfl rfl (.refl _)

/-! ## Reports and the trouble set -/

theorem offer_admits (cls : Cls) (body : Body) (s : State) : Admits s (offer cls body s) := by
  unfold offer
  split <;> exact modSp_admits _ s

/-- R19: the Regime Core after the line is brought to the total. -/
theorem refreshTroubleLine_rc (s : State) :
    (refreshTroubleLine s).rc = { s.rc with commonTrouble := troubleLine s.rc.trouble } := by
  unfold refreshTroubleLine
  split
  · rename_i h
    rw [← h]
  · simp

/-- R18, R19: the Regime Core after a move of the trouble set. -/
theorem troubleMove_rc (src : Source) (rise : Bool) (s : State) :
    (troubleMove src rise s).rc =
      { s.rc with
        trouble := s.rc.trouble.change src (fun n => if rise then n + 1 else n - 1)
        commonTrouble := troubleLine (s.rc.trouble.change src (fun n => if rise then n + 1 else n - 1)) } :=
  refreshTroubleLine_rc _

theorem troubleMove_admits (src : Source) (rise : Bool) (s : State) : Admits s (troubleMove src rise s) := by
  have hrc := troubleMove_rc src rise s
  refine ⟨⟨⟨⟨?_, ?_, ?_, ?_⟩, ?_, ?_⟩, ?_, ?_, ?_, ?_⟩, ?_, ?_, ?_, ?_, ?_, ?_, ?_⟩
  case refine_2 => exact fun _ => troubleMove_line src rise s
  case refine_9 => simpa using FloorsHeld.refl _
  case refine_10 => simpa using FLC.SameShape.refl _
  all_goals simp

/-! ## Nodes and ports -/

/-- One table changed in some records, the change keeping `key`. -/
theorem map_mapIf {α β : Type} (p : α → Bool) (f : α → α) (key : α → β) (h : ∀ x, key (f x) = key x) (l : List α) :
    (mapIf p f l).map key = l.map key := by
  rw [mapIf, List.map_map]
  refine List.map_congr_left fun x _ => ?_
  by_cases hp : p x <;> simp [hp, h]

theorem modNode_sameShape (port : Line) (address : Nat) (f : Node → Node)
    (h : ∀ n, (f n).port = n.port ∧ (f n).address = n.address) (x : FLC) : x.SameShape (x.modNode port address f) :=
  ⟨map_mapIf _ _ _ (fun n => by simp [h n]) _, rfl⟩

theorem modPort_sameShape (port : Line) (f : PortRec → PortRec) (h : ∀ p, (f p).port = p.port) (x : FLC) :
    x.SameShape (x.modPort port f) := ⟨rfl, map_mapIf _ _ _ h _⟩

/-- The marks or the list of a node's images changed. -/
theorem modNode_images_sameShape (port : Line) (address : Nat) (f : Node → List ImageMark) (x : FLC) :
    x.SameShape (x.modNode port address (fun n => { n with images := f n })) :=
  modNode_sameShape port address (fun n => { n with images := f n }) (fun _ => ⟨rfl, rfl⟩) x

theorem askBroadcast_sameShape (loop : Line) (x : FLC) : x.SameShape (x.askBroadcast loop) := by
  unfold FLC.askBroadcast
  split
  · refine modPort_sameShape _ _ ?_ _
    exact fun _ => rfl
  · refine modPort_sameShape _ _ ?_ _
    exact fun _ => rfl

/-! ## Effects and the blocks' changes -/

theorem applyEff_admits (s : State) (e : Eff) : Admits s (applyEff s e) := by
  cases e with
  | report cls body => exact offer_admits cls body s
  | trouble src rise => exact troubleMove_admits src rise s
  | dirty port address name => exact modFlc_admits (modNode_images_sameShape ..)
  | withdraw port address name => exact modFlc_admits (modNode_images_sameShape ..)
  | addImage port address name => exact modFlc_admits (modNode_images_sameShape ..)
  | broadcast loop => exact modFlc_admits (askBroadcast_sameShape loop _)

theorem applyEffs_admits (l : List Eff) (s : State) : Admits s (applyEffs l s) := Admits.foldl applyEff_admits l s

theorem liftLc_calm (f : Acc LC → Acc LC) (s : State) : Calm s (s.liftLc f) :=
  Calm.trans (b := { s with lc := (f ⟨s.lc, []⟩).st }) (.of_rc rfl rfl rfl (.refl _)) (applyEffs_admits _ _).toCalm

theorem liftDs_calm (f : Acc DS → Acc DS) (s : State) : Calm s (s.liftDs f) :=
  Calm.trans (b := { s with ds := (f ⟨s.ds, []⟩).st }) (.of_rc rfl rfl rfl (.refl _)) (applyEffs_admits _ _).toCalm

/-- A change of the doors that keeps their indices is no more than an admission may do. -/
theorem liftDs_admits {f : Acc DS → Acc DS} (h : ∀ a, (f a).st.doors.map (·.index) = a.st.doors.map (·.index))
    (s : State) : Admits s (s.liftDs f) :=
  Admits.trans (b := { s with ds := (f ⟨s.ds, []⟩).st }) (.of_rc rfl rfl rfl (.refl _) rfl rfl (h ⟨s.ds, []⟩))
    (applyEffs_admits _ _)

theorem liftAr_admits (f : Acc ArCtx → Acc ArCtx) (s : State) : Admits s (s.liftAr f) :=
  Admits.trans (b := { s with ar := (f ⟨⟨s.ar, s.ev⟩, []⟩).st.ar, ev := (f ⟨⟨s.ar, s.ev⟩, []⟩).st.ev })
    (.of_rc rfl rfl rfl (.refl _) rfl rfl rfl) (applyEffs_admits _ _)

/-! ## The floor table -/

/-- A change of one floor that holds to `Floor.Held` on the floor that stands there. -/
theorem modify_floorsHeld {l : List Floor} {f : Nat} {g : Floor → Floor} (h : ∀ a, l[f]? = some a → a.Held (g a)) :
    FloorsHeld l (l.modify f g) where
  length := List.length_modify ..
  held n a ha := by
    rw [List.getElem?_modify, ha]
    by_cases hn : f = n
    · subst hn
      exact ⟨g a, by simp, h a ha⟩
    · exact ⟨a, by simp [hn], .refl a⟩

theorem map_floorsHeld {l : List Floor} {g : Floor → Floor} (h : ∀ a : Floor, a.Held (g a)) : FloorsHeld l (l.map g) where
  length := List.length_map _
  held n a ha := ⟨g a, by simp [ha], h a⟩

/-- Floors that are held keep their lockout flags right. -/
theorem FloorsHeld.lockout {l l' : List Floor} (h : FloorsHeld l l')
    (hl : ∀ fl ∈ l, fl.lockout = decide (0 < fl.alarmCount)) : ∀ fl ∈ l', fl.lockout = decide (0 < fl.alarmCount) := by
  intro fl hfl
  obtain ⟨n, hn, rfl⟩ := List.mem_iff_getElem.mp hfl
  have hn' : n < l.length := h.length ▸ hn
  obtain ⟨b, hb, hab⟩ := h.held n l[n] (List.getElem?_eq_getElem hn')
  rw [List.getElem?_eq_getElem hn, Option.some.injEq] at hb
  rw [hb, hab.rest]
  exact hl l[n] (List.getElem_mem hn')

/-- A change of the floor table alone that holds its floors. -/
theorem Admits.of_floors {s : State} {l : List Floor} (h : FloorsHeld s.rc.floors l) :
    Admits s (s.modRc (fun r => { r with floors := l })) :=
  ⟨⟨⟨⟨id, id, h.lockout, id⟩, rfl, rfl⟩, rfl, rfl, h, .refl _⟩, rfl, rfl, rfl, rfl, rfl, rfl, rfl⟩

end Sys2Proof.Machine
end

section
/-!
Admissions and confirmations: what the door points, the Egress Scheduler and the Regime Core's own operations can do.
-/

namespace Sys2Proof.Machine

/-! ## The door points' table -/

@[simp] theorem DAcc.syncModule_doors (loop : Line) (address : Nat) (a : DAcc) :
    (a.syncModule loop address).st.doors = a.st.doors := by
  unfold DAcc.syncModule
  dsimp only
  split <;> rfl

@[simp] theorem DAcc.put_doors (d : Door) (a : DAcc) :
    (a.put d).st.doors = mapIf (fun e => e.index = d.index) (fun _ => d) a.st.doors :=
  DAcc.syncModule_doors ..

@[simp] theorem redriven_index (dwell : Nat) (goal : Drive) (d : Door) : (redriven dwell goal d).index = d.index := by
  unfold redriven
  split <;> rfl

@[simp] theorem redriven_drive (dwell : Nat) (goal : Drive) (d : Door) : (redriven dwell goal d).drive = goal := by
  unfold redriven
  split <;> rfl

/-- R105: the points after a latch is set. -/
theorem DAcc.setDrive_doors (env : DEnv) (goal : Drive) (a : DAcc) (d : Door) :
    (a.setDrive env goal d).st.doors =
      if d.drive = goal then a.st.doors
      else mapIf (fun e => e.index = d.index) (fun _ => redriven a.st.dwell goal d) a.st.doors := by
  unfold DAcc.setDrive
  split
  · rfl
  · simp [DAcc.tellIf]

/-- One record of a keyed table replaced by one of its key. -/
theorem map_mapIf_key {α : Type} (key : α → Nat) (d : α) (l : List α) :
    (mapIf (fun e => key e = key d) (fun _ => d) l).map key = l.map key := by
  rw [mapIf, List.map_map]
  refine List.map_congr_left fun x _ => ?_
  by_cases h : key x = key d <;> simp [h]

@[simp] theorem DAcc.put_indices (d : Door) (a : DAcc) :
    (a.put d).st.doors.map (·.index) = a.st.doors.map (·.index) := by
  rw [DAcc.put_doors]
  exact map_mapIf_key Door.index d _

@[simp] theorem DAcc.setDrive_indices (env : DEnv) (goal : Drive) (a : DAcc) (d : Door) :
    (a.setDrive env goal d).st.doors.map (·.index) = a.st.doors.map (·.index) := by
  rw [DAcc.setDrive_doors]
  split
  · rfl
  · have h := map_mapIf_key Door.index (redriven a.st.dwell goal d) a.st.doors
    rwa [redriven_index] at h

/-- What every step of a fold keeps of an accumulator, the fold keeps. -/
theorem foldl_keeps {α β : Type} {P : β → Prop} {op : β → α → β} (h : ∀ b a, P b → P (op b a)) (l : List α) (b : β)
    (hb : P b) : P (l.foldl op b) := by
  induction l generalizing b with
  | nil => exact hb
  | cons a l ih => exact ih _ (h b a hb)

@[simp] theorem DAcc.recompute_indices (env : DEnv) (p : Door → Bool) (a : DAcc) :
    (a.recompute env p).st.doors.map (·.index) = a.st.doors.map (·.index) :=
  foldl_keeps (P := fun b : DAcc => b.st.doors.map (·.index) = a.st.doors.map (·.index))
    (fun b d hb => (DAcc.setDrive_indices env _ b d).trans hb) _ a rfl

@[simp] theorem DAcc.floorAdmitted_indices (env : DEnv) (f : Nat) (a : DAcc) :
    (a.floorAdmitted env f).st.doors.map (·.index) = a.st.doors.map (·.index) := DAcc.recompute_indices ..

/-! ## Admissions (R6) -/

theorem reportFloor_admits (cls : Cls) (cause : FloorCause) (f : Nat) (s : State) :
    Admits s (reportFloor cls cause f s) := by
  unfold reportFloor
  split
  · exact offer_admits ..
  · exact .refl s

/-- R6: the admission of a floor in ALERT holds it. -/
theorem admittedFloor_held {kind : AdmKind} {shares : Option (List (Nat × Nat))} {time : Seconds} {fl : Floor}
    (h : fl.state = .alert) : fl.Held (admittedFloor kind shares time fl) :=
  ⟨rfl, fun he => by simp [h] at he, fun _ => by simp [admittedFloor]⟩

theorem modFloor_admits {f : Nat} {g : Floor → Floor} {s : State}
    (h : ∀ a, s.rc.floors[f]? = some a → a.Held (g a)) : Admits s (s.modRc (fun r => r.modFloor f g)) :=
  Admits.of_floors (modify_floorsHeld h)

theorem admitFloor_admits (kind : AdmKind) (shares : Option (List (Nat × Nat))) (told : Bool) (f : Nat) (s : State) :
    Admits s (admitFloor kind shares told f s) := by
  unfold admitFloor
  split
  case isFalse => exact .refl s
  case isTrue h =>
    have hfloor : Admits s (s.modRc (fun r => r.modFloor f (admittedFloor kind shares r.secondCount))) :=
      modFloor_admits (g := admittedFloor kind shares s.rc.secondCount) fun a ha =>
        admittedFloor_held (by simpa [floorState, ha] using h)
    refine (hfloor.trans ?_).trans ((liftDs_admits (fun a => DAcc.floorAdmitted_indices _ f a) _).trans
      (liftAr_admits _ _))
    split
    · exact reportFloor_admits ..
    · exact .refl _

/-! ## The Egress Scheduler (chapter 03) -/

theorem reportStair_admits (cause : StairCause) (i : Nat) (floor : Option (Nat × Label)) (s : State) :
    Admits s (reportStair cause i floor s) := by
  unfold reportStair
  split
  · exact offer_admits ..
  · exact .refl s

theorem addShare_admits (s : State) (e : Nat × Nat) : Admits s (addShare s e) := by
  unfold addShare
  split
  case h_1 => exact .refl s
  case h_2 st _ =>
    have added := modEs_admits (ES.modStair e.1 (loadedStair e.2)) s
    have told := Admits.ite (c := (loadedStair e.2 st).cond = st.cond) added
      (added.trans (reportStair_admits .congested e.1 none _))
    exact .ite (.refl s) (.ite told (told.trans (reportStair_admits ..)))

theorem admitStep_admits (kind : AdmKind) (f : Nat) (s : State) : Admits s (admitStep kind f s) := by
  unfold admitStep
  have off := modEs_admits (fun x => { x with waiting := x.waiting.erase f }) s
  split
  case h_1 => exact off
  case h_2 =>
    refine .ite ?_ off
    dsimp only
    split
    · exact (off.trans (admitFloor_admits ..)).trans (reportStair_admits ..)
    · exact (off.trans (admitFloor_admits ..)).trans (Admits.foldl addShare_admits _ _)

theorem restartAdvance_admits (s : State) : Admits s (restartAdvance s) := modEs_admits _ s

theorem attemptRounds_admits (n : Nat) (s : State) : Admits s (attemptRounds n s) := by
  induction n generalizing s with
  | zero => exact .refl s
  | succ n ih =>
    have round (f : Nat) : Admits s (attemptRounds n (restartAdvance (admitStep .ordered f s))) :=
      ((admitStep_admits ..).trans (restartAdvance_admits _)).trans (ih _)
    unfold attemptRounds
    split
    · exact .refl s
    · split
      · exact round _
      · split
        · exact .refl s
        · exact round _

theorem attempt_admits (s : State) : Admits s (attempt s) := attemptRounds_admits _ s

theorem regimeStart_admits (o : Nat) (s : State) : Admits s (regimeStart o s) := by
  have built := modEs_admits (fun x => { x with waiting := buildList o s }) s
  refine Admits.trans ?_ ((restartAdvance_admits _).trans (attempt_admits _))
  exact .ite (built.trans (admitStep_admits ..)) built

theorem newOrigin_admits (o : Nat) (s : State) : Admits s (newOrigin o s) := by
  have taken : Admits s (if s.es.waiting.contains o then admitStep .origin o s else s) :=
    .ite (admitStep_admits ..) (.refl s)
  have promoted := taken.trans (modEs_admits (fun x => { x with waiting := promoteNeighbours o x.waiting }) _)
  exact .ite promoted (promoted.trans (attempt_admits _))

theorem evacuateFloor_admits (s : State) (f : Nat) : Admits s (evacuateFloor s f) := by
  unfold evacuateFloor
  split
  · exact admitStep_admits ..
  · split
    · exact admitFloor_admits ..
    · exact .refl s

theorem evacuateSpan_admits (floors : List Nat) (s : State) : Admits s (evacuateSpan floors s) := by
  have span := Admits.foldl evacuateFloor_admits floors s
  unfold evacuateSpan
  dsimp only
  exact .ite (.trans (.ite (span.trans (restartAdvance_admits _)) span) (attempt_admits _))
    (.ite (span.trans (restartAdvance_admits _)) span)

theorem drainExpired_admits (i : Nat) (s : State) : Admits s (drainExpired i s) := by
  unfold drainExpired
  split
  · exact .refl s
  · have drained := modEs_admits (ES.modStair i (fun x => reopenedStair (drainedStair x))) s
    exact .ite (.ite drained (drained.trans ((reportStair_admits ..).trans (attempt_admits _)))) (.refl s)

theorem advanceExpired_admits (s : State) : Admits s (advanceExpired s) := by
  unfold advanceExpired
  split
  · split
    · exact modEs_admits _ s
    · exact ((admitStep_admits ..).trans (restartAdvance_admits _)).trans (attempt_admits _)
  · exact .refl s

theorem compromise_admits (i : Nat) (s : State) : Admits s (compromise i s) := by
  unfold compromise
  split
  · exact .refl s
  · split
    · exact .refl s
    · exact ((modEs_admits _ s).trans (reportStair_admits ..)).trans (attempt_admits _)

theorem bulkAdmission_admits (s : State) : Admits s (bulkAdmission s) :=
  (Admits.foldl (op := fun b f => admitStep .general f b) (fun b f => admitStep_admits .general f b) s.es.waiting s).trans
    (modEs_admits (fun x => { x with advanceTimer := none }) _)

theorem admitQuietly_admits (kind : AdmKind) (floors : List Nat) (s : State) :
    Admits s (admitQuietly kind floors s) := Admits.foldl (fun b f => admitFloor_admits kind none false f b) _ s

/-! ## Confirmations (chapter 01) -/

/-- R1: the Regime Core after a change of level. -/
@[simp] theorem changeLevel_rc (new : Level) (cause : RegimeCause) (s : State) :
    (changeLevel new cause s).rc =
      { s.rc with level := new, entryTime := s.rc.secondCount, commonAlarm := alarmLine new } := by
  simp [changeLevel]

theorem changeLevel_calm (new : Level) (cause : RegimeCause) (s : State) : Calm s (changeLevel new cause s) :=
  Calm.trans (b := s.modRc _) ⟨⟨⟨fun _ => rfl, id, id, id⟩, rfl, rfl⟩, rfl, rfl, .refl _, .refl _⟩
    (offer_admits ..).toCalm

theorem abortSession_calm (s : State) : Calm s (abortSession s) := by
  unfold abortSession
  split
  · exact (modCs_calm _ s).trans (offer_admits ..).toCalm
  · exact .refl s

/-- R4: the floors of a regime entry are held. -/
theorem alertedFloor_held (fl : Floor) : fl.Held (alertedFloor fl) := by
  unfold alertedFloor
  split
  case isTrue h => exact ⟨rfl, fun he => by simp [h] at he, fun _ => by simp⟩
  case isFalse => exact .refl fl

theorem enterRegime_calm (level : Level) (cause : RegimeCause) (s : State) : Calm s (enterRegime level cause s) :=
  .trans (b := (changeLevel level cause s).modRc (RC.eachFloor alertedFloor))
    ((changeLevel_calm level cause s).trans (Admits.of_floors (map_floorsHeld alertedFloor_held)).toCalm)
    (((liftAr_admits _ _).toCalm.trans (liftDs_calm _ _)).trans ((liftLc_calm _ _).trans (abortSession_calm _)))

theorem enterPhased_calm (origin : Nat) (s : State) : Calm s (enterPhased origin s) :=
  (enterRegime_calm ..).trans ((admitQuietly_admits ..).trans (regimeStart_admits ..)).toCalm

theorem generalSteps_calm (s : State) : Calm s (generalSteps s) :=
  ((bulkAdmission_admits s).trans (admitQuietly_admits ..)).toCalm.trans ((liftLc_calm _ _).trans (liftDs_calm _ _))

theorem enterGeneral_calm (cause : RegimeCause) (s : State) : Calm s (enterGeneral cause s) := by
  unfold enterGeneral
  split
  · exact .refl s
  · exact (changeLevel_calm ..).trans (generalSteps_calm _)
  · exact (enterRegime_calm ..).trans (generalSteps_calm _)

/-- R3: a floor that the list takes leaves it within 8 floors, none twice. -/
theorem takesOrigin_keeps {l : List Nat} {o : Nat} (ht : takesOrigin l o = true) (hl : l.length ≤ 8 ∧ l.Nodup) :
    (l ++ [o]).length ≤ 8 ∧ (l ++ [o]).Nodup := by
  simp only [takesOrigin, Config.originCap, Bool.and_eq_true, Bool.not_eq_true', List.contains_eq_mem,
    decide_eq_false_iff_not] at ht
  obtain ⟨hnot, hroom⟩ := ht
  refine ⟨by simpa using of_decide_eq_true hroom, List.Nodup.append hl.2 (List.nodup_singleton o) ?_⟩
  simpa using hnot

theorem recordOrigin_calm (o : Nat) (s : State) : Calm s (recordOrigin o s) := by
  unfold recordOrigin
  split
  case isFalse => exact .refl s
  case isTrue ht =>
    have hfloors : FloorsHeld s.rc.floors (s.rc.floors.modify o (fun fl => { fl with origin := true })) :=
      modify_floorsHeld fun a _ => ⟨rfl, fun h => ⟨h, rfl⟩, fun h => by simp [h]⟩
    exact ⟨⟨⟨id, id, hfloors.lockout, takesOrigin_keeps ht⟩, rfl, rfl⟩, rfl, rfl, hfloors, .refl _⟩

theorem originAt_calm (o : Nat) (s : State) : Calm s (originAt o s) := by
  have entry : Calm s (match (recordOrigin o s).rc.level with
      | .normal => enterPhased o (recordOrigin o s)
      | .phased => if takesOrigin s.rc.origins o then newOrigin o (recordOrigin o s) else recordOrigin o s
      | .general => recordOrigin o s) := by
    refine (recordOrigin_calm o s).trans ?_
    split
    · exact enterPhased_calm ..
    · split
      · exact (newOrigin_admits ..).toCalm
      · exact .refl _
    · exact .refl _
  exact .ite (entry.trans (enterGeneral_calm ..)) entry

theorem recallByZone_calm (z : Zone) (s : State) : Calm s (recallByZone z s) := liftLc_calm _ s

theorem confirmation_calm (z : Zone) (s : State) : Calm s (confirmation z s) := by
  unfold confirmation
  split
  · exact (recordOrigin_calm 0 s).trans (enterGeneral_calm ..)
  · split
    case h_8 =>
      split
      · exact (compromise_admits ..).toCalm.trans (originAt_calm ..)
      · exact originAt_calm ..
    case h_9 => exact enterGeneral_calm ..
    case h_10 => exact recallByZone_calm z s
    case h_5 => exact (originAt_calm ..).trans (recallByZone_calm z _)
    case h_6 => exact (originAt_calm ..).trans (recallByZone_calm z _)
    case h_7 => exact (originAt_calm ..).trans (recallByZone_calm z _)
    all_goals exact originAt_calm ..

theorem clearance_calm (z : Zone) (s : State) : Calm s (clearance z s) := by
  unfold clearance
  split
  · exact .refl s
  · exact liftLc_calm _ s

end Sys2Proof.Machine
end

section
/-!
Every event keeps the properties of the Regime Core (`Keeps`): the reset, the zones, the field lines, the restarts, the store,
the requests, the receiver and, at the end, the step.
-/

namespace Sys2Proof.Machine

/-! ## Alarm counts and the reset (R5, R16, R17) -/

/-- A change of the floor table that keeps the lockout flags right. -/
theorem Keeps.of_floors {s : State} {l : List Floor}
    (h : (∀ fl ∈ s.rc.floors, fl.lockout = decide (0 < fl.alarmCount)) → ∀ fl ∈ l, fl.lockout = decide (0 < fl.alarmCount)) :
    Keeps s (s.modRc (fun r => { r with floors := l })) := ⟨⟨id, id, h, id⟩, rfl, rfl⟩

/-- A property of every record stays where the change of one record brings it about. -/
theorem forall_mem_modify {α : Type} {p : α → Prop} {l : List α} {n : Nat} {g : α → α} (hg : ∀ x, p x → p (g x))
    (h : ∀ x ∈ l, p x) : ∀ x ∈ l.modify n g, p x := by
  intro x hx
  obtain ⟨m, hm, rfl⟩ := List.mem_iff_getElem.mp hx
  rw [List.length_modify] at hm
  rw [List.getElem_modify]
  split
  · exact hg _ (h _ (List.getElem_mem hm))
  · exact h _ (List.getElem_mem hm)

theorem reportFloor_keeps (cls : Cls) (cause : FloorCause) (f : Nat) (s : State) :
    Keeps s (reportFloor cls cause f s) := (reportFloor_admits ..).toKeeps

/-- R5: the flag follows the count. -/
theorem moveAlarmCount_keeps (change : Nat → Nat) (f : Nat) (s : State) : Keeps s (moveAlarmCount change f s) := by
  unfold moveAlarmCount
  split
  · exact .refl s
  · rename_i fl _
    have moved : Keeps s (s.modRc (fun r => r.modFloor f (fun x =>
        { x with alarmCount := change fl.alarmCount, lockout := decide (0 < change fl.alarmCount) }))) :=
      Keeps.of_floors (forall_mem_modify fun _ _ => rfl)
    exact .ite moved ((moved.trans (liftLc_calm _ _).toKeeps).trans (reportFloor_keeps ..))

/-- The pending mark of a reset set or taken away. -/
theorem modRc_resetPending_keeps (b : Bool) (s : State) :
    Keeps s (s.modRc (fun r => { r with resetPending := b })) := ⟨⟨id, id, id, id⟩, rfl, rfl⟩

theorem reportRegime_admits (cause : RegimeCause) (s : State) : Admits s (reportRegime cause s) := offer_admits ..

theorem abandonReset_keeps (s : State) : Keeps s (abandonReset s) :=
  .ite (((modRc_resetPending_keeps false s).trans (modZe_keeps _ _)).trans (reportRegime_admits ..).toKeeps) (.refl s)

theorem completeReset_keeps (s : State) : Keeps s (completeReset s) := by
  have ended := (modRc_resetPending_keeps false s).trans (changeLevel_calm .normal .resetComplete _).toKeeps
  have quiet (u : State) : Keeps u (u.modRc (fun r => { r.eachFloor quietFloor with origins := [] })) := by
    refine ⟨⟨id, id, fun h fl hfl => ?_, fun _ => ⟨Nat.zero_le 8, List.nodup_nil⟩⟩, rfl, rfl⟩
    obtain ⟨a, ha, rfl⟩ := List.mem_map.mp hfl
    exact h a ha
  have cleared := (ended.trans (quiet _)).trans (modEs_admits (fun x =>
    { x with waiting := [], advanceTimer := none, stairs := x.stairs.map clearedStair }) _).toKeeps
  unfold completeReset
  exact ((cleared.trans (liftLc_calm _ _).toKeeps).trans (liftDs_calm _ _).toKeeps).trans (liftAr_admits _ _).toKeeps

theorem testCompletion_keeps (s : State) : Keeps s (testCompletion s) := .ite (completeReset_keeps s) (.refl s)

theorem riseNotice_keeps (f : Nat) (s : State) : Keeps s (riseNotice f s) :=
  ((abandonReset_keeps s).trans (moveAlarmCount_keeps ..)).trans (abortSession_calm _).toKeeps

theorem fallNotice_keeps (f : Nat) (s : State) : Keeps s (fallNotice f s) :=
  (moveAlarmCount_keeps ..).trans (testCompletion_keeps _)

theorem confirmation_keeps (z : Zone) (s : State) : Keeps s (confirmation z s) := (confirmation_calm z s).toKeeps

/-! ## The Zone Engine (chapter 02) -/

theorem offer_keeps (cls : Cls) (body : Body) (s : State) : Keeps s (offer cls body s) := (offer_admits ..).toKeeps

theorem troubleMove_keeps (src : Source) (rise : Bool) (s : State) : Keeps s (troubleMove src rise s) :=
  (troubleMove_admits ..).toKeeps

theorem queueAction_keeps (link : Line) (a : Action) (s : State) : Keeps s (queueAction link a s) := by
  unfold queueAction
  split
  · exact modFlc_keeps _ s
  · exact .refl s

theorem offerReset_keeps (z : Zone) (s : State) : Keeps s (offerReset z s) := .ite (queueAction_keeps ..) (.refl s)

theorem offerSnapshot_keeps (link : Line) (s : State) : Keeps s (offerSnapshot link s) :=
  (queueAction_keeps ..).trans (modZe_keeps _ _)

theorem zoneTrouble_keeps (old new : Zone) (s : State) : Keeps s (zoneTrouble old new s) :=
  .ite (.refl s) (troubleMove_keeps ..)

theorem zoneNotices_keeps (old new : Zone) (s : State) : Keeps s (zoneNotices old new s) := by
  unfold zoneNotices
  split
  · exact .refl s
  · exact .refl s
  · exact riseNotice_keeps ..
  · exact confirmation_keeps ..
  · exact (riseNotice_keeps ..).trans (confirmation_keeps ..)
  · exact (clearance_calm ..).toKeeps.trans (fallNotice_keeps ..)
  · exact fallNotice_keeps ..
  · exact .refl s

theorem changeZone_keeps (cls : Cls) (cause : ZoneCause) (old new : Zone) (s : State) :
    Keeps s (changeZone cls cause old new s) :=
  (((modZe_keeps _ s).trans (offer_keeps ..)).trans (zoneNotices_keeps ..)).trans (zoneTrouble_keeps ..)

theorem corroborateZone_keeps (s : State) (z : Zone) : Keeps s (corroborateZone s z) := by
  unfold corroborateZone
  split
  · exact .ite (changeZone_keeps ..) (.refl s)
  · exact .refl s

theorem corroborate_keeps (z : Zone) (s : State) : Keeps s (corroborate z s) :=
  (changeZone_keeps ..).trans (Keeps.foldl corroborateZone_keeps _ _)

theorem takeAlarm_keeps (z : Zone) (s : State) : Keeps s (takeAlarm z s) := by
  have fresh : Keeps s (if corroborated s.ze.zones z then corroborate z s else if z.verify then startWindow z s
      else changeZone .alarm .arrival z z.confirm s) :=
    .ite (corroborate_keeps ..) (.ite ((changeZone_keeps ..).trans (offerReset_keeps ..)) (changeZone_keeps ..))
  unfold takeAlarm
  split
  · exact fresh
  · exact fresh
  · exact fresh
  · exact .ite (changeZone_keeps ..) (.refl s)
  · exact .refl s
  · exact .refl s

theorem takeNormal_keeps (z : Zone) (s : State) : Keeps s (takeNormal z s) := by
  unfold takeNormal
  split
  · exact changeZone_keeps ..
  · exact changeZone_keeps ..
  · exact modZe_keeps _ s
  · exact .ite (changeZone_keeps ..) (.refl s)
  · exact .refl s
  · exact .refl s

theorem takeFault_keeps (cause : ZoneCause) (z : Zone) (s : State) : Keeps s (takeFault cause z s) := by
  unfold takeFault
  split
  · exact changeZone_keeps ..
  · exact changeZone_keeps ..
  all_goals exact .refl s

theorem takeInput_keeps (cause : ZoneCause) (input : Input) (z : Zone) (s : State) :
    Keeps s (takeInput cause input z s) := by
  refine (modZe_keeps (ZE.putZone { z with lastInput := some input }) s).trans ?_
  cases input with
  | alarm => exact takeAlarm_keeps ..
  | normal => exact takeNormal_keeps ..
  | fault => exact takeFault_keeps ..

theorem makeZone_keeps (link : Line) (number : Nat) (s : State) : Keeps s (makeZone link number s) :=
  (modZe_keeps _ s).trans (troubleMove_keeps ..)

theorem confirmWithoutRecord_keeps (link : Line) (number : Nat) (s : State) :
    Keeps s (confirmWithoutRecord link number s) := by
  unfold confirmWithoutRecord
  exact Keeps.trans (offer_keeps ..) (confirmation_keeps ..)

theorem arrive_keeps (listed : Bool) (cause : ZoneCause) (link : Line) (number : Nat) (input : Input) (s : State) :
    Keeps s (arrive listed cause link number input s) := by
  unfold arrive
  split
  · exact .ite (.refl s) (takeInput_keeps ..)
  · refine .ite (.ite ?_ (.ite ?_ (.refl s))) (.refl s)
    · exact (makeZone_keeps ..).trans (takeInput_keeps ..)
    · exact confirmWithoutRecord_keeps ..

theorem windowExpired_keeps (link : Line) (number : Nat) (s : State) : Keeps s (windowExpired link number s) := by
  unfold windowExpired
  split
  · exact .refl s
  · split
    · exact .refl s
    · refine .ite (.refl s) (.ite (changeZone_keeps ..) ?_)
      split <;> exact changeZone_keeps ..

theorem takeChanges_keeps (link : Line) (entries : List (Nat × Input)) (s : State) :
    Keeps s (takeChanges link entries s) :=
  Keeps.foldl (op := fun b (e : Nat × Input) => arrive true .arrival link e.1 e.2 b) (fun b e => arrive_keeps true .arrival link e.1 e.2 b) entries s

theorem takeSnapshot_keeps (link : Line) (entries : List (Nat × Input)) (s : State) :
    Keeps s (takeSnapshot link entries s) := by
  have listed := (modZe_keeps (ZE.modLink link (fun l => { l with snapshotOwed := false })) s).trans
    (Keeps.foldl (op := fun b (e : Nat × Input) => arrive false .arrival link e.1 e.2 b) (fun b e => arrive_keeps false .arrival link e.1 e.2 b) entries _)
  exact listed.trans
    (Keeps.foldl (op := fun b (z : Zone) => arrive false .snapshotMissing link z.number .fault b)
      (fun b z => arrive_keeps false .snapshotMissing link z.number .fault b) _ _)

theorem zonesDown_keeps (link : Line) (s : State) : Keeps s (zonesDown link s) :=
  ((modZe_keeps _ s).trans (offer_keeps ..)).trans
    (Keeps.foldl (op := fun b _ => troubleMove .zones true b) (fun _ _ => troubleMove_keeps ..) _ _)

theorem resetZone_keeps (s : State) (z : Zone) : Keeps s (resetZone s z) := by
  unfold resetZone
  split
  · exact .refl s
  · split
    · exact .ite (((modZe_keeps _ s).trans (clearance_calm ..).toKeeps).trans (moveAlarmCount_keeps ..)) (modZe_keeps _ s)
    · exact ((modZe_keeps _ s).trans (moveAlarmCount_keeps ..)).trans (offerReset_keeps ..)
    · exact .refl s

theorem resetPass_keeps (s : State) : Keeps s (resetPass s) := Keeps.foldl resetZone_keeps _ s

theorem startReset_keeps (s : State) : Keeps s (startReset s) :=
  (((modRc_resetPending_keeps true s).trans (reportRegime_admits ..).toKeeps).trans (resetPass_keeps _)).trans
    (testCompletion_keeps _)

theorem enableZone_keeps (z : Zone) (s : State) : Keeps s (enableZone z s) := by
  unfold enableZone
  split
  · exact .ite ((changeZone_keeps ..).trans (takeInput_keeps ..)) (changeZone_keeps ..)
  · exact changeZone_keeps ..

theorem debounced_keeps (n : Nat) (s : State) : Keeps s (debounced n s) := by
  unfold debounced
  split
  · exact .refl s
  · have delivered := modZe_keeps (ZE.modLine n (fun x => { x with debouncing := false, delivered := some x.pin })) s
    exact .ite (.ite delivered (delivered.trans (arrive_keeps ..))) (.refl s)

/-! ## The field lines (chapter 07) -/

theorem startSlot_keeps (port : Line) (s : State) : Keeps s (startSlot port s) := by
  unfold startSlot
  split
  · exact .refl s
  · split
    · exact modFlc_keeps _ s
    · exact .refl s

theorem tellUp_keeps (port : Line) (address : Nat) (s : State) : Keeps s (tellUp port address s) := by
  cases port with
  | p i => exact modZe_keeps _ s
  | g i => exact (liftLc_calm _ s).toKeeps
  | d i => exact (liftDs_calm _ s).toKeeps
  | a => exact (liftAr_admits _ s).toKeeps
  | l => exact .refl s

theorem tellDown_keeps (port : Line) (address : Nat) (s : State) : Keeps s (tellDown port address s) := by
  cases port with
  | p i => exact zonesDown_keeps _ s
  | g i => exact (liftLc_calm _ s).toKeeps
  | d i => exact (liftDs_calm _ s).toKeeps
  | a => exact (liftAr_admits _ s).toKeeps
  | l => exact .refl s

theorem modNodeAt_keeps (port : Line) (address : Nat) (f : Node → Node) (s : State) :
    Keeps s (modNodeAt port address f s) := modFlc_keeps _ s

theorem reportNode_keeps (cls : Cls) (cause : NodeCause) (port : Line) (address : Nat) (s : State) :
    Keeps s (reportNode cls cause port address s) := by
  unfold reportNode
  split
  · exact offer_keeps ..
  · exact .refl s

theorem enterLive_keeps (port : Line) (address : Nat) (s : State) : Keeps s (enterLive port address s) := by
  have live := modNodeAt_keeps port address Node.goLive s
  have asked := Keeps.ite (c := port.isPanel = true) (live.trans (offerSnapshot_keeps port _)) live
  exact ((asked.trans (reportNode_keeps ..)).trans (tellUp_keeps ..)).trans (troubleMove_keeps ..)

theorem enterLost_keeps (port : Line) (address : Nat) (s : State) : Keeps s (enterLost port address s) :=
  (((modNodeAt_keeps ..).trans (reportNode_keeps ..)).trans (tellDown_keeps ..)).trans (troubleMove_keeps ..)

theorem stateAfterReply_keeps (port : Line) (address : Nat) (n : Node) (s : State) :
    Keeps s (stateAfterReply port address n s) := by
  unfold stateAfterReply
  split
  · exact modNodeAt_keeps ..
  · exact modNodeAt_keeps ..
  · exact .ite (enterLive_keeps ..) (.refl s)
  · exact .refl s
  · exact (modNodeAt_keeps ..).trans (reportNode_keeps ..)

theorem stateAfterMiss_keeps (port : Line) (address : Nat) (n : Node) (s : State) :
    Keeps s (stateAfterMiss port address n s) := by
  unfold stateAfterMiss
  split
  · exact .refl s
  · exact .refl s
  · exact (modNodeAt_keeps ..).trans (tellDown_keeps ..)
  · exact .ite ((modNodeAt_keeps ..).trans (reportNode_keeps ..)) (.refl s)
  · exact .ite (enterLost_keeps ..) (.refl s)

theorem supervise_keeps (valid : Bool) (port : Line) (address : Nat) (s : State) :
    Keeps s (supervise valid port address s) := by
  have counted := modNodeAt_keeps port address (if valid then countGood else countMiss) s
  unfold supervise
  dsimp only
  split
  · exact counted
  · exact .ite (counted.trans (stateAfterReply_keeps ..)) (counted.trans (stateAfterMiss_keeps ..))

theorem offerAgain_keeps (port : Line) (s : State) : Keeps s (offerAgain port s) :=
  .ite (offerSnapshot_keeps ..) (.refl s)

theorem deliverGroup_keeps (n : Nat) (c : Carried) (echo : LandingMask) (answer : Option AnswerBlock)
    (entries : List CarEntry) (s : State) : Keeps s (deliverGroup n c echo answer entries s) := by
  unfold deliverGroup
  exact (liftLc_calm _ s).toKeeps

theorem deliver_keeps (port : Line) (address : Nat) (c : Carried) (r : FieldReply) (s : State) :
    Keeps s (deliver port address c r s) := by
  cases r with
  | quiet => exact offerAgain_keeps ..
  | changes es => exact (takeChanges_keeps ..).trans (offerAgain_keeps ..)
  | snapshot es => exact (takeSnapshot_keeps ..).trans (offerAgain_keeps ..)
  | group echo answer es =>
    cases port with
    | g i => exact deliverGroup_keeps ..
    | _ => exact .refl s
  | module sensed => exact (liftDs_calm _ s).toKeeps
  | matrix marks => exact (liftAr_admits _ s).toKeeps

theorem takeReply_keeps (port : Line) (sl : Slot) (r : FieldReply) (s : State) : Keeps s (takeReply port sl r s) :=
  (((((modFlc_keeps _ s).trans (modNodeAt_keeps ..)).trans (deliver_keeps ..)).trans (modNodeAt_keeps ..)).trans
    (supervise_keeps ..)).trans (modNodeAt_keeps ..)

theorem receiveReply_keeps (kind : Byte) (port : Line) (address control : Byte) (payload : List Byte) (s : State) :
    Keeps s (receiveReply kind port address control payload s) := by
  unfold receiveReply
  split
  · exact .refl s
  · split
    · exact .refl s
    · exact .ite (takeReply_keeps ..) (.refl s)

theorem missSlot_keeps (port : Line) (s : State) : Keeps s (missSlot port s) := by
  unfold missSlot
  split
  · exact .refl s
  · rename_i sl _
    have ended := (modFlc_keeps (endSlot port) s).trans (modNodeAt_keeps port sl.address (missedNode sl.carried) _)
    dsimp only
    refine Keeps.trans ?_ (supervise_keeps ..)
    split
    · exact ended.trans (liftLc_calm _ _).toKeeps
    · exact ended

/-! ## Restarts and the store (chapters 08 and 09) -/

/-- R20, R5, R3: the Regime Core in its power-on state. -/
theorem bootRC_keeps (t : Tables) (count : Seconds) (r : RC) :
    r.Keeps (bootRC t count (troubleLine (bootTrouble t))) where
  alarm _ := rfl
  trouble _ := rfl
  lockout _ := by
    intro fl hfl
    cases t with
    | none =>
      obtain ⟨n, -, rfl⟩ := List.mem_map.mp hfl
      rfl
    | some i =>
      obtain ⟨x, -, rfl⟩ := List.mem_map.mp hfl
      rfl
  origins _ := ⟨Nat.zero_le 8, List.nodup_nil⟩

/-- R19, R23: the Regime Core after a restart and the move of its line. -/
theorem refreshTroubleLine_bootBlocks_rc (t : Tables) (count : Seconds) (line : Bool) (s : State) :
    (refreshTroubleLine (bootBlocks t count line s)).rc = bootRC t count (troubleLine (bootTrouble t)) :=
  refreshTroubleLine_rc _

@[simp] theorem coldBoot_rc (t : Tables) (cls : Cls) (report : Body) (s : State) :
    (coldBoot t cls report s).rc = bootRC t s.rc.secondCount (troubleLine (bootTrouble t)) := by
  rw [coldBoot, refreshTroubleLine_bootBlocks_rc]
  simp

theorem coldBoot_keeps (t : Tables) (cls : Cls) (report : Body) (s : State) : Keeps s (coldBoot t cls report s) where
  rc := coldBoot_rc t cls report s ▸ bootRC_keeps ..
  count := by rw [coldBoot_rc]; rfl
  pending := by simp [coldBoot, bootBlocks]

theorem modSp_keeps (f : SP → SP) (s : State) : Keeps s (s.modSp f) := (modSp_admits f s).toKeeps

theorem warmDown_keeps (s : State) (n : Node) : Keeps s (warmDown s n) :=
  .ite (tellDown_keeps ..) ((tellDown_keeps ..).trans (troubleMove_keeps ..))

theorem restartWarm_keeps (s : State) : Keeps s (restartWarm s) :=
  (((modSp_keeps _ s).trans (offer_keeps ..)).trans (modFlc_keeps _ _)).trans (Keeps.foldl warmDown_keeps _ _)

theorem restartCold_keeps (s : State) : Keeps s (restartCold s) := (modSp_keeps _ s).trans (coldBoot_keeps ..)

theorem writeComplete_keeps (readBackEqual : Bool) (s : State) : Keeps s (writeComplete readBackEqual s) := by
  unfold writeComplete
  split
  · exact .ite ((modCs_keeps _ s).trans (coldBoot_keeps ..)) (.of_rc (by simp) (by simp))
  · exact .refl s

theorem losePower_keeps (s : State) : Keeps s (losePower s) :=
  Keeps.trans (b := interruptWrite s) (.ite (.of_rc rfl rfl) (.refl s)) (.of_rc rfl rfl)

/-- R2, R23: the Regime Core after a power-on. -/
@[simp] theorem powerUp_rc (s : State) :
    (powerUp s).rc = bootRC (loadedTables (interruptWrite s).cs.store) 0
      (troubleLine (bootTrouble (loadedTables (interruptWrite s).cs.store))) := by
  rw [powerUp, refreshTroubleLine_rc, offer_rc]
  rfl

end Sys2Proof.Machine
end

section
/-!
Every command keeps the properties of the Regime Core: the requests, the receiver, the end of an event, the step. The four
invariants of the Regime Core and the rule of the second count follow.
-/

namespace Sys2Proof.Machine

/-! ## Requests (R165) -/

theorem resetRegime_keeps (s : State) : Keeps s (resetRegime s).2 := by
  unfold resetRegime
  split
  · exact .refl s
  · split
    · exact .refl s
    · exact startReset_keeps s

theorem startGeneral_keeps (s : State) : Keeps s (startGeneral s).2 :=
  (abandonReset_keeps s).trans (enterGeneral_calm ..).toKeeps

theorem evacuateFloors_keeps (lo hi : Nat) (s : State) : Keeps s (evacuateFloors lo hi s).2 := by
  unfold evacuateFloors
  split
  · exact .refl s
  · split
    · exact .refl s
    · exact .ite (.refl s) (evacuateSpan_admits ..).toKeeps

theorem setOccupancy_keeps (f value : Nat) (s : State) : Keeps s (setOccupancy f value s).2 := by
  unfold setOccupancy
  split
  · exact .refl s
  · split
    · exact .refl s
    · exact Keeps.of_floors (forall_mem_modify fun _ h => h)

theorem disableRequest_keeps (link : Line) (number : Nat) (s : State) : Keeps s (disableRequest link number s).2 := by
  unfold disableRequest
  split
  · exact .refl s
  · split
    · exact .refl s
    · exact .refl s
    all_goals exact changeZone_keeps ..

theorem enableRequest_keeps (link : Line) (number : Nat) (s : State) : Keeps s (enableRequest link number s).2 := by
  unfold enableRequest
  split
  · exact .refl s
  · exact .ite (enableZone_keeps ..) (.refl s)

theorem recallGroup_keeps (n : Nat) (s : State) : Keeps s (recallGroup n s).2 := by
  unfold recallGroup
  split
  · exact .refl s
  · exact (liftLc_calm _ s).toKeeps

theorem releaseGroup_keeps (n : Nat) (s : State) : Keeps s (releaseGroup n s).2 := by
  unfold releaseGroup
  split
  · exact .refl s
  · split
    · exact .refl s
    · split
      · exact (liftLc_calm _ s).toKeeps
      · exact .refl s

theorem fireService_keeps (n : Nat) (on : Bool) (s : State) : Keeps s (fireService n on s).2 := by
  unfold fireService
  split
  · exact .refl s
  · split
    · split
      · exact (liftLc_calm _ s).toKeeps
      · exact .refl s
    · exact (liftLc_calm _ s).toKeeps

theorem manualRequest_keeps (add : Bool) (lo hi : Nat) (stairs : QuadSet) (s : State) :
    Keeps s (manualRequest add lo hi stairs s).2 := by
  unfold manualRequest
  split
  · exact .refl s
  · exact .ite (.refl s) (liftDs_calm _ s).toKeeps

theorem announce_keeps (message lo hi repeats : Nat) (s : State) : Keeps s (announce message lo hi repeats s).2 := by
  unfold announce
  split
  · exact .refl s
  · split
    · exact .refl s
    · split
      · exact .refl s
      · split
        · exact .refl s
        · split
          · exact .refl s
          · split
            · exact .refl s
            · split
              · exact .refl s
              · exact (liftAr_admits _ s).toKeeps

theorem cancelAnnouncement_keeps (id : Nat) (s : State) : Keeps s (cancelAnnouncement id s).2 := by
  unfold cancelAnnouncement
  split
  · exact .refl s
  · split
    · exact .refl s
    · split
      · exact (liftAr_admits _ s).toKeeps
      · exact (liftAr_admits _ s).toKeeps

theorem beginLive_keeps (lo hi : Nat) (s : State) : Keeps s (beginLive lo hi s).2 := by
  unfold beginLive
  split
  · exact .refl s
  · split
    · exact .refl s
    · split
      · exact .refl s
      · split
        · exact .refl s
        · exact (liftAr_admits _ s).toKeeps

theorem endLive_keeps (s : State) : Keeps s (endLive s).2 := by
  unfold endLive
  split
  · exact .refl s
  · exact (liftAr_admits _ s).toKeeps

theorem requestRestart_keeps (form : RestartForm) (s : State) : Keeps s (requestRestart form s).2 := by
  unfold requestRestart
  split
  · exact .refl s
  · split
    · exact .refl s
    · exact modSp_keeps (fun p => { p with restart := some form, restartDue := false }) s

theorem beginCommission_keeps (s : State) : Keeps s (beginCommission s).2 := by
  unfold beginCommission
  split
  · exact .refl s
  · split
    · exact .refl s
    · split
      · exact .refl s
      · exact (modCs_keeps _ s).trans (offer_keeps ..)

theorem writeConfig_keeps (index : Nat) (r : ConfigRecord) (s : State) : Keeps s (writeConfig index r s).2 := by
  unfold writeConfig
  split
  · exact .refl s
  · split
    · exact .refl s
    · split
      · exact .refl s
      · exact .of_rc rfl rfl

theorem commitConfig_keeps (s : State) : Keeps s (commitConfig s).2 := by
  unfold commitConfig
  split
  · exact .refl s
  · split
    · exact .refl s
    · dsimp only
      split
      · exact .refl s
      · exact .of_rc rfl rfl

theorem abandonCommission_keeps (s : State) : Keeps s (abandonCommission s).2 := by
  unfold abandonCommission
  split
  · exact .refl s
  · split
    · exact .refl s
    · exact (modCs_keeps _ s).trans (offer_keeps ..)

theorem asQuery_keeps {ρ : Type} (find : ρ → State → Option Content) (q : ρ) (s : State) :
    Keeps s (asQuery find q s).2 := .refl s

/-! ## Frames (R163, R164) -/

theorem superviseHost_keeps (s : State) : Keeps s (superviseHost s) :=
  .ite (((modSp_keeps _ s).trans (offer_keeps ..)).trans (troubleMove_keeps ..)) (modSp_keeps _ s)

theorem hostSilence_keeps (s : State) : Keeps s (hostSilence s) :=
  .ite (((modSp_keeps _ s).trans (offer_keeps ..)).trans (troubleMove_keeps ..)) (.refl s)

theorem answerFrame_keeps {ρ : Type} {lengthOk : Bool} {operands : Option ρ} {handle : ρ → State → Answer × State}
    (h : ∀ q s, Keeps s (handle q s).2) (s : State) : Keeps s (answerFrame lengthOk operands handle s).2 := by
  unfold answerFrame
  split
  · split
    · exact .refl s
    · split
      · exact .refl s
      · exact h _ s
  · exact .refl s

/-- R164, R165: a frame does no more to the Regime Core than its owner's handling of it. -/
theorem takeFrame_keeps {ρ : Type} {handle : ρ → State → Answer × State} (h : ∀ q s, Keeps s (handle q s).2)
    (kind tag : Byte) (lengthOk : Bool) (operands : Option ρ) (s : State) :
    Keeps s (takeFrame kind tag lengthOk operands handle s) :=
  .ite (superviseHost_keeps s) (((superviseHost_keeps s).trans (answerFrame_keeps h _)).trans (modSp_keeps _ _))

theorem takeUnknown_keeps (kind tag : Byte) (s : State) : Keeps s (takeUnknown kind tag s) :=
  .ite (superviseHost_keeps s) ((superviseHost_keeps s).trans (modSp_keeps _ _))

/-- R190: a frame operation made of its owner's handler. -/
theorem frameOperation_keeps {ρ : Type} {handle : ρ → State → Answer × State} {f : Byte → List Byte → State → State}
    {kind : Byte} {lengthOk : List Byte → Bool} {operands : List Byte → Option ρ}
    (hf : ∀ tag p, f tag p = takeFrame kind tag (lengthOk p) (operands p) handle)
    (h : ∀ q s, Keeps s (handle q s).2) (tag : Byte) (p : List Byte) (s : State) : Keeps s (f tag p s) :=
  hf tag p ▸ takeFrame_keeps h ..

/-- R190: the frame operation of every request kind. -/
theorem frameTable_keeps : ∀ f ∈ frameTable, ∀ tag p s, Keeps s (f tag p s) := by
  simp only [frameTable, List.forall_mem_cons, List.not_mem_nil, false_imp_iff, implies_true, and_true]
  refine ⟨?_, ?_, ?_, ?_, ?_, ?_, ?_, ?_, ?acting⟩
  case acting =>
    exact ⟨frameOperation_keeps (fun _ _ => rfl) (fun _ => resetRegime_keeps),
      frameOperation_keeps (fun _ _ => rfl) (fun _ => startGeneral_keeps),
      frameOperation_keeps (fun _ _ => rfl) (fun q => evacuateFloors_keeps q.1 q.2),
      frameOperation_keeps (fun _ _ => rfl) (fun q => setOccupancy_keeps q.1 q.2),
      frameOperation_keeps (fun _ _ => rfl) (fun q => disableRequest_keeps q.1 q.2),
      frameOperation_keeps (fun _ _ => rfl) (fun q => enableRequest_keeps q.1 q.2),
      frameOperation_keeps (fun _ _ => rfl) recallGroup_keeps,
      frameOperation_keeps (fun _ _ => rfl) releaseGroup_keeps,
      frameOperation_keeps (fun _ _ => rfl) (fun q => fireService_keeps q.1 q.2),
      frameOperation_keeps (fun _ _ => rfl) (fun q => manualRequest_keeps true q.1 q.2.1 q.2.2),
      frameOperation_keeps (fun _ _ => rfl) (fun q => manualRequest_keeps false q.1 q.2.1 q.2.2),
      frameOperation_keeps (fun _ _ => rfl) (fun q => announce_keeps q.message q.lo q.hi q.repeats),
      frameOperation_keeps (fun _ _ => rfl) cancelAnnouncement_keeps,
      frameOperation_keeps (fun _ _ => rfl) (fun q => beginLive_keeps q.1 q.2),
      frameOperation_keeps (fun _ _ => rfl) (fun _ => endLive_keeps),
      frameOperation_keeps (fun _ _ => rfl) requestRestart_keeps,
      frameOperation_keeps (fun _ _ => rfl) (fun _ => beginCommission_keeps),
      frameOperation_keeps (fun _ _ => rfl) (fun q => writeConfig_keeps q.1 q.2),
      frameOperation_keeps (fun _ _ => rfl) (fun _ => commitConfig_keeps),
      frameOperation_keeps (fun _ _ => rfl) (fun _ => abandonCommission_keeps)⟩
  all_goals exact frameOperation_keeps (fun _ _ => rfl) (asQuery_keeps _)

theorem dispatchFrame_keeps (kind tag : Byte) (p : List Byte) (s : State) : Keeps s (dispatchFrame kind tag p s) := by
  unfold dispatchFrame
  split
  · exact takeUnknown_keeps ..
  · split
    · rename_i f hf
      exact frameTable_keeps f (List.mem_of_getElem? hf) tag p s
    · exact takeUnknown_keeps ..

theorem testFrame_keeps (r : Receiver) (low high : Byte) (s : State) : Keeps s (testFrame r low high s) := by
  have hunted : Keeps s s.hunt := modSp_keeps _ s
  refine .ite ?_ hunted
  split
  · exact hunted.trans (dispatchFrame_keeps ..)
  · exact hunted

theorem receiveByte_keeps (b : Byte) (s : State) : Keeps s (receiveByte b s) := by
  unfold receiveByte
  dsimp only
  split
  · exact .ite (modSp_keeps _ s) (.refl s)
  · exact .ite (modSp_keeps _ s) (modSp_keeps _ s)
  · exact modSp_keeps _ s
  · split
    · exact modSp_keeps _ s
    · exact testFrame_keeps ..

theorem endSending_keeps (s : State) : Keeps s (endSending s) := by
  unfold endSending
  split
  · exact .refl s
  · exact modSp_keeps _ s

/-! ## Events -/

theorem finish_admits (s : State) : Admits s (finish s) := by
  have settled : Admits s (if s.ev.arTouched then s.liftAr (AAcc.settle s.aenv) else s) :=
    .ite (liftAr_admits _ s) (.refl s)
  exact settled.trans (.of_rc rfl rfl rfl (.refl _) rfl rfl rfl)

/-- An event keeps what its own change keeps. -/
theorem event_keeps {f : State → State} (h : ∀ s, Keeps s (f s)) {s t : State} (ht : event f s = .next t) :
    Keeps s t := by
  obtain rfl := Host.Outcome.next.inj ht
  have changed : Keeps s (f { s with ev := Scratch.clear }) :=
    Keeps.trans (b := { s with ev := Scratch.clear }) (.of_rc rfl rfl) (h _)
  exact .ite ((changed.trans (modSp_keeps _ _)).trans (finish_admits _).toKeeps) (.refl s)

theorem received_keeps {f : State → State} (h : ∀ s, Keeps s (f s)) {s t : State} (ht : received f s = .next t) :
    Keeps s t := event_keeps (f := fun s => f s.hunt) (fun s => (modSp_keeps _ s).trans (h _)) ht

/-- A request row keeps what every frame operation of the table keeps. -/
theorem received_frameTable_keeps {f : Byte → List Byte → State → State} (hf : f ∈ frameTable) {tag : Byte}
    {p : List Byte} {s t : State} (ht : received (f tag p) s = .next t) : Keeps s t :=
  received_keeps (frameTable_keeps f hf tag p) ht

/-- R2: the second count and the Regime Core after POWER_ON. -/
theorem execPowerOn_rc (s : State) : ∃ t, exec .powerOn s = .next t ∧ s.rc.Keeps t.rc ∧ t.rc.secondCount = 0 ∧
    t.rc.level = .normal ∧ t.rc.commonAlarm = false := by
  have hadmits := finish_admits (powerUp s)
  have hkeeps := (powerUp_rc s ▸ bootRC_keeps _ _ _ : s.rc.Keeps (powerUp s).rc)
  have hlevel : (powerUp s).rc.level = .normal := by rw [powerUp_rc]; rfl
  have halarm : (powerUp s).rc.commonAlarm = false := by rw [powerUp_rc]; rfl
  have hcount : (powerUp s).rc.secondCount = 0 := by rw [powerUp_rc]; rfl
  exact ⟨_, rfl, hkeeps.trans hadmits.rc, hadmits.count.trans hcount, hadmits.level.trans hlevel,
    hadmits.commonAlarm.trans halarm⟩

end Sys2Proof.Machine
end

section
/-!
The inversion of a step for the Regime Core, and the statements that follow from it: the four invariants (R3, R5, R19, R20) and
the rule of the second count (R2).
-/

namespace Sys2Proof.Machine

/-- Every command but POWER_ON and SECOND_COUNT_TICK keeps the properties of the Regime Core and the second count. -/
theorem exec_keeps {c : Instr} {s t : State} (hon : c ≠ .powerOn) (htick : c ≠ .secondCountTick)
    (ht : exec c s = .next t) : Keeps s t := by
  cases c
  case powerOn => exact absurd rfl hon
  case secondCountTick => exact absurd rfl htick
  case unknownKind kind tag p => exact received_keeps (dispatchFrame_keeps kind tag p) ht
  case supervisoryFrameDiscarded =>
    rw [exec, execSupervisoryFrameDiscarded] at ht
    refine event_keeps (fun s => ?_) ht
    split
    · exact modSp_keeps _ s
    · exact modSp_keeps _ s
    · exact .refl s
    · exact .refl s
  case receiveTimeout =>
    rw [exec, execReceiveTimeout] at ht
    refine event_keeps (fun s => ?_) ht
    split
    · exact modSp_keeps _ s
    · exact modSp_keeps _ s
    · exact modSp_keeps _ s
    · exact .refl s
  case hostSilent => exact event_keeps hostSilence_keeps ht
  case frameSent => exact event_keeps endSending_keeps ht
  case warmRestart => exact event_keeps (fun s => .ite (restartWarm_keeps s) (.refl s)) ht
  case coldRestart => exact event_keeps (fun s => .ite (restartCold_keeps s) (.refl s)) ht
  case storeWriteComplete b => exact event_keeps (writeComplete_keeps b) ht
  case localLineChange line level => exact event_keeps (fun s => modZe_keeps _ s) ht
  case debounceExpiry line => exact event_keeps (debounced_keeps line.val) ht
  case windowExpiry link zone => exact event_keeps (windowExpired_keeps link zone) ht
  case drainExpiry stair => exact event_keeps (fun s => (drainExpired_admits stair s).toKeeps) ht
  case forcedAdvance => exact event_keeps (fun s => (advanceExpired_admits s).toKeeps) ht
  case retryExpiry car => exact event_keeps (fun s => (liftLc_calm _ s).toKeeps) ht
  case dwellExpired point => exact event_keeps (fun s => (liftDs_calm _ s).toKeeps) ht
  case heldOpenExpiry point => exact event_keeps (fun s => (liftDs_calm _ s).toKeeps) ht
  case playOverrun channel => exact event_keeps (fun s => (liftAr_admits _ s).toKeeps) ht
  case slotStart port => exact event_keeps (startSlot_keeps port) ht
  case quiet port a c p => exact event_keeps (receiveReply_keeps _ port a c p) ht
  case changes port a c p => exact event_keeps (receiveReply_keeps _ port a c p) ht
  case snapshot port a c p => exact event_keeps (receiveReply_keeps _ port a c p) ht
  case groupStatus port a c p => exact event_keeps (receiveReply_keeps _ port a c p) ht
  case moduleStatus port a c p => exact event_keeps (receiveReply_keeps _ port a c p) ht
  case matrixStatus port a c p => exact event_keeps (receiveReply_keeps _ port a c p) ht
  case fieldFrameDiscarded port => exact event_keeps .refl ht
  case replyWindowMiss port => exact event_keeps (missSlot_keeps port) ht
  case byteReceived b => exact event_keeps (receiveByte_keeps b) ht
  case lossOfPower =>
    obtain rfl := Host.Outcome.next.inj ht
    exact .ite (losePower_keeps s) (.refl s)
  all_goals exact received_frameTable_keeps (by simp [frameTable]) ht

/-! ## SECOND_COUNT_TICK -/

/-- R2: the tick moves the second count and nothing else but the transmitter and the scratch record. -/
theorem execSecondCountTick_eq {s : State} (h : s.powered = true) :
    ∃ p, exec .secondCountTick s = .next
      { s with sp := p, rc := { s.rc with secondCount := s.rc.secondCount + 1 }, ev := Scratch.clear } :=
  ⟨_, by simp only [exec, execSecondCountTick, event, h, if_true]; rfl⟩

/-- A part without power takes no event. -/
theorem event_unpowered {f : State → State} {s t : State} (h : s.powered = false) (ht : event f s = .next t) : t = s := by
  obtain rfl := Host.Outcome.next.inj ht
  simp [h]

/-- R3, R5, R19, R20: what every command keeps of the Regime Core. -/
theorem exec_rc {c : Instr} {s t : State} (ht : exec c s = .next t) : s.rc.Keeps t.rc := by
  by_cases hon : c = .powerOn
  · subst hon
    obtain ⟨u, hu, hkeeps, -⟩ := execPowerOn_rc s
    obtain rfl := Host.Outcome.next.inj (hu.symm.trans ht)
    exact hkeeps
  by_cases htick : c = .secondCountTick
  · subst htick
    cases hp : s.powered with
    | false =>
      obtain rfl := event_unpowered hp ht
      exact .refl _
    | true =>
      obtain ⟨p, hq⟩ := execSecondCountTick_eq hp
      obtain rfl := Host.Outcome.next.inj (hq.symm.trans ht)
      exact ⟨id, id, id, id⟩
  exact (exec_keeps hon htick ht).rc

/-- What a step can do to the Regime Core: it keeps the properties of R3, R5, R19 and R20. -/
theorem step_rc {s t : State} (ht : step s = .next t) : s.rc.Keeps t.rc := by
  unfold step at ht
  split at ht
  · rename_i rest _
    exact exec_rc (s := { s with pending := rest }) ht
  · obtain rfl := Host.Outcome.next.inj ht
    unfold idleSecond
    split <;> exact .refl _

/-! ## The statements -/

/-- R5: the lockout flags agree with the alarm counts exactly when each is what the count decides. -/
theorem lockoutAgrees_iff (s : State) :
    s.LockoutAgrees ↔ ∀ fl ∈ s.rc.floors, fl.lockout = decide (0 < fl.alarmCount) := by
  refine forall₂_congr fun fl _ => ?_
  cases fl.lockout <;> simp

/-- Settles O7: by the inversion of a step for the Regime Core. -/
theorem commonAlarmKept : Obligations.CommonAlarmKept := by
  refine ⟨fun s t hs ht => ?_, fun s => ?_⟩
  · rw [alarmAgrees_iff] at hs ⊢
    exact (step_rc ht).alarm hs
  · obtain ⟨t, ht, -, -, hlevel, halarm⟩ := execPowerOn_rc s
    exact ⟨t, ht, halarm, (alarmAgrees_iff t).mpr (by rw [halarm, hlevel]; rfl)⟩

/-- Settles O8: by the inversion of a step for the Regime Core. -/
theorem troubleLineKept : Obligations.TroubleLineKept := by
  intro s t hs ht
  rw [troubleAgrees_iff] at hs ⊢
  exact (step_rc ht).trouble hs

/-- Settles O9: by the inversion of a step for the Regime Core. -/
theorem lockoutKept : Obligations.LockoutKept := by
  intro s t hs ht
  rw [lockoutAgrees_iff] at hs ⊢
  exact (step_rc ht).lockout hs

/-- Settles O10: by the inversion of a step for the Regime Core. -/
theorem originListKept : Obligations.OriginListKept := fun _ _ hs ht => (step_rc ht).origins hs

/-- Settles O4: POWER_ON and SECOND_COUNT_TICK by their own rules, every other command by `exec_keeps`. -/
theorem secondCountRule : Obligations.SecondCountRule := by
  refine ⟨fun s => ?_, fun s hs => ?_, fun c s t hon htick ht => (exec_keeps hon htick ht).count⟩
  · obtain ⟨t, ht, -, hcount, -⟩ := execPowerOn_rc s
    exact ⟨t, ht, hcount⟩
  · obtain ⟨p, hp⟩ := execSecondCountTick_eq hs
    refine ⟨_, hp, ?_, rfl, rfl, rfl, rfl, rfl, rfl, rfl, rfl⟩
    simp [BitVec.toNat_add]

end Sys2Proof.Machine
end

section
/-!
The power-on state (R23, R48, R74, R100, R120, R146, R162): the blocks that a restart builds from the tables, what they hold
whatever the tables are, and what they hold of an image or of the FALLBACK set.
-/

namespace Sys2Proof.Machine

/-! ## The end of an event -/

theorem event_powered {s : State} (f : State → State) (h : s.powered = true) :
    event f s = .next (finish (orderLift s.sp.reports.length (f { s with ev := Scratch.clear }))) := by
  rw [event, if_pos h]

/-- R130: an event in which the AR changes nothing ends with the transmitter alone. -/
theorem finish_untouched {s : State} (h : s.ev.arTouched = false) :
    finish s = { s with ev := Scratch.clear, sp := takeNextFrame s.sp } := by
  simp [finish, h, State.modSp]

/-- The transmitter takes a frame: the replies and reports that wait, the lost marker and the frame aside, the SP stays. -/
theorem takeNextFrame_eq (p : SP) :
    takeNextFrame p = { p with
      replies := (takeNextFrame p).replies
      reports := (takeNextFrame p).reports
      lost := (takeNextFrame p).lost
      tx := (takeNextFrame p).tx } := by
  obtain ⟨-, h⟩ | ⟨-, _, _, -, h⟩ | ⟨-, -, _, _, -, h⟩ | ⟨-, -, -, h⟩ := takeNextFrame_cases p <;> rw [h]

@[simp] theorem takeNextFrame_rx (p : SP) : (takeNextFrame p).rx = p.rx := by rw [takeNextFrame_eq]
@[simp] theorem takeNextFrame_silence (p : SP) : (takeNextFrame p).silence = p.silence := by rw [takeNextFrame_eq]
@[simp] theorem takeNextFrame_hostSilent (p : SP) : (takeNextFrame p).hostSilent = p.hostSilent := by
  rw [takeNextFrame_eq]
@[simp] theorem takeNextFrame_restart (p : SP) : (takeNextFrame p).restart = p.restart := by rw [takeNextFrame_eq]

/-- R166: no reply waits after the transmitter where none waited before. -/
theorem takeNextFrame_noReplies {p : SP} (h : p.replies = []) : (takeNextFrame p).replies = [] := by
  obtain ⟨-, he⟩ | ⟨-, r, rs, hr, -⟩ | ⟨-, -, _, _, -, he⟩ | ⟨-, -, -, he⟩ := takeNextFrame_cases p
  · rw [he, h]
  · simp [h] at hr
  · rw [he]; exact h
  · rw [he, h]

/-! ## Indexed tables -/

theorem length_filter_indexedFrom {α : Type} (p : α → Bool) (l : List α) (n : Nat) :
    ((indexedFrom n l).filter (fun e => p e.2)).length = (l.filter p).length := by
  induction l generalizing n with
  | nil => rfl
  | cons x xs ih =>
    rw [indexedFrom]
    by_cases hx : p x <;> simp [hx, ih]

/-- The record built from the `k`-th record of a table is found under its index. -/
theorem find?_indexedFrom {α β : Type} (p : α → Bool) (mk : Nat × α → β) (key : β → Nat) (hkey : ∀ e, key (mk e) = e.1)
    (l : List α) (n k : Nat) (r : α) (hr : l[k]? = some r) (hp : p r = true) :
    (((indexedFrom n l).filter (fun e => p e.2)).map mk).find? (fun b => key b = n + k) = some (mk (n + k, r)) := by
  induction l generalizing n k with
  | nil => simp at hr
  | cons x xs ih =>
    rw [indexedFrom]
    cases k with
    | zero =>
      obtain rfl : x = r := by simpa using hr
      simp [hp, hkey]
    | succ k =>
      have hrest := ih (n + 1) k (by simpa using hr)
      rw [show n + 1 + k = n + (k + 1) by omega] at hrest
      by_cases hx : p x
      · simp [hx, hkey, hrest]
      · simpa [hx] using hrest

theorem find?_indexed {α β : Type} {p : α → Bool} {mk : Nat × α → β} {key : β → Nat} (hkey : ∀ e, key (mk e) = e.1)
    {l : List α} {k : Nat} {r : α} (hr : l[k]? = some r) (hp : p r = true) :
    (((indexedFrom 0 l).filter (fun e => p e.2)).map mk).find? (fun b => key b = k) = some (mk (k, r)) := by
  have h := find?_indexedFrom p mk key hkey l 0 k r hr hp
  rwa [Nat.zero_add] at h

/-! ## The blocks as built -/

/-- Every block but the SP and the CS in its power-on state on the tables `tb`. -/
structure BuiltFrom (tb : Tables) (t : State) : Prop where
  flc : t.flc = bootFLC tb
  ze : ∃ pins, t.ze = bootZE tb pins
  rc : ∃ count line, t.rc = bootRC tb count line
  es : t.es = bootES tb
  lc : t.lc = bootLC tb
  ds : t.ds = bootDS tb
  ar : t.ar = bootAR tb
  ev : t.ev = Scratch.clear

theorem bootFloors_quiet (tb : Tables) : ∀ fl ∈ bootFloors tb, fl.state = .quiet ∧ fl.origin = false ∧
    fl.alarmCount = 0 ∧ fl.lockout = false ∧ fl.admission = none ∧ fl.occupancy = fl.design := by
  intro fl hfl
  cases tb with
  | none =>
    obtain ⟨n, -, rfl⟩ := List.mem_map.mp hfl
    exact ⟨rfl, rfl, rfl, rfl, rfl, rfl⟩
  | some i =>
    obtain ⟨r, -, rfl⟩ := List.mem_map.mp hfl
    exact ⟨rfl, rfl, rfl, rfl, rfl, rfl⟩

theorem mem_bootZones {i : Image} {z : Zone} :
    z ∈ bootZones (some i) ↔ ∃ r ∈ i.zones, r.inUse = true ∧ bootZone r = z := by
  rw [bootZones, (sortBy_perm _ _).mem_iff]
  simp [and_assoc]

theorem bootZones_unknown (tb : Tables) : ∀ z ∈ bootZones tb, z.state = .unknown ∧ z.lastInput = none ∧
    z.clearOnRestore = false ∧ z.disabled = false ∧ z.window = none := by
  intro z hz
  cases tb with
  | none => cases hz
  | some i =>
    obtain ⟨r, -, -, rfl⟩ := mem_bootZones.mp hz
    exact ⟨rfl, rfl, rfl, rfl, rfl⟩

theorem bootStairs_clear (tb : Tables) : ∀ st ∈ (bootES tb).stairs, st.load = 0 ∧ st.credit = 0 ∧
    st.cond = .available ∧ st.compromised = false ∧ st.saturated = false ∧
    st.drainTimer = if st.fitted then some 10 else none := by
  intro st hst
  cases tb with
  | none =>
    obtain rfl := List.eq_of_mem_replicate hst
    exact ⟨rfl, rfl, rfl, rfl, rfl, rfl⟩
  | some i =>
    obtain ⟨r, -, rfl⟩ := List.mem_map.mp hst
    exact ⟨rfl, rfl, rfl, rfl, rfl, rfl⟩

theorem bootGroups_idle (tb : Tables) : ∀ g ∈ (bootLC tb).groups, g.active = false ∧
    g.triggers = ⟨false, false, []⟩ ∧ g.target = none ∧ g.lockout = 0 ∧ g.mask = 0 ∧ g.echo = none ∧
    g.lowest = none ∧ g.down = false := by
  intro g hg
  cases tb with
  | none =>
    obtain ⟨n, -, rfl⟩ := List.mem_map.mp hg
    exact ⟨rfl, rfl, rfl, rfl, rfl, rfl, rfl, rfl⟩
  | some i =>
    obtain ⟨r, -, rfl⟩ := List.mem_map.mp hg
    exact ⟨rfl, rfl, rfl, rfl, rfl, rfl, rfl, rfl⟩

theorem bootCars_unknown (tb : Tables) : ∀ c ∈ (bootLC tb).cars, c.cache = none ∧ c.service = .unknown ∧
    c.image = none ∧ c.cmdState = .none ∧ c.attempts = 0 ∧ c.retry = none := by
  intro c hc
  cases tb with
  | none => cases hc
  | some i =>
    obtain ⟨r, -, rfl⟩ := List.mem_map.mp hc
    exact ⟨rfl, rfl, rfl, rfl, rfl, rfl⟩

theorem bootDoor_normal (n : Nat) (r : DoorRec) : ((bootDoor n r).normal = .secure → (bootDoor n r).drive = .lock) ∧
    ((bootDoor n r).normal = .free → (bootDoor n r).drive = .release) :=
  ⟨congrArg normalDrive, congrArg normalDrive⟩

theorem bootDoors_normal (tb : Tables) : ∀ d ∈ bootDoors tb, (d.normal = .secure → d.drive = .lock) ∧
    (d.normal = .free → d.drive = .release) ∧ d.enable = false ∧ d.sensed = .unknown ∧ d.cond = .unknown ∧
    d.dwell = none ∧ d.heldOpen = none := by
  intro d hd
  have built : ∃ n r, bootDoor n r = d := by
    cases tb with
    | none =>
      obtain ⟨n, -, rfl⟩ := List.mem_map.mp hd
      exact ⟨_, _, rfl⟩
    | some i =>
      obtain ⟨r, -, rfl⟩ := List.mem_map.mp hd
      exact ⟨_, _, rfl⟩
  obtain ⟨n, r, rfl⟩ := built
  exact ⟨(bootDoor_normal n r).1, (bootDoor_normal n r).2, rfl, rfl, rfl, rfl, rfl⟩

theorem bootNodes_offline (tb : Tables) : ∀ n ∈ (bootFLC tb).nodes, n.link = .offline ∧ n.good = 0 ∧ n.miss = 0 ∧
    n.actions = [] ∧ n.rotation = 0 ∧ n.seqBit = false ∧ ∀ m ∈ n.images, m.dirty = true ∧ m.changed = false := by
  intro n hn
  obtain ⟨k, -, rfl⟩ := List.mem_map.mp hn
  refine ⟨rfl, rfl, rfl, rfl, rfl, rfl, fun m hm => ?_⟩
  obtain ⟨x, -, rfl⟩ := List.mem_map.mp hm
  exact ⟨rfl, rfl⟩

theorem bootPorts_idle (tb : Tables) : ∀ p ∈ (bootFLC tb).ports, p.slot = none ∧ p.broadcast = false := by
  intro p hp
  obtain ⟨k, -, rfl⟩ := List.mem_map.mp hp
  exact ⟨rfl, Bool.and_false _⟩

/-- R23, R48, R74, R100, R120, R146, R162: the power-on state, whatever the tables are. -/
theorem BuiltFrom.powerOnBlocks {tb : Tables} {t : State} (h : BuiltFrom tb t) : PowerOnBlocks t := by
  obtain ⟨pins, hze⟩ := h.ze
  obtain ⟨count, line, hrc⟩ := h.rc
  constructor
  case regime => rw [hrc]; exact ⟨rfl, rfl, rfl, rfl, rfl⟩
  case floors => rw [hrc]; exact bootFloors_quiet tb
  case zones => rw [hze]; exact bootZones_unknown tb
  case links => rw [hze]; rfl
  case lines =>
    rw [hze]
    intro l hl
    obtain ⟨v, -, rfl⟩ := List.mem_map.mp hl
    exact ⟨rfl, rfl⟩
  case stairs => rw [h.es]; exact bootStairs_clear tb
  case scheduler => rw [h.es]; exact ⟨rfl, rfl⟩
  case groups => rw [h.lc]; exact bootGroups_idle tb
  case cars => rw [h.lc]; exact bootCars_unknown tb
  case doors => rw [h.ds]; exact bootDoors_normal tb
  case modules =>
    unfold State.OutputsAgree
    rw [h.ds]
    constructor
    all_goals
      intro m hm
      obtain ⟨k, -, rfl⟩ := List.mem_map.mp hm
      rfl
  case manual => rw [h.ds]; rfl
  case records => rw [h.ar]; exact ⟨rfl, rfl, rfl, rfl, rfl⟩
  case claims =>
    rw [h.ar, hrc]
    refine ⟨List.length_replicate, fun c hc => ?_⟩
    obtain rfl := List.eq_of_mem_replicate hc
    exact ⟨rfl, rfl⟩
  case channels =>
    rw [h.ar]
    intro c hc
    obtain rfl := List.eq_of_mem_replicate hc
    exact ⟨rfl, rfl, rfl, rfl, rfl, rfl⟩
  case nodes => rw [h.flc]; exact bootNodes_offline tb
  case ports => rw [h.flc]; exact bootPorts_idle tb

/-! ## The tables of an image -/

theorem bootZones_length (i : Image) : (bootZones (some i)).length = (i.zones.filter (·.inUse)).length := by
  rw [bootZones, (sortBy_perm _ _).length_eq, List.length_map]

theorem bootNodes_length (i : Image) : (bootFLC (some i)).nodes.length = (i.nodes.filter (·.inUse)).length := by
  rw [bootFLC, List.length_map, nodeKeys, (sortBy_perm _ _).length_eq, List.length_map]

theorem mem_nodeKeys {i : Image} {r : NodeRec} (hr : r ∈ i.nodes) (hu : r.inUse = true) :
    (r.port, r.address) ∈ nodeKeys (some i) := by
  rw [nodeKeys, (sortBy_perm _ _).mem_iff]
  exact List.mem_map_of_mem (List.mem_filter.mpr ⟨hr, hu⟩)

/-- R178, R179: the tables of the image in force. -/
theorem BuiltFrom.bootedFrom {tb : Tables} {i : Image} {t : State} (h : BuiltFrom tb t) (hi : tb = some i) :
    BootedFrom i t := by
  subst hi
  obtain ⟨pins, hze⟩ := h.ze
  obtain ⟨count, line, hrc⟩ := h.rc
  constructor
  case timings =>
    rw [hrc, hze, h.es, h.lc, h.ds, h.flc, h.ar]
    exact ⟨rfl, rfl, rfl, rfl, rfl, rfl, rfl, List.length_replicate, rfl⟩
  case floors =>
    rw [hrc]
    refine ⟨by simp [bootRC, bootFloors], fun n r hr hn => ⟨bootFloor r, ?_, rfl, rfl, rfl, rfl, rfl, rfl, rfl⟩⟩
    simp [bootRC, bootFloors, hn, hr]
  case stairs =>
    rw [h.es]
    refine ⟨List.length_map _, fun n r hr => ⟨bootStair r, ?_, rfl, rfl, rfl, rfl⟩⟩
    simp [bootES, hr]
  case zones =>
    rw [hze]
    exact ⟨bootZones_length i, fun r hr hu =>
      ⟨bootZone r, mem_bootZones.mpr ⟨r, hr, hu, rfl⟩, rfl, rfl, rfl, rfl, rfl, rfl, rfl, rfl, rfl⟩⟩
  case nodes =>
    rw [h.flc]
    exact ⟨bootNodes_length i, fun r hr hu => ⟨_, List.mem_map_of_mem (mem_nodeKeys hr hu), rfl, rfl⟩⟩
  case groups =>
    rw [h.lc]
    refine ⟨(List.length_map _).trans (length_filter_indexedFrom (fun r : GroupRec => r.inUse) i.groups 0),
      fun n r hr hu => ⟨_, find?_indexed (p := fun r : GroupRec => r.inUse) (key := Group.number) (fun _ => rfl) hr hu,
        rfl, rfl, rfl, rfl⟩⟩
  case cars =>
    rw [h.lc]
    refine ⟨(List.length_map _).trans (length_filter_indexedFrom (fun r : CarRec => r.inUse) i.cars 0),
      fun n r hr hu => ⟨_, find?_indexed (p := fun r : CarRec => r.inUse) (key := Car.number) (fun _ => rfl) hr hu,
        rfl, rfl⟩⟩
  case doors =>
    rw [h.ds]
    refine ⟨(List.length_map _).trans (length_filter_indexedFrom (fun r : DoorRec => r.inUse) i.doors 0),
      fun n r hr hu => ⟨_, find?_indexed (p := fun r : DoorRec => r.inUse) (key := Door.index) (fun _ => rfl) hr hu,
        rfl, rfl, rfl, rfl, rfl, rfl, rfl⟩⟩
  case messages => rw [h.ar]; exact ⟨rfl, rfl, rfl, rfl⟩

/-! ## The FALLBACK set -/

theorem fallbackDoor_place (n : Nat) (h : n < 160) :
    n = (if (fallbackDoor n).loop = .d 1 then 80 else 0) + 8 * ((fallbackDoor n).address - 1) + (fallbackDoor n).point ∧
      1 ≤ (fallbackDoor n).address ∧ (fallbackDoor n).address ≤ 10 ∧ (fallbackDoor n).point ≤ 7 := by
  by_cases hn : n < 80
  · simp only [fallbackDoor, if_pos hn, show ((.d 0 : Line) = .d 1) = False by decide, if_false]
    omega
  · simp only [fallbackDoor, if_neg hn, if_true]
    omega

/-- R147: the FALLBACK set has 31 nodes. -/
theorem fallbackNodes_length : (bootFLC none).nodes.length = 31 := rfl

/-- R21, R47, R74, R99, R119, R145, R147, R186: the FALLBACK set in force. -/
theorem BuiltFrom.fallbackSet {tb : Tables} {t : State} (h : BuiltFrom tb t) (hn : tb = none) : FallbackSet t := by
  subst hn
  obtain ⟨pins, hze⟩ := h.ze
  obtain ⟨count, line, hrc⟩ := h.rc
  constructor
  case timings =>
    rw [hrc, hze, h.es, h.lc, h.ds, h.flc, h.ar]
    exact ⟨rfl, rfl, rfl, rfl, rfl, rfl, rfl, rfl, rfl⟩
  case floors =>
    rw [hrc]
    refine ⟨by simp [bootRC, bootFloors], fun fl hfl => ?_⟩
    obtain ⟨n, -, rfl⟩ := List.mem_map.mp hfl
    exact ⟨rfl, rfl⟩
  case zones => rw [hze]; rfl
  case stairs =>
    rw [h.es]
    intro st hst
    obtain rfl := List.eq_of_mem_replicate hst
    rfl
  case lifts =>
    rw [h.lc]
    refine ⟨rfl, rfl, fun g hg => ?_⟩
    obtain ⟨n, -, rfl⟩ := List.mem_map.mp hg
    exact ⟨rfl, rfl, rfl, rfl⟩
  case doors =>
    rw [h.ds]
    refine ⟨by simp [bootDS, bootDoors], fun d hd => ?_⟩
    obtain ⟨n, hn, rfl⟩ := List.mem_map.mp hd
    exact ⟨rfl, rfl, rfl, rfl, fallbackDoor_place n (List.mem_range.mp hn)⟩
  case nodes => rw [h.flc]; exact fallbackNodes_length
  case messages =>
    rw [h.ar]
    refine ⟨rfl, fun m hm => ?_, rfl, rfl, rfl⟩
    obtain rfl : m = _ := List.eq_of_mem_replicate hm
    rfl

end Sys2Proof.Machine
end

section
/-!
POWER_ON, COLD_RESTART and STORE_WRITE_COMPLETE (R175, R176, R179, R184), and the state after reset.
-/

namespace Sys2Proof.Machine

/-! ## Blocks as built, through the end of an event -/

/-- A change of the SP and of what the scratch record forgets leaves the blocks as built. -/
theorem BuiltFrom.of_eq {tb : Tables} {s t : State} (h : BuiltFrom tb s) (hflc : t.flc = s.flc) (hze : t.ze = s.ze)
    (hrc : t.rc = s.rc) (hes : t.es = s.es) (hlc : t.lc = s.lc) (hds : t.ds = s.ds) (har : t.ar = s.ar)
    (hev : t.ev = Scratch.clear) : BuiltFrom tb t :=
  ⟨hflc.trans h.flc, hze ▸ h.ze, hrc ▸ h.rc, hes.trans h.es, hlc.trans h.lc, hds.trans h.ds, har.trans h.ar, hev⟩

/-- The state in which an event ends that leaves `s` and touches no announcement. -/
def ended (n : Nat) (s : State) : State :=
  { s with ev := Scratch.clear, sp := takeNextFrame (orderLift n s).sp }

theorem finish_orderLift {n : Nat} {s : State} (h : s.ev.arTouched = false) : finish (orderLift n s) = ended n s :=
  finish_untouched (s := orderLift n s) h

theorem BuiltFrom.ended {tb : Tables} {s : State} (h : BuiltFrom tb s) (n : Nat) : BuiltFrom tb (ended n s) :=
  h.of_eq rfl rfl rfl rfl rfl rfl rfl rfl

@[simp] theorem ended_rx (n : Nat) (s : State) : (ended n s).sp.rx = s.sp.rx := takeNextFrame_rx _
@[simp] theorem ended_silence (n : Nat) (s : State) : (ended n s).sp.silence = s.sp.silence := takeNextFrame_silence _
@[simp] theorem ended_hostSilent (n : Nat) (s : State) : (ended n s).sp.hostSilent = s.sp.hostSilent :=
  takeNextFrame_hostSilent _
@[simp] theorem ended_restart (n : Nat) (s : State) : (ended n s).sp.restart = s.sp.restart := takeNextFrame_restart _

/-- The line of COMMON_TROUBLE and its report leave the blocks as built. -/
theorem BuiltFrom.refreshTroubleLine {tb : Tables} {s : State} (h : BuiltFrom tb s) :
    BuiltFrom tb (refreshTroubleLine s) where
  flc := by simpa using h.flc
  ze := by simpa using h.ze
  rc := by
    obtain ⟨count, line, hrc⟩ := h.rc
    exact ⟨count, troubleLine (bootTrouble tb), by rw [refreshTroubleLine_rc, hrc]; rfl⟩
  es := by simpa using h.es
  lc := by simpa using h.lc
  ds := by simpa using h.ds
  ar := by simpa using h.ar
  ev := by simpa using h.ev

theorem bootBlocks_builtFrom (tb : Tables) (count : Seconds) (line : Bool) (s : State) :
    BuiltFrom tb (bootBlocks tb count line s) :=
  ⟨rfl, ⟨_, rfl⟩, ⟨count, line, rfl⟩, rfl, rfl, rfl, rfl, rfl⟩

theorem coldBoot_builtFrom (tb : Tables) (cls : Cls) (report : Body) (s : State) :
    BuiltFrom tb (coldBoot tb cls report s) := (bootBlocks_builtFrom ..).refreshTroubleLine

@[simp] theorem coldBoot_cs (tb : Tables) (cls : Cls) (report : Body) (s : State) :
    (coldBoot tb cls report s).cs = ⟨s.cs.store, none, tb.isNone, none⟩ := by
  simp [coldBoot, bootBlocks]

@[simp] theorem coldBoot_rx (tb : Tables) (cls : Cls) (report : Body) (s : State) :
    (coldBoot tb cls report s).sp.rx = s.sp.rx := by simp [coldBoot, bootBlocks]

@[simp] theorem coldBoot_silence (tb : Tables) (cls : Cls) (report : Body) (s : State) :
    (coldBoot tb cls report s).sp.silence = s.sp.silence := by simp [coldBoot, bootBlocks]

@[simp] theorem coldBoot_hostSilent (tb : Tables) (cls : Cls) (report : Body) (s : State) :
    (coldBoot tb cls report s).sp.hostSilent = s.sp.hostSilent := by simp [coldBoot, bootBlocks]

@[simp] theorem coldBoot_restart (tb : Tables) (cls : Cls) (report : Body) (s : State) :
    (coldBoot tb cls report s).sp.restart = s.sp.restart := by simp [coldBoot, bootBlocks]

/-- R48: the levels at the local lines are the outside's and stay. -/
theorem coldBoot_pins (tb : Tables) (cls : Cls) (report : Body) (s : State) :
    (coldBoot tb cls report s).ze.lines.map (·.pin) = s.ze.lines.map (·.pin) := by
  simp [coldBoot, bootBlocks, bootZE, pinsOf]

/-! ## POWER_ON -/

/-- R184: after a power-on no write is in flight, and the store that a write was in flight to loads nothing. -/
theorem interruptWrite_store (s : State) : ((interruptWrite s).cs.store = s.cs.store ∧ s.cs.writing = none) ∨
    (loadedTables (interruptWrite s).cs.store = none ∧ s.cs.writing.isSome = true) := by
  unfold interruptWrite
  cases h : s.cs.writing with
  | none => exact .inl ⟨rfl, rfl⟩
  | some k => exact .inr ⟨rfl, rfl⟩

/-- The tables that a power-on of `s` loads. -/
def powerUpTables (s : State) : Tables := loadedTables (interruptWrite s).cs.store

/-- R176: the part after its power-on and the first move of its transmitter. -/
def poweredOn (s : State) : State := { powerUp s with ev := Scratch.clear, sp := takeNextFrame (powerUp s).sp }

theorem powerUp_builtFrom (s : State) : BuiltFrom (powerUpTables s) (powerUp s) := by
  unfold powerUp
  refine BuiltFrom.refreshTroubleLine ?_
  refine (bootBlocks_builtFrom (powerUpTables s) 0 false
    { interruptWrite s with
      sp := bootSP, cs := ⟨(interruptWrite s).cs.store, none, (powerUpTables s).isNone, none⟩, powered := true }).of_eq
    ?_ ?_ ?_ ?_ ?_ ?_ ?_ ?_
  all_goals simp [powerUpTables, bootBlocks]

theorem exec_powerOn (s : State) : exec .powerOn s = .next (poweredOn s) :=
  congrArg _ (finish_untouched (s := powerUp s) (by rw [(powerUp_builtFrom s).ev]; rfl))

theorem poweredOn_builtFrom (s : State) : BuiltFrom (powerUpTables s) (poweredOn s) :=
  (powerUp_builtFrom s).of_eq rfl rfl rfl rfl rfl rfl rfl rfl

@[simp] theorem poweredOn_cs (s : State) :
    (poweredOn s).cs = ⟨(interruptWrite s).cs.store, none, (powerUpTables s).isNone, none⟩ := by
  simp [poweredOn, powerUp, bootBlocks, powerUpTables]

@[simp] theorem poweredOn_powered (s : State) : (poweredOn s).powered = true := by simp [poweredOn, powerUp, bootBlocks]

/-- R163, R172, R176: the SP after a power-on. -/
theorem poweredOn_sp (s : State) : (poweredOn s).sp.replies = [] ∧ (poweredOn s).sp.rx = huntingReceiver ∧
    (poweredOn s).sp.restart = none ∧ (poweredOn s).sp.silence = some 30 ∧ (poweredOn s).sp.hostSilent = false := by
  refine ⟨takeNextFrame_noReplies ?_, ?_, ?_, ?_, ?_⟩ <;>
    simp [poweredOn, powerUp, bootBlocks, bootSP, Config.silenceLimit]

/-- R18, R23: the trouble set of a power-on. -/
theorem BuiltFrom.trouble {tb : Tables} {t : State} (h : BuiltFrom tb t) : t.rc.trouble = bootTrouble tb := by
  obtain ⟨count, line, hrc⟩ := h.rc
  rw [hrc]
  rfl

/-- Settles O15: by the tables that the power-on loads. -/
theorem powerOnLoads : Obligations.PowerOnLoads := by
  refine ⟨fun s hs => ⟨_, exec_powerOn s, ?_⟩, fun s i hstore hw => ⟨_, exec_powerOn s, ?_⟩⟩
  · have hnone : powerUpTables s = none := by
      obtain ⟨hstore, hw⟩ | ⟨hload, -⟩ := interruptWrite_store s
      · rw [powerUpTables, hstore]
        simpa [hw] using hs
      · exact hload
    have built : BuiltFrom none (poweredOn s) := hnone ▸ poweredOn_builtFrom s
    obtain ⟨hreplies, hrx, hrestart, hsilence, hsilent⟩ := poweredOn_sp s
    refine ⟨poweredOn_powered s, by simp [deviceMode, hnone], fun hw => ?_, ?_, by simp, built.powerOnBlocks,
      built.fallbackSet rfl, by rw [built.trouble]; rfl, ?_, hreplies, hrx, hrestart, hsilence, hsilent⟩
    · simp [interruptWrite, hw]
    · rw [poweredOn_cs]
      exact hnone
    · rw [built.trouble]
      exact fallbackNodes_length
  · have hkept : interruptWrite s = s := by simp [interruptWrite, hw]
    have hsome : powerUpTables s = some i := by simp [powerUpTables, hkept, hstore, loadedTables]
    have built : BuiltFrom (some i) (poweredOn s) := hsome ▸ poweredOn_builtFrom s
    obtain ⟨hreplies, -, hrestart, hsilence, hsilent⟩ := poweredOn_sp s
    refine ⟨poweredOn_powered s, by simp [deviceMode, hsome], by simp [hkept], built.powerOnBlocks, built.bootedFrom rfl,
      by rw [built.trouble]; rfl, ?_, ?_, hreplies, hrestart, hsilence, hsilent⟩
    · rw [built.trouble]
      exact bootNodes_length i
    · rw [built.trouble]
      exact bootZones_length i

/-! ## COLD_RESTART and STORE_WRITE_COMPLETE -/

/-- An event that ends in a cold boot of the tables `tb`. -/
theorem event_coldBoot {s u : State} {f : State → State} {tb : Tables} {cls : Cls} {report : Body}
    (hp : s.powered = true) (hf : f { s with ev := Scratch.clear } = coldBoot tb cls report u) :
    event f s = .next (ended s.sp.reports.length (coldBoot tb cls report u)) := by
  rw [event_powered f hp, hf, finish_orderLift]
  rw [(coldBoot_builtFrom tb cls report u).ev]
  rfl

/-- Settles O19: the due restart is a cold boot of the tables that the store loads. -/
theorem coldRestartRule : Obligations.ColdRestartRule := by
  intro s hp hcold hdue
  refine ⟨_, event_coldBoot hp (by rw [if_pos ⟨hcold, hdue⟩]; rfl), ?_⟩
  have built := (coldBoot_builtFrom (loadedTables s.cs.store) (restartClass (loadedTables s.cs.store))
    (.device .coldRestart (some (restartMode (loadedTables s.cs.store))) none)
    ({ s with ev := Scratch.clear }.modSp (fun p => { p with restart := none, restartDue := false }))).ended
    s.sp.reports.length
  refine ⟨by simp, ?_, by simp [ended], built.powerOnBlocks, fun _ => built.bootedFrom, built.fallbackSet, ?_, ?_, by simp,
    by simp, by simp⟩
  · cases h : loadedTables s.cs.store <;> simp [ended, deviceMode, h]
  · simp [ended, bootRC]
  · exact coldBoot_pins ..

/-- Settles O57: a completion that reads back equal is a cold boot of the staged image; another leaves a torn store. -/
theorem storeWriteRule : Obligations.StoreWriteRule := by
  intro s i k hp hstaged hwriting
  constructor
  · refine ⟨_, event_coldBoot hp (by simp only [writeComplete, hwriting, hstaged, if_true]; rfl), ?_⟩
    have built := (coldBoot_builtFrom (some i) .routine (.device .configApplied (some .operate) (some k))
      ({ s with ev := Scratch.clear }.modCs (fun c => { c with store := .holds i k }))).ended s.sp.reports.length
    refine ⟨by simp [ended], by simp [ended, deviceMode], built.powerOnBlocks, built.bootedFrom rfl, ?_, ?_, by simp,
      by simp⟩
    · simp [ended, bootRC]
    · rw [built.trouble]
      rfl
  · refine ⟨_, event_powered _ hp, ?_⟩
    rw [finish_orderLift (by simp [writeComplete, hwriting, hstaged, Scratch.clear])]
    simp [ended, writeComplete, hwriting, hstaged, loadedTables]

end Sys2Proof.Machine
end

section
/-!
The state after reset is sound (O5): it is built from the FALLBACK set.
-/

namespace Sys2Proof.Machine

theorem reset_builtFrom : BuiltFrom none State.reset := ⟨rfl, ⟨_, rfl⟩, ⟨0, true, rfl⟩, rfl, rfl, rfl, rfl, rfl⟩

/-- The door points of the FALLBACK set are numbered in order. -/
theorem bootDoors_fallback_indices : (bootDoors none).map (·.index) = List.range 160 := by
  rw [bootDoors, List.map_map]
  exact List.map_id _

/-- R103: in the power-on state of the FALLBACK set every latch is LOCK and no reason for RELEASE holds. -/
theorem reset_latchesRequired : State.reset.LatchesRequired := by
  intro d hd
  obtain ⟨-, hset⟩ := (reset_builtFrom.fallbackSet rfl).doors
  obtain ⟨-, -, hnormal, -⟩ := hset d hd
  have hdrive : d.drive = .lock := (reset_builtFrom.powerOnBlocks.doors d hd).1 hnormal
  have floor_quiet {fl : Floor} (hfl : State.reset.rc.floors[d.floor]? = some fl) : fl.state = .quiet :=
    (reset_builtFrom.powerOnBlocks.floors fl (List.mem_of_getElem? hfl)).1
  rw [hdrive, hnormal]
  refine ⟨fun h => (nomatch h), ?_⟩
  rintro (h | ⟨h, -⟩ | ⟨fl, hfl, h⟩ | ⟨set, hset, h⟩ | h)
  · nomatch h
  · nomatch h
  · rw [floor_quiet hfl] at h
    nomatch h
  · obtain rfl := List.eq_of_mem_replicate (List.mem_of_getElem? hset)
    simp [hasBit] at h
  · nomatch h

/-- R123 to R129: no records, no claims, every channel free. -/
theorem reset_claimsSound : State.reset.ClaimsSound := by
  obtain ⟨hlength, hclaims⟩ := reset_builtFrom.powerOnBlocks.claims
  refine ⟨hlength, fun c hc => ?_, fun f c _ _ r hr => nomatch hr⟩
  obtain ⟨howner, hstack⟩ := hclaims c hc
  constructor <;> simp [howner, hstack]

theorem reset_poolSound : State.reset.PoolSound := by
  refine ⟨fun n id => ⟨?_, ?_⟩, rfl, List.nodup_nil, fun id => ⟨fun h => (nomatch h), ?_⟩⟩
  · rintro ⟨c, hc, hid⟩
    have hfree := (reset_builtFrom.powerOnBlocks.channels c (List.mem_of_getElem? hc)).1
    rw [hfree] at hid
    nomatch hid
  · rintro ⟨r, hr, -⟩
    nomatch hr
  · rintro ⟨r, hr, -⟩
    nomatch hr

/-- Settles O5: each property of the power-on state of the FALLBACK set. -/
theorem soundAtReset : Obligations.SoundAtReset where
  queue := show 1 ≤ 64 by decide
  replies := Nat.zero_le 8
  alarm := (alarmAgrees_iff _).mpr rfl
  trouble := (troubleAgrees_iff _).mpr rfl
  lockout := by
    intro fl hfl
    obtain ⟨-, -, hcount, hlock, -⟩ := reset_builtFrom.powerOnBlocks.floors fl hfl
    simp [hcount, hlock]
  origins := ⟨Nat.zero_le 8, List.nodup_nil⟩
  nodes := by
    intro n hn
    obtain ⟨-, hgood, hmiss, hactions, -⟩ := reset_builtFrom.powerOnBlocks.nodes n hn
    simp [hgood, hmiss, hactions]
  stairs := by
    intro st hst
    obtain ⟨hload, hcredit, -⟩ := reset_builtFrom.powerOnBlocks.stairs st hst
    simp [hload, hcredit]
  keys := ⟨show [0, 1, 2, 3].Nodup by decide, bootDoors_fallback_indices ▸ List.nodup_range⟩
  cars := ⟨List.nodup_nil, fun _ c hc => nomatch hc⟩
  images := ⟨fun i k h => (nomatch h), fun i h => (nomatch h)⟩
  records := ⟨Nat.le_refl 1, show 1 ≤ 255 by decide, show 0 < 4294967296 by decide, List.nodup_nil, List.nodup_nil,
    fun r hr => nomatch hr⟩
  claims := reset_claimsSound
  pool := reset_poolSound
  latches := reset_latchesRequired
  outputs := reset_builtFrom.powerOnBlocks.modules.1

end Sys2Proof.Machine
end

section
/-!
What the settlement of the channel pool (R130) does to the field lines: it marks channel images dirty, and no more.
-/

namespace Sys2Proof.Machine

/-! ## Effects that leave what is dirty dirty -/

/-- The field lines before and after a settlement: the ports stay, and a mark that was dirty is dirty. -/
structure FLC.Settles (x y : FLC) : Prop where
  ports : y.ports = x.ports
  marks : ∀ n' ∈ y.nodes, ∃ n ∈ x.nodes, n.port = n'.port ∧ n.address = n'.address ∧
    ∀ m' ∈ n'.images, ∃ m ∈ n.images, m.name = m'.name ∧ (m.dirty = true → m'.dirty = true)

theorem FLC.Settles.refl (x : FLC) : x.Settles x :=
  ⟨rfl, fun n hn => ⟨n, hn, rfl, rfl, fun m hm => ⟨m, hm, rfl, id⟩⟩⟩

theorem FLC.Settles.trans {x y z : FLC} (h : x.Settles y) (k : y.Settles z) : x.Settles z where
  ports := k.ports.trans h.ports
  marks n'' hn'' := by
    obtain ⟨n', hn', hport', haddr', himages'⟩ := k.marks n'' hn''
    obtain ⟨n, hn, hport, haddr, himages⟩ := h.marks n' hn'
    refine ⟨n, hn, hport.trans hport', haddr.trans haddr', fun m'' hm'' => ?_⟩
    obtain ⟨m', hm', hname', hdirty'⟩ := himages' m'' hm''
    obtain ⟨m, hm, hname, hdirty⟩ := himages m' hm'
    exact ⟨m, hm, hname.trans hname', hdirty' ∘ hdirty⟩

theorem markDirty_settles (port : Line) (address : Nat) (name : ImageName) (x : FLC) :
    x.Settles (x.markDirty port address name) := by
  refine ⟨rfl, fun n' hn' => ?_⟩
  obtain ⟨n, hn, rfl⟩ := List.mem_map.mp hn'
  refine ⟨n, hn, ?_⟩
  split
  · refine ⟨rfl, rfl, fun m' hm' => ?_⟩
    obtain ⟨m, hm, rfl⟩ := List.mem_map.mp hm'
    refine ⟨m, hm, ?_⟩
    split <;> simp
  · exact ⟨rfl, rfl, fun m hm => ⟨m, hm, rfl, id⟩⟩

/-- A report, a trouble notice, or an image marked dirty. -/
def Eff.tells : Eff → Bool
  | .report .. | .trouble .. | .dirty .. => true
  | _ => false

/-- The effects of a list are reports, trouble notices and dirty marks. -/
def AllTell (l : List Eff) : Prop := ∀ e ∈ l, e.tells = true

theorem AllTell.append {l k : List Eff} (h : AllTell l) (h' : AllTell k) : AllTell (l ++ k) := by
  intro e he
  obtain he | he := List.mem_append.mp he
  · exact h e he
  · exact h' e he

theorem AllTell.emit {σ : Type} {e : Eff} {a : Acc σ} (he : e.tells = true) (h : AllTell a.out) :
    AllTell (a.emit e).out := h.append (by simpa [AllTell] using he)

theorem applyEffs_settles {l : List Eff} (hl : AllTell l) (s : State) : s.flc.Settles (applyEffs l s).flc := by
  induction l generalizing s with
  | nil => exact .refl _
  | cons e l ih =>
    have rest := ih (fun e he => hl e (List.mem_cons_of_mem _ he)) (applyEff s e)
    refine FLC.Settles.trans ?_ rest
    have he := hl e List.mem_cons_self
    cases e with
    | report cls body => simpa [applyEff] using FLC.Settles.refl _
    | trouble src rise => simpa [applyEff] using FLC.Settles.refl _
    | dirty port address name => exact markDirty_settles ..
    | _ => nomatch he

/-! ## The operations of the settlement -/

@[simp] theorem AAcc.ar_out (f : AR → AR) (a : AAcc) : (a.ar f).out = a.out := rfl
@[simp] theorem AAcc.ev_out (f : Scratch → Scratch) (a : AAcc) : (a.ev f).out = a.out := rfl
@[simp] theorem AAcc.touch_out (a : AAcc) : a.touch.out = a.out := rfl

theorem AAcc.report_tells {cause : AnnCause} {id : Nat} {a : AAcc} {floors : Option FloorSet} (h : AllTell a.out) :
    AllTell (a.report cause id floors).out := by
  unfold AAcc.report
  split
  · exact h.emit rfl
  · exact h

theorem AAcc.modChannel_tells {env : AEnv} {n : Nat} {f : Channel → Channel} {a : AAcc} (h : AllTell a.out) :
    AllTell (a.modChannel env n f).out := by
  unfold AAcc.modChannel
  split
  · exact h
  · dsimp only
    unfold Acc.emitIf
    split
    · exact AllTell.emit rfl h
    · exact h

theorem AAcc.enterWaiting_out (id : Nat) (a : AAcc) : (a.enterWaiting id).out = a.out := by
  unfold AAcc.enterWaiting
  dsimp only
  split <;> rfl

theorem AAcc.gain_tells {id f : Nat} {a : AAcc} (h : AllTell a.out) : AllTell (a.gain id f).out := by
  unfold AAcc.gain
  split
  · exact h
  · dsimp only
    split
    · split
      · rw [AAcc.ev_out, AAcc.enterWaiting_out]
        exact h
      · exact AAcc.report_tells (by rw [AAcc.enterWaiting_out]; exact h)
    · exact h

theorem AAcc.promote_tells {env : AEnv} {f : Nat} {a : AAcc} (h : AllTell a.out) : AllTell (a.promote env f).out := by
  unfold AAcc.promote
  dsimp only
  split
  · exact h
  · exact AAcc.gain_tells h

theorem AAcc.endClaimOfEnded_tells {env : AEnv} {id f : Nat} {a : AAcc} (h : AllTell a.out) :
    AllTell (a.endClaimOfEnded env id f).out := by
  unfold AAcc.endClaimOfEnded
  dsimp only
  split
  · exact AAcc.promote_tells h
  · split <;> exact h

theorem AAcc.flushDisplaced_tells {id : Nat} {a : AAcc} (h : AllTell a.out) : AllTell (a.flushDisplaced id).out := by
  unfold AAcc.flushDisplaced
  split
  · exact h
  · exact AAcc.report_tells h

theorem AAcc.releaseOf_tells {env : AEnv} {id : Nat} {a : AAcc} (h : AllTell a.out) :
    AllTell (a.releaseOf env id).out := by
  unfold AAcc.releaseOf
  split
  · exact h
  · exact AAcc.modChannel_tells h

theorem AAcc.grant_tells {env : AEnv} {id n : Nat} {a : AAcc} (h : AllTell a.out) : AllTell (a.grant env id n).out := by
  unfold AAcc.grant
  split
  · exact h
  · exact AAcc.report_tells (AAcc.modChannel_tells h)

theorem AAcc.endRecord_tells {env : AEnv} {cause : AnnCause} {id : Nat} {a : AAcc} (h : AllTell a.out) :
    AllTell (a.endRecord env cause id).out := by
  unfold AAcc.endRecord
  split
  · exact h
  · simp only [AAcc.touch_out, AAcc.ar_out, AAcc.ev_out]
    refine AAcc.report_tells (AAcc.releaseOf_tells ?_)
    simp only [AAcc.ar_out]
    refine foldl_keeps (P := fun b : AAcc => AllTell b.out) (fun _ _ => AAcc.endClaimOfEnded_tells) _ _ ?_
    exact AAcc.flushDisplaced_tells h

theorem AAcc.yieldChannel_tells {env : AEnv} {id : Nat} {a : AAcc} (h : AllTell a.out) :
    AllTell (a.yieldChannel env id).out :=
  AAcc.report_tells (by rw [AAcc.enterWaiting_out]; exact AAcc.releaseOf_tells h)

theorem AAcc.serve_tells {env : AEnv} {id : Nat} {a : AAcc} (h : AllTell a.out) : AllTell (a.serve env id).out := by
  unfold AAcc.serve
  split
  · exact h
  · dsimp only
    split
    · split
      · split
        · exact AAcc.grant_tells h
        · exact h
      · exact h
    · split
      · exact AAcc.grant_tells h
      · split
        · exact h
        · split
          · exact h
          · split
            · exact h
            · split
              · exact AAcc.grant_tells (AAcc.endRecord_tells h)
              · exact AAcc.grant_tells (AAcc.yieldChannel_tells h)

theorem AAcc.servePass_tells {env : AEnv} (n : Nat) (met : List Nat) {a : AAcc} (h : AllTell a.out) :
    AllTell (AAcc.servePass env n met a).out := by
  induction n generalizing met a with
  | zero => exact h
  | succ n ih =>
    unfold AAcc.servePass
    split
    · exact h
    · exact ih _ (AAcc.serve_tells h)

theorem AAcc.routeHeld_tells {env : AEnv} {a : AAcc} (h : AllTell a.out) : AllTell (a.routeHeld env).out := by
  refine foldl_keeps (P := fun b : AAcc => AllTell b.out) (fun b r hb => ?_) _ _ h
  split
  · exact AAcc.modChannel_tells hb
  · exact hb

/-- R130: the settlement reports and marks images dirty. -/
theorem AAcc.settle_tells {env : AEnv} {a : AAcc} (h : AllTell a.out) : AllTell (a.settle env).out := by
  have flushed : AllTell a.flushAllDisplaced.out :=
    foldl_keeps (P := fun b : AAcc => AllTell b.out) (fun _ _ => AAcc.flushDisplaced_tells) _ _ h
  have released : AllTell (a.flushAllDisplaced.releaseIdle env).out :=
    foldl_keeps (P := fun b : AAcc => AllTell b.out) (fun _ _ => AAcc.releaseOf_tells) _ _ flushed
  have routed := AAcc.routeHeld_tells (env := env)
    (AAcc.servePass_tells (env := env) 64 [] (AAcc.routeHeld_tells (env := env) released))
  unfold AAcc.settle AAcc.reportNoChannel
  dsimp only
  split
  · split
    · exact AAcc.report_tells routed
    · exact routed
  · exact routed

/-- R130: a settlement leaves the ports, and what is dirty on the field lines. -/
theorem liftAr_settle_settles (s : State) : s.flc.Settles (s.liftAr (AAcc.settle s.aenv)).flc :=
  applyEffs_settles (s := { s with
      ar := (AAcc.settle s.aenv ⟨⟨s.ar, s.ev⟩, []⟩).st.ar, ev := (AAcc.settle s.aenv ⟨⟨s.ar, s.ev⟩, []⟩).st.ev })
    (AAcc.settle_tells (a := ⟨⟨s.ar, s.ev⟩, []⟩) fun _ he => nomatch he)

end Sys2Proof.Machine
end

section
/-!
A request answered (R164, R165, R172): the state in which its owner is asked, the state in which its event ends, and the reply.
-/

namespace Sys2Proof.Machine

/-! ## The state in which the owner is asked -/

/-- R163, R172: the part with the receiver in HUNTING and the frame taken by the host-silence supervision. -/
def asked (s : State) : State := superviseHost ({ s with ev := Scratch.clear }).hunt

theorem superviseHost_sameBlocks (s : State) : SameBlocks s (superviseHost s) := by
  unfold superviseHost
  split <;> constructor <;> simp

theorem superviseHost_sameRegime (s : State) : SameRegime s (superviseHost s) := by
  unfold superviseHost
  split <;> constructor <;> simp

theorem SameBlocks.refl (s : State) : SameBlocks s s := ⟨rfl, rfl, rfl, rfl, rfl, rfl, rfl, rfl, rfl, rfl⟩

theorem SameBlocks.trans {a b c : State} (h : SameBlocks a b) (k : SameBlocks b c) : SameBlocks a c :=
  ⟨k.flc.trans h.flc, k.ze.trans h.ze, k.es.trans h.es, k.lc.trans h.lc, k.ds.trans h.ds, k.ar.trans h.ar,
    k.cs.trans h.cs, k.powered.trans h.powered, k.freeCount.trans h.freeCount, k.pending.trans h.pending⟩

theorem SameRegime.refl (s : State) : SameRegime s s := ⟨rfl, rfl, rfl, rfl, rfl, rfl, rfl, rfl⟩

theorem SameRegime.trans {a b c : State} (h : SameRegime a b) (k : SameRegime b c) : SameRegime a c :=
  ⟨k.level.trans h.level, k.resetPending.trans h.resetPending, k.origins.trans h.origins, k.entryTime.trans h.entryTime,
    k.secondCount.trans h.secondCount, k.originLimit.trans h.originLimit, k.floors.trans h.floors,
    k.commonAlarm.trans h.commonAlarm⟩

theorem asked_sameBlocks (s : State) : SameBlocks s (asked s) :=
  SameBlocks.trans (b := ({ s with ev := Scratch.clear }).hunt) ⟨rfl, rfl, rfl, rfl, rfl, rfl, rfl, rfl, rfl, rfl⟩
    (superviseHost_sameBlocks _)

theorem asked_sameRegime (s : State) : SameRegime s (asked s) :=
  SameRegime.trans (b := ({ s with ev := Scratch.clear }).hunt) ⟨rfl, rfl, rfl, rfl, rfl, rfl, rfl, rfl⟩
    (superviseHost_sameRegime _)

@[simp] theorem asked_ev (s : State) : (asked s).ev = Scratch.clear := by
  unfold asked superviseHost
  split <;> simp [State.hunt]

@[simp] theorem asked_replies (s : State) : (asked s).sp.replies = s.sp.replies := by
  unfold asked superviseHost
  split <;> simp [State.hunt]

@[simp] theorem asked_restart (s : State) : (asked s).sp.restart = s.sp.restart := by
  unfold asked superviseHost
  split <;> simp [State.hunt]

/-- R172: a frame clears the condition and starts the timer. -/
theorem asked_silence (s : State) : (asked s).sp.hostSilent = false ∧ (asked s).sp.silence = some 30 := by
  unfold asked superviseHost
  split
  · simp [Config.silenceLimit]
  · rename_i h
    exact ⟨by simpa using h, rfl⟩

/-! ## The end of the event -/

/-- The state `t` in which the event of a request ends whose owner left `s`: the reply, the settlement of the channel pool and
the transmitter come after it. -/
structure EndsIn (s t : State) : Prop extends Admits s t where
  es : t.es = s.es
  ds : t.ds = s.ds
  powered : t.powered = s.powered
  freeCount : t.freeCount = s.freeCount
  originLimit : t.rc.originLimit = s.rc.originLimit
  floorTable : t.rc.floors = s.rc.floors
  restart : t.sp.restart = s.sp.restart
  silence : t.sp.silence = s.sp.silence
  hostSilent : t.sp.hostSilent = s.sp.hostSilent
  settles : s.flc.Settles t.flc
  untouched : s.ev.arTouched = false → t = { s with ev := Scratch.clear, sp := t.sp }

/-- R130: the part after the settlement of the channel pool, which is made where the AR changed something. -/
def settled (s : State) : State := if s.ev.arTouched then s.liftAr (AAcc.settle s.aenv) else s

theorem finish_eq (s : State) :
    finish s = { settled s with ev := Scratch.clear, sp := takeNextFrame (settled s).sp } := rfl

@[simp] theorem settled_es (s : State) : (settled s).es = s.es := by unfold settled; split <;> simp
@[simp] theorem settled_ds (s : State) : (settled s).ds = s.ds := by unfold settled; split <;> simp
@[simp] theorem settled_powered (s : State) : (settled s).powered = s.powered := by unfold settled; split <;> simp
@[simp] theorem settled_freeCount (s : State) : (settled s).freeCount = s.freeCount := by unfold settled; split <;> simp
@[simp] theorem settled_originLimit (s : State) : (settled s).rc.originLimit = s.rc.originLimit := by
  unfold settled; split <;> simp
@[simp] theorem settled_floors (s : State) : (settled s).rc.floors = s.rc.floors := by unfold settled; split <;> simp
@[simp] theorem settled_restart (s : State) : (settled s).sp.restart = s.sp.restart := by unfold settled; split <;> simp
@[simp] theorem settled_silence (s : State) : (settled s).sp.silence = s.sp.silence := by unfold settled; split <;> simp
@[simp] theorem settled_hostSilent (s : State) : (settled s).sp.hostSilent = s.sp.hostSilent := by
  unfold settled; split <;> simp
@[simp] theorem settled_replies (s : State) : (settled s).sp.replies = s.sp.replies := by unfold settled; split <;> simp

theorem settled_settles (s : State) : s.flc.Settles (settled s).flc := by
  unfold settled
  split
  · exact liftAr_settle_settles s
  · exact .refl _

/-- The end of an event after a change of the SP that keeps its supervision and its pending restart. -/
theorem finish_modSp_endsIn {p : SP} {s : State} (hrestart : p.restart = s.sp.restart)
    (hsilence : p.silence = s.sp.silence) (hsilent : p.hostSilent = s.sp.hostSilent) :
    EndsIn s (finish { s with sp := p }) where
  toAdmits := (modSp_admits (fun _ => p) s).trans (finish_admits _)
  es := by simp [finish_eq]
  ds := by simp [finish_eq]
  powered := by simp [finish_eq]
  freeCount := by simp [finish_eq]
  originLimit := by simp [finish_eq]
  floorTable := by simp [finish_eq]
  restart := by simp [finish_eq, hrestart]
  silence := by simp [finish_eq, hsilence]
  hostSilent := by simp [finish_eq, hsilent]
  settles := settled_settles { s with sp := p }
  untouched h := by
    rw [finish_untouched (s := { s with sp := p }) h]

/-- R166: the reply made in an event is the newest at its end. -/
theorem newestReply_finish {s : State} {r : Reply} (h : s.sp.replies.getLast? = some r) :
    newestReply (finish s) = some r :=
  newestReply_takeNextFrame { settled s with ev := Scratch.clear } r (by simpa using h)

/-! ## The answer -/

/-- A request row whose frame is of the right length, decodes and is handled by its owner. -/
structure Requests (i : Instr) {ρ : Type} (kind tag : Byte) (q : ρ) (handle : ρ → State → Answer × State) : Prop where
  row : ∃ lengthOk operands, lengthOk = true ∧ operands = some q ∧
    ∀ s, exec i s = received (takeFrame kind tag lengthOk operands handle) s

/-- R165: the reply of an answer. -/
def Answer.reply (kind tag : Byte) (a : Answer) : Reply := ⟨replyKind kind, tag, a.status, a.reason, a.content⟩

theorem takeFrame_answers {ρ : Type} {kind tag : Byte} {q : ρ} {handle : ρ → State → Answer × State} {s : State}
    (hrestart : s.sp.restart = none) (hroom : s.sp.replies.length < 8) :
    takeFrame kind tag true (some q) handle ({ s with ev := Scratch.clear }).hunt =
      pushReply (replyKind kind) tag (handle q (asked s)).1 (handle q (asked s)).2 := by
  have hfull : ¬ 8 ≤ (asked s).sp.replies.length := by rw [asked_replies]; omega
  have hanswer : answerFrame true (some q) handle (asked s) = handle q (asked s) := by
    simp [answerFrame, hrestart]
  change (if 8 ≤ (asked s).sp.replies.length then asked s
    else pushReply (replyKind kind) tag (answerFrame true (some q) handle (asked s)).1
      (answerFrame true (some q) handle (asked s)).2) = _
  rw [hanswer, if_neg hfull]

/-- R164, R165: a part that answers asks the owner and replies with the answer. -/
theorem Requests.answered {i : Instr} {ρ : Type} {kind tag : Byte} {q : ρ} {handle : ρ → State → Answer × State}
    (h : Requests i kind tag q handle) {s : State} (hs : s.answers) :
    ∃ t, exec i s = .next t ∧ newestReply t = some ((handle q (asked s)).1.reply kind tag) ∧
      EndsIn (handle q (asked s)).2 t := by
  obtain ⟨hpower, hrestart, hroom⟩ := hs
  obtain ⟨_, _, rfl, rfl, hrow⟩ := h.row
  refine ⟨_, (hrow s).trans (event_powered _ hpower), ?_, ?_⟩
  · rw [takeFrame_answers hrestart hroom]
    exact newestReply_finish (by simp [orderLift, pushReply, Answer.reply])
  · rw [takeFrame_answers hrestart hroom]
    exact finish_modSp_endsIn (p := (orderLift _ (pushReply _ _ _ _)).sp) rfl rfl rfl

/-- The end of an event whose owner changed nothing. -/
theorem EndsIn.of_asked {s t : State} (h : EndsIn (asked s) t) :
    SameBlocks s t ∧ SameRegime s t ∧ t.sp.restart = s.sp.restart ∧ t.sp.hostSilent = false ∧ t.sp.silence = some 30 := by
  have ht := h.untouched (by rw [asked_ev]; rfl)
  obtain ⟨hsilent, hsilence⟩ := asked_silence s
  refine ⟨(asked_sameBlocks s).trans ?_, (asked_sameRegime s).trans ?_, h.restart.trans (asked_restart s),
    h.hostSilent.trans hsilent, h.silence.trans hsilence⟩
  · rw [ht]; exact ⟨rfl, rfl, rfl, rfl, rfl, rfl, rfl, rfl, rfl, rfl⟩
  · rw [ht]; exact ⟨rfl, rfl, rfl, rfl, rfl, rfl, rfl, rfl⟩

/-- A request that its owner answers with no change. -/
theorem Requests.answeredOnly {i : Instr} {ρ : Type} {kind tag : Byte} {q : ρ} {handle : ρ → State → Answer × State}
    (h : Requests i kind tag q handle) {s : State} (hs : s.answers) {a : Answer}
    (ha : handle q (asked s) = (a, asked s)) : AnsweredOnly i s (a.reply kind tag) := by
  obtain ⟨t, ht, hreply, hend⟩ := h.answered hs
  rw [ha] at hreply hend
  obtain ⟨hblocks, hregime, hrestart, -⟩ := hend.of_asked
  exact ⟨t, ht, hreply, hblocks, hregime, hrestart⟩

/-! ## Queries (R169) -/

/-- What a query reads is no matter of the SP nor of the scratch record. -/
def ReadsBlocks (find : State → Option Content) : Prop :=
  ∀ (s : State) (p : SP) (e : Scratch), find { s with sp := p, ev := e } = find s

theorem Requests.queryAnswered {i : Instr} {ρ : Type} {kind tag : Byte} {q : ρ} {find : ρ → State → Option Content}
    (h : Requests i kind tag q (asQuery find)) (hfind : ReadsBlocks (find q)) {s : State} (hs : s.answers) :
    QueryAnswered i s (replyKind kind) tag (find q) := by
  obtain ⟨t, ht, hreply, hend⟩ := h.answered hs
  obtain ⟨hblocks, hregime, -, hsilent, hsilence⟩ := EndsIn.of_asked hend
  refine ⟨t, ht, ?_, hblocks, hregime, hsilent, hsilence⟩
  have hread : find q t = find q (asked s) := by
    rw [hend.untouched (by rw [asQuery, asked_ev]; rfl)]
    exact hfind _ _ _
  rw [hreply, hread, asQuery]
  cases find q (asked s) <;> rfl

/-- R189: a link or port is decoded from its code. -/
theorem ofCode_code (k : Line) : Line.ofCode k.code = some k := by
  cases k with
  | p i => fin_cases i <;> rfl
  | g i => fin_cases i <;> rfl
  | d i => fin_cases i <;> rfl
  | a => rfl
  | l => rfl

theorem lineOf_eq {k : Line} {b : Byte} (h : k.code = b.toNat) : lineOf b = some k := by
  rw [lineOf, ← h, ofCode_code]

/-- R189: L alone has the code 13. -/
theorem code_le_of_ne_l {k : Line} (h : k ≠ .l) : k.code ≤ 12 := by
  cases k with
  | l => exact absurd rfl h
  | _ => simp only [Line.code]; omega

theorem floorIndex_eq {b : Byte} (h : b.toNat ≤ 63) : floorIndex b = some b.toNat := if_pos h

theorem linkZone_eq {k : Line} {a b : Byte} (h : k.code = a.toNat) : linkZone [a, b] = some (k, b.toNat) := by
  rw [linkZone, lineOf_eq h]
  rfl

/-! ## The queries' rows -/

theorem readRegime_requests (tag : Byte) :
    Requests (.readRegime tag []) 0x01#8 tag () (asQuery fun _ s => regimeContent s) :=
  ⟨_, _, rfl, rfl, fun _ => rfl⟩

theorem readFloor_requests (tag : Byte) {a : Byte} (h : a.toNat ≤ 63) :
    Requests (.readFloor tag [a]) 0x02#8 tag a.toNat (asQuery floorContent) :=
  ⟨_, _, rfl, floorIndex_eq h, fun _ => rfl⟩

theorem readZone_requests (tag b : Byte) {a : Byte} {k : Line} (h : k.code = a.toNat) :
    Requests (.readZone tag [a, b]) 0x03#8 tag (k, b.toNat) (asQuery fun q => zoneContent q.1 q.2) :=
  ⟨_, _, rfl, linkZone_eq h, fun _ => rfl⟩

theorem readStair_requests (tag a : Byte) :
    Requests (.readStair tag [a]) 0x04#8 tag a.toNat (asQuery stairContent) := ⟨_, _, rfl, rfl, fun _ => rfl⟩

theorem readCar_requests (tag a : Byte) :
    Requests (.readCar tag [a]) 0x05#8 tag a.toNat (asQuery carContent) := ⟨_, _, rfl, rfl, fun _ => rfl⟩

theorem readDoor_requests (tag a : Byte) :
    Requests (.readDoor tag [a]) 0x06#8 tag a.toNat (asQuery doorContent) := ⟨_, _, rfl, rfl, fun _ => rfl⟩

theorem readAnnouncementRecord_requests (tag b : Byte) :
    Requests (.readAnnouncementRecord tag [0, b]) 0x07#8 tag (.record b.toNat) (asQuery annContent) :=
  ⟨_, _, rfl, rfl, fun _ => rfl⟩

theorem readAnnouncementPool_requests (tag b : Byte) :
    Requests (.readAnnouncementPool tag [1, b]) 0x07#8 tag .pool (asQuery annContent) :=
  ⟨_, _, rfl, rfl, fun _ => rfl⟩

theorem readAnnouncementFloor_requests (tag : Byte) {b : Byte} (h : b.toNat ≤ 63) :
    Requests (.readAnnouncementFloor tag [2, b]) 0x07#8 tag (.floor b.toNat) (asQuery annContent) :=
  ⟨_, _, rfl, congrArg (Option.map AnnForm.floor) (floorIndex_eq h), fun _ => rfl⟩

theorem portAddress_eq {k : Line} {a b : Byte} (h : k.code = a.toNat) (hl : k ≠ .l) :
    portAddress [a, b] = some (k, b.toNat) := by
  rw [portAddress, if_pos (h ▸ code_le_of_ne_l hl), lineOf_eq h]
  rfl

theorem readNode_requests (tag b : Byte) {a : Byte} {k : Line} (h : k.code = a.toNat) (hl : k ≠ .l) :
    Requests (.readNode tag [a, b]) 0x08#8 tag (k, b.toNat) (asQuery fun q => nodeContent q.1 q.2) :=
  ⟨_, _, rfl, portAddress_eq h hl, fun _ => rfl⟩

/-- Settles O27: each query is a request whose owner changes nothing. -/
theorem queriesAnswered : Obligations.QueriesAnswered := fun _ tag a b hs =>
  ⟨(readRegime_requests tag).queryAnswered (fun _ _ _ => rfl) hs,
    fun ha => (readFloor_requests tag ha).queryAnswered (fun _ _ _ => rfl) hs,
    fun _ hk => (readZone_requests tag b hk).queryAnswered (fun _ _ _ => rfl) hs,
    (readStair_requests tag a).queryAnswered (fun _ _ _ => rfl) hs,
    (readCar_requests tag a).queryAnswered (fun _ _ _ => rfl) hs,
    (readDoor_requests tag a).queryAnswered (fun _ _ _ => rfl) hs,
    (readAnnouncementRecord_requests tag b).queryAnswered (fun _ _ _ => rfl) hs,
    (readAnnouncementPool_requests tag b).queryAnswered (fun _ _ _ => rfl) hs,
    fun hb => (readAnnouncementFloor_requests tag hb).queryAnswered (fun _ _ _ => rfl) hs,
    fun _ hk hl => (readNode_requests tag b hk hl).queryAnswered (fun _ _ _ => rfl) hs⟩

end Sys2Proof.Machine
end

section
/-!
SET_OCCUPANCY (R14) and EVACUATE_FLOORS (R13, R54, R168).
-/

namespace Sys2Proof.Machine

/-! ## SET_OCCUPANCY -/

theorem setOccupancy_requests (tag v0 v1 : Byte) {f : Byte} (h : f.toNat ≤ 63) :
    Requests (.setOccupancy tag [f, v0, v1]) 0x0C#8 tag (f.toNat, v0.toNat + 256 * v1.toNat)
      (fun q => setOccupancy q.1 q.2) :=
  ⟨_, _, rfl, by rw [occupancyOperands, floorIndex_eq h]; rfl, fun _ => rfl⟩

/-- R167: DONE, or CLAMPED, with nothing more. -/
theorem doneOr_reply (kind tag : Byte) (c : Prop) [Decidable c] :
    (Answer.doneOr (decide c) .empty).reply kind tag = plainReply (replyKind kind) tag (if c then .clamped else .done) := by
  by_cases h : c <;> simp [Answer.doneOr, Answer.reply, plainReply, h]

theorem setOccupancy_noSuch {f value : Nat} {s : State} (h : s.rc.floors.length ≤ f) :
    setOccupancy f value s = (.bare .noSuch, s) := by
  rw [setOccupancy, List.getElem?_eq_none h]

theorem setOccupancy_noEgress {f value : Nat} {s : State} {fl : Floor} (h : s.rc.floors[f]? = some fl)
    (he : fl.egress = .none) : setOccupancy f value s = (.refused .noEgress, s) := by
  rw [setOccupancy, h]
  exact if_pos he

theorem setOccupancy_done {f value : Nat} {s : State} {fl : Floor} (h : s.rc.floors[f]? = some fl)
    (he : fl.egress ≠ .none) : setOccupancy f value s = (.doneOr (decide (2000 < value)) .empty,
      s.modRc (fun r => r.modFloor f (fun x => { x with occupancy := min 2000 value }))) := by
  rw [setOccupancy, h]
  exact if_neg he

/-- Settles O31: by the three outcomes of its owner. -/
theorem setOccupancyRule : Obligations.SetOccupancyRule := by
  intro s tag f v0 v1 hs hf
  have request := setOccupancy_requests tag v0 v1 hf
  have hfloors : (asked s).rc.floors = s.rc.floors := (asked_sameRegime s).floors
  refine ⟨fun h => ?_, fun fl hfl he => ?_, fun fl hfl he => ?_⟩
  · exact request.answeredOnly hs (setOccupancy_noSuch (hfloors ▸ h))
  · exact request.answeredOnly hs (setOccupancy_noEgress (hfloors ▸ hfl) he)
  · obtain ⟨t, ht, hreply, hend⟩ := request.answered hs
    rw [setOccupancy_done (hfloors ▸ hfl) he] at hreply hend
    rw [doneOr_reply] at hreply
    have htable : t.rc.floors = s.rc.floors.modify f.toNat
        (fun x => { x with occupancy := min 2000 (v0.toNat + 256 * v1.toNat) }) := by
      rw [hend.floorTable, ← hfloors]
      rfl
    refine ⟨t, ht, hreply, ?_, fun g hg => ?_, ?_, ?_, ?_⟩
    · simp [htable, hfl]
    · simp [htable, Ne.symm hg]
    · exact hend.level.trans (asked_sameRegime s).level
    · exact hend.resetPending.trans (asked_sameRegime s).resetPending
    · refine (asked_sameBlocks s).trans ?_
      rw [hend.untouched (by simp [Scratch.clear])]
      exact ⟨rfl, rfl, rfl, rfl, rfl, rfl, rfl, rfl, rfl, rfl⟩

/-! ## The floor table after an admission -/

@[simp] theorem reportFloor_rc (cls : Cls) (cause : FloorCause) (f : Nat) (s : State) :
    (reportFloor cls cause f s).rc = s.rc := by
  unfold reportFloor
  split <;> simp

@[simp] theorem reportFloor_es (cls : Cls) (cause : FloorCause) (f : Nat) (s : State) :
    (reportFloor cls cause f s).es = s.es := by
  unfold reportFloor
  split <;> simp

/-- R6: an admission changes the record of its floor alone. -/
theorem admitFloor_floors (kind : AdmKind) (shares : Option (List (Nat × Nat))) (told : Bool) (f : Nat) (s : State) :
    (admitFloor kind shares told f s).rc.floors =
      if floorState s f = some .alert then s.rc.floors.modify f (admittedFloor kind shares s.rc.secondCount)
      else s.rc.floors := by
  unfold admitFloor
  split
  · cases told <;> simp [RC.modFloor]
  · rfl

@[simp] theorem admitFloor_es (kind : AdmKind) (shares : Option (List (Nat × Nat))) (told : Bool) (f : Nat) (s : State) :
    (admitFloor kind shares told f s).es = s.es := by
  unfold admitFloor
  split
  · cases told <;> simp
  · rfl

@[simp] theorem reportStair_rc (cause : StairCause) (i : Nat) (floor : Option (Nat × Label)) (s : State) :
    (reportStair cause i floor s).rc = s.rc := by
  unfold reportStair
  split <;> simp

@[simp] theorem reportStair_es (cause : StairCause) (i : Nat) (floor : Option (Nat × Label)) (s : State) :
    (reportStair cause i floor s).es = s.es := by
  unfold reportStair
  split <;> simp

/-- R57: an addition leaves the Regime Core and the pending list. -/
theorem addShare_rc_waiting (s : State) (e : Nat × Nat) :
    (addShare s e).rc = s.rc ∧ (addShare s e).es.waiting = s.es.waiting := by
  unfold addShare
  split
  · exact ⟨rfl, rfl⟩
  · split
    · exact ⟨rfl, rfl⟩
    · dsimp only
      split <;> split <;> simp [ES.modStair]

theorem foldl_addShare_rc_waiting (l : List (Nat × Nat)) (s : State) :
    (l.foldl addShare s).rc = s.rc ∧ (l.foldl addShare s).es.waiting = s.es.waiting :=
  foldl_keeps (P := fun t => t.rc = s.rc ∧ t.es.waiting = s.es.waiting)
    (fun t e h => ⟨(addShare_rc_waiting t e).1.trans h.1, (addShare_rc_waiting t e).2.trans h.2⟩) l s ⟨rfl, rfl⟩

/-- R59: an admission step takes its floor off the list and admits it with some shares. -/
theorem admitStep_effect (kind : AdmKind) (f : Nat) (s : State) : ∃ shares,
    (admitStep kind f s).rc.floors = (admitFloor kind shares true f s).rc.floors ∧
      (admitStep kind f s).es.waiting = s.es.waiting.erase f := by
  unfold admitStep
  split
  case h_1 hnone => exact ⟨none, by simp [admitFloor_floors, floorState, hnone], rfl⟩
  case h_2 fl hfl =>
    dsimp only
    refine ⟨some (shareList s.es.stairs fl), ?_⟩
    by_cases ha : fl.state = .alert
    · have hstate : floorState s f = some .alert := by simp [floorState, hfl, ha]
      rw [if_pos ha]
      split
      · simp [admitFloor_floors, hstate, show floorState (s.modEs _) f = floorState s f from rfl]
      · rw [(foldl_addShare_rc_waiting _ _).1, (foldl_addShare_rc_waiting _ _).2]
        simp [admitFloor_floors, hstate, show floorState (s.modEs _) f = floorState s f from rfl]
    · rw [if_neg ha]
      simp [admitFloor_floors, floorState, hfl, ha]

theorem admitStep_waiting (kind : AdmKind) (f : Nat) (s : State) :
    (admitStep kind f s).es.waiting = s.es.waiting.erase f := by
  obtain ⟨-, -, h⟩ := admitStep_effect kind f s
  exact h

/-- R6: the admission of one floor leaves the record of another. -/
theorem admitFloor_floor_ne {kind : AdmKind} {shares : Option (List (Nat × Nat))} {told : Bool} {f g : Nat} {s : State}
    (h : g ≠ f) : (admitFloor kind shares told g s).rc.floors[f]? = s.rc.floors[f]? := by
  rw [admitFloor_floors]
  split
  · simp [h]
  · rfl

/-- R6: an ALERT floor that is admitted is in EVAC with the kind given. -/
theorem admitFloor_floor {kind : AdmKind} {shares : Option (List (Nat × Nat))} {told : Bool} {f : Nat} {s : State}
    {fl : Floor} (hfl : s.rc.floors[f]? = some fl) (ha : fl.state = .alert) :
    (admitFloor kind shares told f s).rc.floors[f]? = some (admittedFloor kind shares s.rc.secondCount fl) := by
  rw [admitFloor_floors, if_pos (by simp [floorState, hfl, ha])]
  simp [hfl]

/-! ## EVACUATE_FLOORS -/

/-- A floor in EVAC with kind MANUAL. -/
def Evacuated (s : State) (f : Nat) : Prop :=
  ∃ fl a, s.rc.floors[f]? = some fl ∧ fl.state = .evac ∧ fl.admission = some a ∧ a.kind = .manual

/-- A floor in EVAC stays so through admissions. -/
theorem Evacuated.admits {s t : State} {f : Nat} (h : Evacuated s f) (k : Admits s t) : Evacuated t f := by
  obtain ⟨fl, a, hfl, he, ha, hk⟩ := h
  obtain ⟨fl', hfl', held⟩ := k.floors.held f fl hfl
  obtain ⟨he', ha'⟩ := held.evac he
  exact ⟨fl', a, hfl', he', ha'.trans ha, hk⟩

/-- R13: an ALERT floor that EVACUATE_FLOORS admits: it is pending, or it is not a STAIR floor. -/
structure Evacuable (s : State) (f : Nat) (fl : Floor) : Prop where
  floor : s.rc.floors[f]? = some fl
  alert : fl.state = .alert
  pending : f ∈ s.es.waiting ∨ fl.egress ≠ .stair

theorem evacuateFloor_evacuates {s : State} {f : Nat} {fl : Floor} (h : Evacuable s f fl) :
    Evacuated (evacuateFloor s f) f := by
  obtain ⟨hfl, ha, hp⟩ := h
  unfold evacuateFloor
  split
  · obtain ⟨shares, hfloors, -⟩ := admitStep_effect .manual f s
    exact ⟨_, _, by rw [hfloors]; exact admitFloor_floor hfl ha, rfl, rfl, rfl⟩
  · rename_i hw
    have he : fl.egress ≠ .stair := hp.resolve_left (by simpa using hw)
    rw [if_pos (by simp [floorState, egressOf, hfl, ha, he])]
    exact ⟨_, _, admitFloor_floor hfl ha, rfl, rfl, rfl⟩

/-- R54: the evacuation of another floor leaves it to be evacuated. -/
theorem evacuateFloor_evacuable_ne {s : State} {f g : Nat} {fl : Floor} (hg : g ≠ f) (h : Evacuable s f fl) :
    Evacuable (evacuateFloor s g) f fl := by
  obtain ⟨hfl, ha, hp⟩ := h
  unfold evacuateFloor
  split
  · obtain ⟨shares, hfloors, hwaiting⟩ := admitStep_effect .manual g s
    refine ⟨by rw [hfloors, admitFloor_floor_ne hg]; exact hfl, ha, hp.imp_left fun hw => ?_⟩
    rw [hwaiting]
    exact (List.mem_erase_of_ne (Ne.symm hg)).mpr hw
  · split
    · exact ⟨(admitFloor_floor_ne hg).trans hfl, ha, by simpa using hp⟩
    · exact ⟨hfl, ha, hp⟩

theorem foldl_evacuateFloor_evacuates {l : List Nat} {s : State} {f : Nat} {fl : Floor} (hf : f ∈ l)
    (h : Evacuable s f fl) : Evacuated (l.foldl evacuateFloor s) f := by
  induction l generalizing s with
  | nil => nomatch hf
  | cons g l ih =>
    by_cases hg : g = f
    · subst hg
      exact (evacuateFloor_evacuates h).admits (Admits.foldl evacuateFloor_admits l _)
    · exact ih ((List.mem_cons.mp hf).resolve_left (Ne.symm hg)) (evacuateFloor_evacuable_ne hg h)

/-- R13, R54: every floor of the span that can be evacuated is. -/
theorem evacuateSpan_evacuates {l : List Nat} {s : State} {f : Nat} {fl : Floor} (hf : f ∈ l) (h : Evacuable s f fl) :
    Evacuated (evacuateSpan l s) f := by
  have folded := foldl_evacuateFloor_evacuates hf h
  have timed {c : Prop} [Decidable c] : Evacuated (if c then restartAdvance (l.foldl evacuateFloor s)
      else l.foldl evacuateFloor s) f := by
    split
    · exact folded.admits (restartAdvance_admits _)
    · exact folded
  unfold evacuateSpan
  dsimp only
  split
  · exact timed.admits (attempt_admits _)
  · exact timed

theorem evacuateFloors_requests (tag : Byte) {lo hi : Byte} (hlo : lo.toNat ≤ 63) (hhi : hi.toNat ≤ 63) :
    Requests (.evacuateFloors tag [lo, hi]) 0x0B#8 tag (lo.toNat, hi.toNat) (fun q => evacuateFloors q.1 q.2) :=
  ⟨_, _, rfl, by rw [spanOperands, floorIndex_eq hlo, floorIndex_eq hhi], fun _ => rfl⟩

theorem evacuateFloors_quiet {lo hi : Nat} {s : State} (h : s.rc.level = .normal) :
    evacuateFloors lo hi s = (.refused .regimeQuiet, s) := if_pos h

theorem evacuateFloors_reversed {lo hi : Nat} {s : State} (h : s.rc.level ≠ .normal) (hr : hi < lo) :
    evacuateFloors lo hi s = (.bare .badArgument, s) := by
  rw [evacuateFloors, if_neg h, spanOf, if_pos hr]

/-- R168: the configured floors of a span. -/
def spanFloors (n lo hi : Nat) : List Nat := (List.range n).filter (fun f => decide (lo ≤ f ∧ f ≤ hi))

theorem evacuateFloors_done {lo hi : Nat} {s : State} (h : s.rc.level ≠ .normal) (hr : lo ≤ hi) :
    evacuateFloors lo hi s = (.doneOr (decide (s.rc.floors.length ≤ hi)) .empty,
      if (spanFloors s.rc.floors.length lo hi).isEmpty then s
      else evacuateSpan (spanFloors s.rc.floors.length lo hi) s) := by
  rw [evacuateFloors, if_neg h, spanOf, if_neg (Nat.not_lt.mpr hr)]
  rfl

/-- Settles O30: the span is admitted floor by floor, and an admission moves nothing of the level, the zones or the lifts. -/
theorem evacuateFloorsRule : Obligations.EvacuateFloorsRule := by
  intro s tag lo hi hs hlo hhi
  have request := evacuateFloors_requests tag hlo hhi
  have hregime := asked_sameRegime s
  have hblocks := asked_sameBlocks s
  refine ⟨fun h => ?_, fun h hr => ?_, fun h hr => ?_⟩
  · exact request.answeredOnly hs (evacuateFloors_quiet (hregime.level.trans h))
  · exact request.answeredOnly hs (evacuateFloors_reversed (hregime.level ▸ h) hr)
  · obtain ⟨t, ht, hreply, hend⟩ := request.answered hs
    rw [evacuateFloors_done (hregime.level ▸ h) hr] at hreply hend
    rw [doneOr_reply, hregime.floors] at hreply
    have admits := (Admits.ite (.refl (asked s)) (evacuateSpan_admits _ _)).trans hend.toAdmits
    refine ⟨t, ht, hreply, admits.level.trans hregime.level, admits.resetPending.trans hregime.resetPending,
      admits.origins.trans hregime.origins, admits.ze.trans hblocks.ze, admits.lc.trans hblocks.lc,
      admits.cs.trans hblocks.cs, fun f fl hf hf' hfl ha hp => ?_⟩
    have evacuable : Evacuable (asked s) f fl := ⟨hregime.floors ▸ hfl, ha, hblocks.es ▸ hp⟩
    have hmem : f ∈ spanFloors (asked s).rc.floors.length lo.toNat hi.toNat := by
      have hlt := (List.getElem?_eq_some_iff.mp evacuable.floor).1
      simp [spanFloors, hlt, hf, hf']
    dsimp only at hend
    rw [if_neg (by simpa using List.ne_nil_of_mem hmem)] at hend
    exact (evacuateSpan_evacuates hmem evacuable).admits hend.toAdmits

end Sys2Proof.Machine
end

section
/-!
RESET_REGIME (R15, R16, R40): the pass over the zones and the test for completion.
-/

namespace Sys2Proof.Machine

/-! ## The zone table -/

/-- A record found in the zone table carries the key under which it was found. -/
theorem findZone_key {x : ZE} {k : Line} {n : Nat} {z : Zone} (h : findZone x k n = some z) :
    z.link = k ∧ z.number = n := by
  simpa using List.find?_some h

theorem findZone_mem {x : ZE} {k : Line} {n : Nat} {z : Zone} (h : findZone x k n = some z) : z ∈ x.zones :=
  List.mem_of_find?_eq_some h

/-- The record put into the table is found where its key had one. -/
theorem findZone_putZone {x : ZE} {z e : Zone} (h : findZone x z.link z.number = some e) :
    findZone (x.putZone z) z.link z.number = some z := by
  unfold findZone ZE.putZone mapIf at *
  dsimp only
  generalize x.zones = l at h ⊢
  induction l with
  | nil => simp at h
  | cons y ys ih =>
    by_cases hy : y.link = z.link ∧ y.number = z.number
    · simp [hy]
    · rw [List.find?_cons_of_neg (by simpa using hy)] at h
      simpa [hy] using ih h

/-- The record of another key is as it was. -/
theorem findZone_putZone_ne {x : ZE} {z : Zone} {k : Line} {n : Nat} (h : ¬ (z.link = k ∧ z.number = n)) :
    findZone (x.putZone z) k n = findZone x k n := by
  unfold findZone ZE.putZone mapIf
  dsimp only
  induction x.zones with
  | nil => rfl
  | cons y ys ih =>
    rw [List.map_cons]
    by_cases hy : y.link = z.link ∧ y.number = z.number
    · rw [if_pos (by simpa using hy), List.find?_cons_of_neg (by simpa using h),
        List.find?_cons_of_neg (by rw [hy.1, hy.2]; simpa using h)]
      exact ih
    · rw [if_neg (by simpa using hy)]
      simp only [List.find?_cons]
      split
      · rfl
      · exact ih

/-! ## The pass (R40) -/

/-- R40: a zone after the pass. -/
def passedZone (z : Zone) : Zone :=
  match z.state with
  | .confirmed =>
    if z.lastInput = some .normal then { z with state := .normal, clearOnRestore := false }
    else { z with clearOnRestore := true }
  | .verifying => { z with state := .normal, window := none }
  | _ => z

theorem passedZone_key (z : Zone) : (passedZone z).link = z.link ∧ (passedZone z).number = z.number := by
  unfold passedZone
  split
  · split <;> exact ⟨rfl, rfl⟩
  · exact ⟨rfl, rfl⟩
  · exact ⟨rfl, rfl⟩

/-- A second pass changes nothing. -/
theorem passedZone_idem (z : Zone) : passedZone (passedZone z) = passedZone z := by
  cases hz : z.state with
  | confirmed => by_cases hi : z.lastInput = some .normal <;> simp [passedZone, hz, hi]
  | _ => simp [passedZone, hz]

@[simp] theorem moveAlarmCount_ze (change : Nat → Nat) (f : Nat) (s : State) : (moveAlarmCount change f s).ze = s.ze := by
  unfold moveAlarmCount reportFloor
  split
  · rfl
  · dsimp only
    split
    · rfl
    · split <;> simp

@[simp] theorem moveAlarmCount_cs (change : Nat → Nat) (f : Nat) (s : State) : (moveAlarmCount change f s).cs = s.cs := by
  unfold moveAlarmCount reportFloor
  split
  · rfl
  · dsimp only
    split
    · rfl
    · split <;> simp

/-- R5: a move of an alarm count leaves the level, the pending reset and the origins. -/
theorem moveAlarmCount_regime (change : Nat → Nat) (f : Nat) (s : State) :
    (moveAlarmCount change f s).rc.level = s.rc.level ∧
      (moveAlarmCount change f s).rc.resetPending = s.rc.resetPending ∧
      (moveAlarmCount change f s).rc.origins = s.rc.origins := by
  unfold moveAlarmCount
  split
  · exact ⟨rfl, rfl, rfl⟩
  · dsimp only
    split <;> simp [RC.modFloor]

theorem queueAction_eq (link : Line) (a : Action) (s : State) :
    queueAction link a s = { s with flc := (queueAction link a s).flc } := by
  unfold queueAction
  split <;> rfl

/-- R33: an action offered for a zone changes the field lines alone. -/
theorem offerReset_eq (z : Zone) (s : State) : offerReset z s = { s with flc := (offerReset z s).flc } := by
  unfold offerReset
  split
  · exact queueAction_eq ..
  · rfl

/-- What the pass of a reset leaves: the session, the links and the lines, the level, the pending reset and the origins. -/
structure PassLeaves (s t : State) : Prop where
  cs : t.cs = s.cs
  links : t.ze.links = s.ze.links
  lines : t.ze.lines = s.ze.lines
  level : t.rc.level = s.rc.level
  resetPending : t.rc.resetPending = s.rc.resetPending
  origins : t.rc.origins = s.rc.origins

theorem PassLeaves.refl (s : State) : PassLeaves s s := ⟨rfl, rfl, rfl, rfl, rfl, rfl⟩

theorem PassLeaves.trans {a b c : State} (h : PassLeaves a b) (k : PassLeaves b c) : PassLeaves a c :=
  ⟨k.cs.trans h.cs, k.links.trans h.links, k.lines.trans h.lines, k.level.trans h.level,
    k.resetPending.trans h.resetPending, k.origins.trans h.origins⟩

theorem putZone_passLeaves (z : Zone) (s : State) : PassLeaves s (s.modZe (ZE.putZone z)) :=
  ⟨rfl, rfl, rfl, rfl, rfl, rfl⟩

theorem moveAlarmCount_passLeaves (change : Nat → Nat) (f : Nat) (s : State) :
    PassLeaves s (moveAlarmCount change f s) := by
  obtain ⟨hlevel, hpending, horigins⟩ := moveAlarmCount_regime change f s
  exact ⟨moveAlarmCount_cs .., by rw [moveAlarmCount_ze], by rw [moveAlarmCount_ze], hlevel, hpending, horigins⟩

theorem clearance_passLeaves (z : Zone) (s : State) : PassLeaves s (clearance z s) := by
  unfold clearance
  split
  · exact .refl s
  · constructor <;> simp

theorem offerReset_passLeaves (z : Zone) (s : State) : PassLeaves s (offerReset z s) := by
  rw [offerReset_eq]
  exact ⟨rfl, rfl, rfl, rfl, rfl, rfl⟩

theorem resetZone_passLeaves (s : State) (z : Zone) : PassLeaves s (resetZone s z) := by
  unfold resetZone
  split
  · exact .refl s
  · split
    · split
      · exact ((putZone_passLeaves ..).trans (clearance_passLeaves ..)).trans (moveAlarmCount_passLeaves ..)
      · exact putZone_passLeaves ..
    · exact ((putZone_passLeaves ..).trans (moveAlarmCount_passLeaves ..)).trans (offerReset_passLeaves ..)
    · exact .refl s

theorem foldl_resetZone_passLeaves (l : List Zone) (s : State) : PassLeaves s (l.foldl resetZone s) :=
  foldl_keeps (fun t z h => h.trans (resetZone_passLeaves t z)) l s (.refl s)

/-- R40: the zone table after one zone of the pass. -/
theorem resetZone_ze {s : State} {z e : Zone} (h : findZone s.ze z.link z.number = some e) :
    (resetZone s z).ze = s.ze.putZone (passedZone e) ∨ (resetZone s z).ze = s.ze ∧ passedZone e = e := by
  unfold resetZone
  rw [h]
  dsimp only
  cases he : e.state with
  | confirmed =>
    left
    dsimp only
    split
    case isTrue hi => simp [passedZone, he, hi, (clearance_calm e _).ze]
    case isFalse hi => simp [passedZone, he, hi]
  | verifying =>
    left
    dsimp only
    rw [offerReset_eq]
    simp [passedZone, he]
  | _ => exact .inr ⟨rfl, by simp [passedZone, he]⟩

/-- R40: the zone that the pass takes is passed. -/
theorem findZone_resetZone_same {s : State} {z e : Zone} (h : findZone s.ze z.link z.number = some e) :
    findZone (resetZone s z).ze z.link z.number = some (passedZone e) := by
  obtain ⟨hlink, hnumber⟩ := findZone_key h
  obtain ⟨hl, hn⟩ := passedZone_key e
  obtain hze | ⟨hze, hpassed⟩ := resetZone_ze h
  · have found := findZone_putZone (x := s.ze) (z := passedZone e) (e := e) (by rw [hl, hn, hlink, hnumber]; exact h)
    rw [hl, hn, hlink, hnumber] at found
    rw [hze, found]
  · rw [hze, h, hpassed]

/-- R40: a zone of another key is as it was. -/
theorem findZone_resetZone_ne {s : State} {z : Zone} {k : Line} {n : Nat} (h : ¬ (z.link = k ∧ z.number = n)) :
    findZone (resetZone s z).ze k n = findZone s.ze k n := by
  cases he : findZone s.ze z.link z.number with
  | none => rw [resetZone, he]
  | some e =>
    obtain ⟨hlink, hnumber⟩ := findZone_key he
    obtain ⟨hl, hn⟩ := passedZone_key e
    obtain hze | ⟨hze, -⟩ := resetZone_ze he
    · rw [hze, findZone_putZone_ne (by rw [hl, hn, hlink, hnumber]; exact h)]
    · rw [hze]

/-- R40: a zone that is passed stays so to the end of the pass. -/
theorem findZone_foldl_resetZone_passed {l : List Zone} {s : State} {k : Line} {n : Nat} {z : Zone}
    (h : findZone s.ze k n = some (passedZone z)) : findZone (l.foldl resetZone s).ze k n = some (passedZone z) := by
  refine foldl_keeps (P := fun t : State => findZone t.ze k n = some (passedZone z)) (fun t y ht => ?_) l s h
  by_cases hy : y.link = k ∧ y.number = n
  · obtain ⟨rfl, rfl⟩ := hy
    rw [findZone_resetZone_same ht, passedZone_idem]
  · rw [findZone_resetZone_ne hy, ht]

theorem findZone_foldl_resetZone {l : List Zone} {s : State} {k : Line} {n : Nat} {z y : Zone}
    (h : findZone s.ze k n = some z) (hy : y ∈ l) (hkey : y.link = k ∧ y.number = n) :
    findZone (l.foldl resetZone s).ze k n = some (passedZone z) := by
  induction l generalizing s with
  | nil => nomatch hy
  | cons x l ih =>
    by_cases hx : x.link = k ∧ x.number = n
    · obtain ⟨rfl, rfl⟩ := hx
      exact findZone_foldl_resetZone_passed (s := resetZone s x) (findZone_resetZone_same h)
    · have hne : y ≠ x := fun he => hx (he ▸ hkey)
      exact ih ((findZone_resetZone_ne hx).trans h) ((List.mem_cons.mp hy).resolve_left hne)

/-- R40: the pass takes every zone of the table. -/
theorem findZone_resetPass {s : State} {k : Line} {n : Nat} {z : Zone} (h : findZone s.ze k n = some z) :
    findZone (resetPass s).ze k n = some (passedZone z) :=
  findZone_foldl_resetZone h (findZone_mem h) (findZone_key h)

/-! ## The completion (R16) -/

@[simp] theorem changeLevel_ze (new : Level) (cause : RegimeCause) (s : State) : (changeLevel new cause s).ze = s.ze := by
  simp [changeLevel]

@[simp] theorem changeLevel_cs (new : Level) (cause : RegimeCause) (s : State) : (changeLevel new cause s).cs = s.cs := by
  simp [changeLevel]

/-- R16: the regime after the completion of a reset. -/
theorem completeReset_regime (s : State) : (completeReset s).rc.resetPending = false ∧
    (completeReset s).rc.level = .normal ∧ (completeReset s).rc.origins = [] ∧
    (completeReset s).rc.floors = s.rc.floors.map quietFloor ∧ (completeReset s).es.waiting = [] ∧
    (completeReset s).es.advanceTimer = none ∧ (completeReset s).ze = s.ze ∧ (completeReset s).cs = s.cs := by
  refine ⟨?_, ?_, ?_, ?_, ?_, ?_, ?_, ?_⟩ <;> simp [completeReset, clearEgress, RC.eachFloor]

/-- R16: a reset under way is pending with a floor in alarm, or complete. -/
theorem testCompletion_regime {s : State} (h : s.rc.resetPending = true) :
    ((testCompletion s).rc = s.rc ∧ ∃ fl ∈ s.rc.floors, 0 < fl.alarmCount) ∨
      ((testCompletion s) = completeReset s ∧ ∀ fl ∈ s.rc.floors, fl.alarmCount = 0) := by
  unfold testCompletion
  by_cases hall : ∀ fl ∈ s.rc.floors, fl.alarmCount = 0
  · exact .inr ⟨if_pos (by simpa [h] using hall), hall⟩
  · left
    rw [if_neg (by simpa [h] using hall)]
    push Not at hall
    obtain ⟨fl, hfl, hcount⟩ := hall
    exact ⟨rfl, fl, hfl, Nat.pos_of_ne_zero hcount⟩

theorem testCompletion_ze_cs (s : State) : (testCompletion s).ze = s.ze ∧ (testCompletion s).cs = s.cs := by
  unfold testCompletion
  split
  · obtain ⟨-, -, -, -, -, -, hze, hcs⟩ := completeReset_regime s
    exact ⟨hze, hcs⟩
  · exact ⟨rfl, rfl⟩

/-! ## RESET_REGIME -/

theorem resetRegime_requests (tag : Byte) :
    Requests (.resetRegime tag []) 0x09#8 tag () (fun _ => resetRegime) := ⟨_, _, rfl, rfl, fun _ => rfl⟩

theorem resetRegime_quiet {s : State} (h : s.rc.level = .normal) : resetRegime s = (.refused .regimeQuiet, s) := if_pos h

theorem resetRegime_busy {s : State} (h : s.rc.level ≠ .normal) (hp : s.rc.resetPending = true) :
    resetRegime s = (.bare .busy, s) := by
  rw [resetRegime, if_neg h, if_pos hp]

theorem resetRegime_done {s : State} (h : s.rc.level ≠ .normal) (hp : s.rc.resetPending = false) :
    resetRegime s = (.done, startReset s) := by
  rw [resetRegime, if_neg h, if_neg (by simp [hp])]

/-- R15: the part with the reset pending and its report made. -/
def resetStarted (s : State) : State := reportRegime .resetStarted (s.modRc (fun r => { r with resetPending := true }))

theorem startReset_eq (s : State) : startReset s = testCompletion (resetPass (resetStarted s)) := rfl

theorem resetStarted_blocks (s : State) : (resetStarted s).ze = s.ze ∧ (resetStarted s).cs = s.cs ∧
    (resetStarted s).rc = { s.rc with resetPending := true } := by
  simp [resetStarted, reportRegime]

/-- R40: the zone table after an accepted RESET_REGIME. -/
theorem findZone_startReset {s : State} {k : Line} {n : Nat} {z : Zone} (h : findZone s.ze k n = some z) :
    findZone (startReset s).ze k n = some (passedZone z) := by
  rw [startReset_eq, (testCompletion_ze_cs _).1]
  exact findZone_resetPass (by rw [(resetStarted_blocks s).1]; exact h)

/-- R15: an accepted RESET_REGIME leaves the session, the links and the lines. -/
theorem startReset_leaves (s : State) : (startReset s).cs = s.cs ∧ (startReset s).ze.links = s.ze.links ∧
    (startReset s).ze.lines = s.ze.lines := by
  obtain ⟨hze, hcs, -⟩ := resetStarted_blocks s
  obtain ⟨hze', hcs'⟩ := testCompletion_ze_cs (resetPass (resetStarted s))
  have leaves := foldl_resetZone_passLeaves (resetStarted s).ze.zones (resetStarted s)
  rw [startReset_eq, hze', hcs']
  exact ⟨leaves.cs.trans hcs, leaves.links.trans (by rw [hze]), leaves.lines.trans (by rw [hze])⟩

/-- R15, R16: a reset that is accepted is pending with a floor in alarm, or complete. -/
theorem startReset_outcome (s : State) :
    ((startReset s).rc.resetPending = true ∧ (startReset s).rc.level = s.rc.level ∧
      (startReset s).rc.origins = s.rc.origins ∧ ∃ fl ∈ (startReset s).rc.floors, 0 < fl.alarmCount) ∨
    ((startReset s).rc.resetPending = false ∧ (startReset s).rc.level = .normal ∧ (startReset s).rc.origins = [] ∧
      (startReset s).es.waiting = [] ∧ (startReset s).es.advanceTimer = none ∧
      ∀ fl ∈ (startReset s).rc.floors, fl.alarmCount = 0 ∧ fl.state = .quiet ∧ fl.origin = false ∧
        fl.admission = none) := by
  have leaves := foldl_resetZone_passLeaves (resetStarted s).ze.zones (resetStarted s)
  obtain ⟨-, -, hstarted⟩ := resetStarted_blocks s
  have hpending : (resetPass (resetStarted s)).rc.resetPending = true := leaves.resetPending.trans (by rw [hstarted])
  rw [startReset_eq]
  obtain ⟨hrc, hfloor⟩ | ⟨hdone, hzero⟩ := testCompletion_regime hpending
  · left
    rw [hrc]
    exact ⟨hpending, leaves.level.trans (by rw [hstarted]), leaves.origins.trans (by rw [hstarted]), hfloor⟩
  · right
    obtain ⟨hreset, hlevel, horigins, hfloors, hwaiting, htimer, -⟩ := completeReset_regime (resetPass (resetStarted s))
    rw [hdone]
    refine ⟨hreset, hlevel, horigins, hwaiting, htimer, fun fl hfl => ?_⟩
    rw [hfloors] at hfl
    obtain ⟨a, ha, rfl⟩ := List.mem_map.mp hfl
    exact ⟨hzero a ha, rfl, rfl, rfl⟩

/-- Settles O28: the pass zone by zone, then the test for completion. -/
theorem resetRegimeRule : Obligations.ResetRegimeRule := by
  intro s tag hs
  have request := resetRegime_requests tag
  have hregime := asked_sameRegime s
  have hblocks := asked_sameBlocks s
  refine ⟨fun h => ?_, fun h hp => ?_, fun h hp => ?_⟩
  · exact request.answeredOnly hs (resetRegime_quiet (hregime.level.trans h))
  · exact request.answeredOnly hs (resetRegime_busy (hregime.level ▸ h) (hregime.resetPending.trans hp))
  · obtain ⟨t, ht, hreply, hend⟩ := request.answered hs
    rw [resetRegime_done (hregime.level ▸ h) (hregime.resetPending.trans hp)] at hreply hend
    dsimp only at hreply hend
    obtain ⟨hcs, hlinks, hlines⟩ := startReset_leaves (asked s)
    refine ⟨t, ht, hreply, ?_, ?_, ?_, ?_, fun k n z hz => ?_, ?_⟩
    · rw [hend.cs, hcs, hblocks.cs]
    · rw [hend.count, (startReset_keeps (asked s)).count, hregime.secondCount]
    · rw [hend.ze, hlinks, hblocks.ze]
    · rw [hend.ze, hlines, hblocks.ze]
    · rw [hend.ze, findZone_startReset (hblocks.ze ▸ hz)]
      refine ⟨fun hc hi => ?_, fun hc hi => ?_, fun hv => ?_, fun hc hv => ?_⟩
      · simp [passedZone, hc, hi]
      · simp [passedZone, hc, hi]
      · simp [passedZone, hv]
      · cases hstate : z.state with
        | confirmed => exact absurd hstate hc
        | verifying => exact absurd hstate hv
        | _ => simp [passedZone, hstate]
    · rw [hend.resetPending, hend.level, hend.origins, hend.es, hend.floorTable, ← hregime.level, ← hregime.origins]
      exact startReset_outcome (asked s)

end Sys2Proof.Machine
end

section
/-!
ENABLE_ZONE (R43): a zone back in service as UNKNOWN, NORMAL or TROUBLE changes itself and the trouble set; an ALARM is a rise
(R5, R17, R28, R33).
-/

namespace Sys2Proof.Machine

/-! ## A change of state without a notice -/

/-- A change of the zone table, the port and the trouble set alone. -/
structure ZoneOnly (s t : State) : Prop where
  regime : SameRegime s t
  flc : t.flc = s.flc
  es : t.es = s.es
  lc : t.lc = s.lc
  ds : t.ds = s.ds
  ar : t.ar = s.ar
  cs : t.cs = s.cs
  ev : t.ev = s.ev

theorem ZoneOnly.refl (s : State) : ZoneOnly s s := ⟨.refl s, rfl, rfl, rfl, rfl, rfl, rfl, rfl⟩

theorem ZoneOnly.trans {a b c : State} (h : ZoneOnly a b) (k : ZoneOnly b c) : ZoneOnly a c :=
  ⟨h.regime.trans k.regime, k.flc.trans h.flc, k.es.trans h.es, k.lc.trans h.lc, k.ds.trans h.ds, k.ar.trans h.ar,
    k.cs.trans h.cs, k.ev.trans h.ev⟩

theorem modZe_zoneOnly (f : ZE → ZE) (s : State) : ZoneOnly s (s.modZe f) :=
  ⟨⟨rfl, rfl, rfl, rfl, rfl, rfl, rfl, rfl⟩, rfl, rfl, rfl, rfl, rfl, rfl, rfl⟩

theorem reportZone_zoneOnly (cls : Cls) (cause : ZoneCause) (z : Zone) (s : State) :
    ZoneOnly s (reportZone cls cause z s) := by
  constructor
  case regime => constructor <;> simp [reportZone]
  all_goals simp [reportZone]

theorem zoneTrouble_zoneOnly (old new : Zone) (s : State) : ZoneOnly s (zoneTrouble old new s) := by
  unfold zoneTrouble
  split
  · exact .refl s
  · constructor
    case regime => constructor <;> simp
    all_goals simp

@[simp] theorem reportZone_ze (cls : Cls) (cause : ZoneCause) (z : Zone) (s : State) :
    (reportZone cls cause z s).ze = s.ze := by simp [reportZone]

@[simp] theorem zoneTrouble_ze (old new : Zone) (s : State) : (zoneTrouble old new s).ze = s.ze := by
  unfold zoneTrouble
  split <;> simp

theorem zoneTrouble_calm (old new : Zone) (s : State) : Calm s (zoneTrouble old new s) :=
  .ite (.refl s) (troubleMove_admits ..).toCalm

/-- R25: a change between states that do not count gives no notice. -/
theorem zoneNotices_uncounted {old new : Zone} (ho : old.counted = false) (hn : new.counted = false) (s : State) :
    zoneNotices old new s = s := by
  unfold zoneNotices
  split <;> simp_all [Zone.counted]

/-- R45: a change between states that do not count. -/
theorem changeZone_uncounted {cls : Cls} {cause : ZoneCause} {old new : Zone} (ho : old.counted = false)
    (hn : new.counted = false) (s : State) :
    ZoneOnly s (changeZone cls cause old new s) ∧ (changeZone cls cause old new s).ze = s.ze.putZone new := by
  unfold changeZone
  rw [zoneNotices_uncounted ho hn]
  exact ⟨((modZe_zoneOnly _ s).trans (reportZone_zoneOnly ..)).trans (zoneTrouble_zoneOnly ..), by simp⟩

/-! ## The state that the last input gives -/

/-- R43: a zone put back in service in the state `x`. -/
def backAs (x : ZoneState) (z : Zone) : Zone := { z with state := x, disabled := false }

/-- The state that ENABLE_ZONE gives where the last input is no ALARM that is taken. -/
inductive BackAs (s : State) (z : Zone) : ZoneState → Prop where
  | unknown (h : (linkRec s.ze z.link).up = false ∨ z.lastInput = none) : BackAs s z .unknown
  | normal (h : (linkRec s.ze z.link).up = true) (hi : z.lastInput = some .normal) : BackAs s z .normal
  | trouble (h : (linkRec s.ze z.link).up = true) (hi : z.lastInput = some .fault) : BackAs s z .trouble

theorem enableZone_unknown {z : Zone} {s : State} (h : (linkRec s.ze z.link).up = false ∨ z.lastInput = none) :
    enableZone z s = changeZone .routine .enabled z (backAs .unknown z) s := by
  unfold enableZone
  split
  · rename_i input hi
    rw [if_neg (by simpa [hi] using h)]
    rfl
  · rfl

theorem enableZone_takes {z : Zone} {s : State} {input : Input} (h : (linkRec s.ze z.link).up = true)
    (hi : z.lastInput = some input) : enableZone z s =
      takeInput .arrival input (backAs .normal z) (changeZone .routine .enabled z (backAs .normal z) s) := by
  unfold enableZone
  split
  · rename_i input' hi'
    obtain rfl : input = input' := by simpa [hi] using hi'
    exact if_pos h
  · simp_all

/-- R43: the zone as its enabling leaves it before the input is handled. -/
theorem backAs_lastInput {z : Zone} {input : Input} (hi : z.lastInput = some input) (x : ZoneState) :
    { backAs x z with lastInput := some input } = backAs x z := by
  rw [backAs, ← hi]

/-- R43: a zone put back as UNKNOWN, NORMAL or TROUBLE. -/
theorem enableZone_back {z : Zone} {s : State} {x : ZoneState} (hd : z.state = .disabled) (h : BackAs s z x)
    (hz : findZone s.ze z.link z.number = some z) :
    ZoneOnly s (enableZone z s) ∧ (enableZone z s).ze.links = s.ze.links ∧ (enableZone z s).ze.lines = s.ze.lines ∧
      findZone (enableZone z s).ze z.link z.number = some (backAs x z) ∧
      ∀ k n, ¬ (z.link = k ∧ z.number = n) → findZone (enableZone z s).ze k n = findZone s.ze k n := by
  have hold : z.counted = false := by simp [Zone.counted, hd]
  obtain ⟨henabled, hze⟩ := changeZone_uncounted (cls := .routine) (cause := .enabled) (new := backAs .normal z) hold rfl s
  cases h with
  | unknown h =>
    rw [enableZone_unknown h]
    obtain ⟨honly, hze⟩ := changeZone_uncounted (cls := .routine) (cause := .enabled) (new := backAs .unknown z) hold rfl s
    rw [hze]
    exact ⟨honly, rfl, rfl, findZone_putZone (z := backAs .unknown z) hz,
      fun k n hkn => findZone_putZone_ne (z := backAs .unknown z) hkn⟩
  | normal h hi =>
    have htaken : enableZone z s = (changeZone .routine .enabled z (backAs .normal z) s).modZe
        (ZE.putZone (backAs .normal z)) := by
      rw [enableZone_takes h hi, takeInput, backAs_lastInput hi]
      rfl
    rw [htaken]
    refine ⟨henabled.trans (modZe_zoneOnly ..), ?_, ?_, ?_, fun k n hkn => ?_⟩
    · rw [State.modZe_ze, hze]; rfl
    · rw [State.modZe_ze, hze]; rfl
    · rw [State.modZe_ze, hze]
      exact findZone_putZone (z := backAs .normal z) (findZone_putZone (z := backAs .normal z) hz)
    · rw [State.modZe_ze, hze, findZone_putZone_ne (z := backAs .normal z) hkn,
        findZone_putZone_ne (z := backAs .normal z) hkn]
  | trouble h hi =>
    have htaken : enableZone z s = changeZone .trouble .arrival (backAs .normal z) (backAs .trouble z)
        ((changeZone .routine .enabled z (backAs .normal z) s).modZe (ZE.putZone (backAs .normal z))) := by
      rw [enableZone_takes h hi, takeInput, backAs_lastInput hi]
      rfl
    obtain ⟨honly, hze'⟩ := changeZone_uncounted (cls := .trouble) (cause := .arrival) (old := backAs .normal z)
      (new := backAs .trouble z) rfl rfl
      ((changeZone .routine .enabled z (backAs .normal z) s).modZe (ZE.putZone (backAs .normal z)))
    rw [htaken, hze', State.modZe_ze, hze]
    exact ⟨(henabled.trans (modZe_zoneOnly ..)).trans honly, rfl, rfl,
      findZone_putZone (z := backAs .trouble z)
        (findZone_putZone (z := backAs .normal z) (findZone_putZone (z := backAs .normal z) hz)),
      fun k n hkn => by
        rw [findZone_putZone_ne (z := backAs .trouble z) hkn, findZone_putZone_ne (z := backAs .normal z) hkn,
          findZone_putZone_ne (z := backAs .normal z) hkn]⟩

end Sys2Proof.Machine
end

section
/-!
ENABLE_ZONE of a zone whose last input is ALARM (R5, R17, R28, R33): the rise of its floor's alarm count, and what a confirmation
or a window leaves of it.
-/

namespace Sys2Proof.Machine

/-! ## A reset abandoned and an alarm count moved -/

@[simp] theorem abandonReset_rc (s : State) : (abandonReset s).rc = { s.rc with resetPending := false } := by
  unfold abandonReset
  split
  case isTrue => simp [reportRegime]
  case isFalse h => rw [← Bool.eq_false_of_not_eq_true h]

/-- R17: a zone after a pending reset is abandoned. -/
def unmarked (pending : Bool) (z : Zone) : Zone :=
  { z with clearOnRestore := if pending then false else z.clearOnRestore }

theorem findZone_abandonReset (s : State) (k : Line) (n : Nat) :
    findZone (abandonReset s).ze k n = (findZone s.ze k n).map (unmarked s.rc.resetPending) := by
  unfold abandonReset
  cases hp : s.rc.resetPending with
  | false =>
    have hsame : unmarked false = id := rfl
    simp [hsame]
  | true =>
    simp only [if_true, reportRegime, offer_ze, State.modZe_ze, findZone, List.find?_map]
    rfl

theorem abandonReset_links_lines (s : State) :
    (abandonReset s).ze.links = s.ze.links ∧ (abandonReset s).ze.lines = s.ze.lines := by
  unfold abandonReset
  split <;> simp [reportRegime]

/-- R5: the floor whose alarm count moves. -/
theorem moveAlarmCount_floor {change : Nat → Nat} {f : Nat} {s : State} {fl : Floor} (h : s.rc.floors[f]? = some fl) :
    (moveAlarmCount change f s).rc.floors[f]? = some { fl with
      alarmCount := change fl.alarmCount, lockout := decide (0 < change fl.alarmCount) } := by
  have moved : (s.rc.floors.modify f (fun x =>
      { x with alarmCount := change fl.alarmCount, lockout := decide (0 < change fl.alarmCount) }))[f]? = some { fl with
        alarmCount := change fl.alarmCount, lockout := decide (0 < change fl.alarmCount) } := by
    simp [h]
  unfold moveAlarmCount
  rw [h]
  dsimp only
  split
  · exact moved
  · rw [reportFloor_rc, liftLc_rc_floors]
    exact moved

/-! ## The rise (R5) -/

/-- The zone `z` stands in the table of `t`, its floor's alarm count is one higher than in `s`, and no reset is pending. -/
structure Risen (s : State) (z : Zone) (t : State) : Prop where
  zone : findZone t.ze z.link z.number = some z
  pending : t.rc.resetPending = false
  links : t.ze.links = s.ze.links
  lines : t.ze.lines = s.ze.lines
  count : ∀ fl, s.rc.floors[z.floor]? = some fl →
    ∃ fl', t.rc.floors[z.floor]? = some fl' ∧ fl'.alarmCount = fl.alarmCount + 1 ∧ fl'.lockout = true

/-- A confirmation with its responses keeps what the rise gave. -/
theorem Risen.calm {s t u : State} {z : Zone} (h : Risen s z t) (k : Calm t u) : Risen s z u where
  zone := by rw [k.ze]; exact h.zone
  pending := k.resetPending.trans h.pending
  links := by rw [k.ze]; exact h.links
  lines := by rw [k.ze]; exact h.lines
  count fl hfl := by
    obtain ⟨a, ha, hcount, hlockout⟩ := h.count fl hfl
    obtain ⟨b, hb, hab⟩ := k.floors.held _ a ha
    exact ⟨b, hb, by rw [hab.rest]; exact hcount, by rw [hab.rest]; exact hlockout⟩

/-- The record of another zone replaced keeps what the rise gave. -/
theorem Risen.putZone {s t : State} {z y : Zone} (h : Risen s z t) (hne : ¬ (y.link = z.link ∧ y.number = z.number)) :
    Risen s z (t.modZe (ZE.putZone y)) where
  zone := (findZone_putZone_ne hne).trans h.zone
  pending := h.pending
  links := h.links
  lines := h.lines
  count := h.count

theorem riseNotice_risen {s : State} {z : Zone} (h : findZone s.ze z.link z.number = some z) :
    Risen s (unmarked s.rc.resetPending z) (riseNotice z.floor s) := by
  obtain ⟨hlinks, hlines⟩ := abandonReset_links_lines s
  obtain ⟨-, hpending, -⟩ := moveAlarmCount_regime (· + 1) z.floor (abandonReset s)
  have rise : Risen s (unmarked s.rc.resetPending z) (moveAlarmCount (· + 1) z.floor (abandonReset s)) := by
    refine ⟨?_, hpending.trans (by simp), by simpa using hlinks, by simpa using hlines, fun fl hfl => ?_⟩
    · rw [moveAlarmCount_ze, findZone_abandonReset]
      change (findZone s.ze z.link z.number).map _ = _
      rw [h]; rfl
    · exact ⟨_, moveAlarmCount_floor (by rw [abandonReset_rc]; exact hfl), rfl, by simp⟩
  exact rise.calm (abortSession_calm _)

theorem changeZone_other_risen {s t : State} {z e : Zone} {cls : Cls} {cause : ZoneCause} (h : Risen s z t)
    (he : e.state = .verifying) (hne : ¬ (e.link = z.link ∧ e.number = z.number)) :
    Risen s z (changeZone cls cause e e.confirm t) := by
  have put : Risen s z (reportZone cls cause e.confirm (t.modZe (ZE.putZone e.confirm))) :=
    (h.putZone (y := e.confirm) hne).calm (offer_admits ..).toCalm
  have notices : Calm (reportZone cls cause e.confirm (t.modZe (ZE.putZone e.confirm)))
      (zoneNotices e e.confirm (reportZone cls cause e.confirm (t.modZe (ZE.putZone e.confirm)))) := by
    rw [zoneNotices, he]
    exact confirmation_calm ..
  exact (put.calm notices).calm (zoneTrouble_calm ..)

/-- R25: a NORMAL zone that goes to VERIFYING or CONFIRMED. -/
theorem changeZone_risen {cls : Cls} {cause : ZoneCause} {old new e : Zone} {s : State} (hold : old.state = .normal)
    (hnew : new.state = .verifying ∨ new.state = .confirmed) (h : findZone s.ze new.link new.number = some e) :
    Risen s (unmarked s.rc.resetPending new) (changeZone cls cause old new s) := by
  have honly := (modZe_zoneOnly (ZE.putZone new) s).trans (reportZone_zoneOnly cls cause new _)
  unfold changeZone
  generalize hu : reportZone cls cause new (s.modZe (ZE.putZone new)) = u at honly ⊢
  have hze : u.ze = s.ze.putZone new := by rw [← hu]; simp
  have rise : Risen s (unmarked s.rc.resetPending new) (riseNotice new.floor u) := by
    have hput : findZone u.ze new.link new.number = some new := by rw [hze]; exact findZone_putZone h
    have risen := riseNotice_risen hput
    rw [honly.regime.resetPending] at risen
    exact ⟨risen.zone, risen.pending, risen.links.trans (by rw [hze]; rfl), risen.lines.trans (by rw [hze]; rfl),
      fun fl hfl => risen.count fl (by rw [honly.regime.floors]; exact hfl)⟩
  refine Risen.calm ?_ (zoneTrouble_calm ..)
  unfold zoneNotices
  obtain hverifying | hconfirmed := hnew
  · rw [hold, hverifying]
    exact rise
  · rw [hold, hconfirmed]
    exact rise.calm (confirmation_calm ..)

/-! ## An ALARM taken by a NORMAL zone (R28, R29, R33) -/

/-- R28: a record of the zone's own key does not bear on its corroboration. -/
theorem corroborated_putZone {x : ZE} {y z : Zone} (h : y.link = z.link ∧ y.number = z.number) :
    corroborated (x.putZone y).zones z = corroborated x.zones z := by
  unfold corroborated ZE.putZone mapIf
  rw [List.any_map]
  congr 1
  funext e
  obtain ⟨hlink, hnumber⟩ := h
  by_cases he : e.link = z.link ∧ e.number = z.number
  · simp [he, hlink, hnumber]
  · rw [← hlink, ← hnumber] at he
    simp [he]

theorem offerReset_risen {s t : State} {z y : Zone} (h : Risen s z t) : Risen s z (offerReset y t) := by
  rw [offerReset_eq]
  exact ⟨h.zone, h.pending, h.links, h.lines, h.count⟩

theorem corroborateZone_risen {s t : State} {z : Zone} (hz : z.state ≠ .verifying) (h : Risen s z t) (y : Zone) :
    Risen s z (corroborateZone t y) := by
  unfold corroborateZone
  split
  case h_2 => exact h
  case h_1 e he =>
    split
    case isFalse => exact h
    case isTrue hv =>
      refine changeZone_other_risen h hv fun hkey => hz ?_
      obtain ⟨hlink, hnumber⟩ := findZone_key he
      have found := h.zone
      rw [← hkey.1, ← hkey.2, hlink, hnumber, he] at found
      rw [← Option.some.inj found]
      exact hv

theorem corroborate_risen {z e : Zone} {s : State} (hz : z.state = .normal)
    (h : findZone s.ze z.link z.number = some e) :
    Risen s (unmarked s.rc.resetPending z.confirm) (corroborate z s) :=
  foldl_keeps (P := Risen s (unmarked s.rc.resetPending z.confirm)) (op := corroborateZone)
    (fun _ y ht => corroborateZone_risen (by simp [unmarked, Zone.confirm]) ht y) _ _
    (changeZone_risen (new := z.confirm) hz (.inr rfl) h)

/-- R33: a zone in VERIFYING with a fresh window. -/
def Zone.verifyFor (limit : Nat) (z : Zone) : Zone :=
  { z with state := .verifying, window := some ⟨limit, false, false⟩ }

theorem startWindow_risen {z e : Zone} {s : State} (hz : z.state = .normal)
    (h : findZone s.ze z.link z.number = some e) :
    Risen s (unmarked s.rc.resetPending (z.verifyFor s.ze.window)) (startWindow z s) :=
  offerReset_risen (changeZone_risen (new := z.verifyFor s.ze.window) hz (.inl rfl) h)

/-- R28: a NORMAL zone after its ALARM: VERIFYING where it is verified first, CONFIRMED else. -/
def alarmed (x : ZE) (z : Zone) : Zone :=
  if z.verify = true ∧ corroborated x.zones z = false then z.verifyFor x.window else z.confirm

theorem unmarked_alarmed_place (pending : Bool) (x : ZE) (z : Zone) :
    (unmarked pending (alarmed x z)).link = z.link ∧ (unmarked pending (alarmed x z)).number = z.number ∧
      (unmarked pending (alarmed x z)).floor = z.floor := by
  unfold unmarked alarmed
  split <;> exact ⟨rfl, rfl, rfl⟩

/-- R28: an ALARM of a NORMAL zone. -/
theorem takeAlarm_risen {z e : Zone} {s : State} (hz : z.state = .normal)
    (h : findZone s.ze z.link z.number = some e) :
    Risen s (unmarked s.rc.resetPending (alarmed s.ze z)) (takeAlarm z s) := by
  cases hc : corroborated s.ze.zones z with
  | true =>
    have htaken : takeAlarm z s = corroborate z s := by simp [takeAlarm, hz, hc]
    have hto : alarmed s.ze z = z.confirm := if_neg (by simp [hc])
    rw [htaken, hto]
    exact corroborate_risen hz h
  | false =>
    cases hv : z.verify with
    | true =>
      have htaken : takeAlarm z s = startWindow z s := by simp [takeAlarm, hz, hv, hc]
      have hto : alarmed s.ze z = z.verifyFor s.ze.window := if_pos ⟨hv, hc⟩
      rw [htaken, hto]
      exact startWindow_risen hz h
    | false =>
      have htaken : takeAlarm z s = changeZone .alarm .arrival z z.confirm s := by simp [takeAlarm, hz, hc, hv]
      have hto : alarmed s.ze z = z.confirm := if_neg (by simp [hv])
      rw [htaken, hto]
      exact changeZone_risen (new := z.confirm) hz (.inr rfl) h

/-! ## ENABLE_ZONE -/

theorem enableZone_requests (tag b : Byte) {a : Byte} {k : Line} (h : k.code = a.toNat) :
    Requests (.enableZone tag [a, b]) 0x0E#8 tag (k, b.toNat) (fun q => enableRequest q.1 q.2) :=
  ⟨_, _, rfl, linkZone_eq h, fun _ => rfl⟩

/-- R43: the part as the ALARM of an enabled zone finds it. -/
theorem enableZone_alarm {z : Zone} {s : State} (hd : z.state = .disabled) (hup : (linkRec s.ze z.link).up = true)
    (hi : z.lastInput = some .alarm) : ∃ u, enableZone z s = takeAlarm (backAs .normal z) u ∧
      u.ze = (s.ze.putZone (backAs .normal z)).putZone (backAs .normal z) ∧ u.rc.resetPending = s.rc.resetPending ∧
      u.rc.floors = s.rc.floors := by
  have hold : z.counted = false := by simp [Zone.counted, hd]
  obtain ⟨honly, hze⟩ := changeZone_uncounted (cls := .routine) (cause := .enabled) (new := backAs .normal z) hold rfl s
  refine ⟨(changeZone .routine .enabled z (backAs .normal z) s).modZe (ZE.putZone (backAs .normal z)), ?_, ?_,
    honly.regime.resetPending, honly.regime.floors⟩
  · rw [enableZone_takes hup hi, takeInput, backAs_lastInput hi]
  · rw [State.modZe_ze, hze]

/-- R43: a DISABLED zone whose last input is ALARM. -/
theorem enableZone_risen {z : Zone} {s : State} (hd : z.state = .disabled) (hup : (linkRec s.ze z.link).up = true)
    (hi : z.lastInput = some .alarm) (hz : findZone s.ze z.link z.number = some z) :
    Risen s (unmarked s.rc.resetPending (alarmed s.ze (backAs .normal z))) (enableZone z s) := by
  obtain ⟨u, hu, hze, hpending, hfloors⟩ := enableZone_alarm hd hup hi
  have hfound : findZone u.ze z.link z.number = some (backAs .normal z) := by
    rw [hze]
    exact findZone_putZone (z := backAs .normal z) (findZone_putZone (z := backAs .normal z) hz)
  have hcorr : corroborated u.ze.zones (backAs .normal z) = corroborated s.ze.zones (backAs .normal z) := by
    rw [hze, corroborated_putZone ⟨rfl, rfl⟩, corroborated_putZone ⟨rfl, rfl⟩]
  have hto : alarmed u.ze (backAs .normal z) = alarmed s.ze (backAs .normal z) := by
    rw [alarmed, alarmed, hcorr, hze]
    rfl
  have risen := takeAlarm_risen (z := backAs .normal z) rfl hfound
  rw [hto, hpending] at risen
  rw [hu]
  exact ⟨risen.zone, risen.pending, risen.links.trans (by rw [hze]; rfl), risen.lines.trans (by rw [hze]; rfl),
    fun fl hfl => risen.count fl (by rw [hfloors]; exact hfl)⟩

/-- R43: the three answers of ENABLE_ZONE. -/
theorem enableRequest_none {k : Line} {n : Nat} {s : State} (h : findZone s.ze k n = none) :
    enableRequest k n s = (.bare .noSuch, s) := by
  simp only [enableRequest, h]

theorem enableRequest_inService {k : Line} {n : Nat} {s : State} {z : Zone} (h : findZone s.ze k n = some z)
    (hd : z.state ≠ .disabled) : enableRequest k n s = (.done, s) := by
  simp only [enableRequest, h, if_neg hd]

theorem enableRequest_disabled {k : Line} {n : Nat} {s : State} {z : Zone} (h : findZone s.ze k n = some z)
    (hd : z.state = .disabled) : enableRequest k n s = (.done, enableZone z s) := by
  simp only [enableRequest, h, if_pos hd]

/-- Settles O33: the zone put back as its last input gives, an ALARM with the rise of its floor's count. -/
theorem enableZoneRule : Obligations.EnableZoneRule := by
  intro s tag a b k hs hk
  have request := enableZone_requests tag b hk
  have hregime := asked_sameRegime s
  have hblocks := asked_sameBlocks s
  refine ⟨fun hnone => ?_, fun z hz => ?_⟩
  · exact request.answeredOnly hs (enableRequest_none (hblocks.ze ▸ hnone))
  have hfound : findZone (asked s).ze k b.toNat = some z := by rw [hblocks.ze]; exact hz
  obtain ⟨hlink, hnumber⟩ := findZone_key hz
  refine ⟨fun hd => request.answeredOnly hs (enableRequest_inService hfound hd), fun hd x hx => ?_, fun hd hup hi => ?_⟩
  all_goals
    obtain ⟨t, ht, hreply, hend⟩ := request.answered hs
    rw [enableRequest_disabled hfound hd] at hreply hend
    rw [← hlink, ← hnumber] at hfound
  · have hback : BackAs (asked s) z x := by
      rw [← hlink, ← hblocks.ze] at hx
      obtain ⟨h, rfl⟩ | ⟨h, hi, rfl⟩ | ⟨h, hi, rfl⟩ := hx
      · exact .unknown h
      · exact .normal h hi
      · exact .trouble h hi
    obtain ⟨honly, hlinks, hlines, hzone, hother⟩ := enableZone_back hd hback hfound
    obtain ⟨p, rfl⟩ : ∃ p, t = { enableZone z (asked s) with ev := Scratch.clear, sp := p } :=
      ⟨_, hend.untouched (by rw [honly.ev, asked_ev]; rfl)⟩
    have hsame : SameRegime s { enableZone z (asked s) with ev := Scratch.clear, sp := p } :=
      (hregime.trans honly.regime).trans ⟨rfl, rfl, rfl, rfl, rfl, rfl, rfl, rfl⟩
    refine ⟨_, ht, hreply, by rw [← hlink, ← hnumber]; exact hzone, fun k' n hkn => ?_, ?_, ?_, hsame, ?_, ?_, ?_, ?_, ?_, ?_⟩
    · rw [← hblocks.ze]
      exact hother k' n fun hkey => hkn (by rw [← hkey.1, ← hkey.2, hlink, hnumber])
    · rw [← hblocks.ze]; exact hlinks
    · rw [← hblocks.ze]; exact hlines
    · exact honly.flc.trans hblocks.flc
    · exact honly.es.trans hblocks.es
    · exact honly.lc.trans hblocks.lc
    · exact honly.ds.trans hblocks.ds
    · exact honly.ar.trans hblocks.ar
    · exact honly.cs.trans hblocks.cs
  · have risen := (enableZone_risen hd (by rw [hblocks.ze, hlink]; exact hup) hi hfound).calm hend.toCalm
    rw [hregime.resetPending] at risen
    obtain ⟨halink, hanumber, hafloor⟩ :=
      unmarked_alarmed_place s.rc.resetPending (asked s).ze (backAs .normal z)
    have hcount := risen.count
    have hstands := risen.zone
    rw [hafloor, hregime.floors] at hcount
    rw [halink, hanumber, hblocks.ze] at hstands
    rw [← hlink, ← hnumber]
    refine ⟨t, ht, hreply, risen.pending, by rw [risen.links, hblocks.ze], by rw [risen.lines, hblocks.ze],
      fun hv hc => hstands.trans ?_, fun hvc => hstands.trans ?_, hcount⟩
    · rw [alarmed, if_pos ⟨hv, hc⟩]
      rfl
    · rw [alarmed, if_neg]
      · rfl
      rintro ⟨hv, hc⟩
      obtain hv' | hc' := hvc
      · exact absurd (hv.symm.trans hv') (by decide)
      · exact absurd (hc.symm.trans hc') (by decide)

end Sys2Proof.Machine
end

section
/-!
GENERAL entry (R11, R70) on the Regime Core and the Egress Scheduler: the floors that are admitted and the pending list.
-/

namespace Sys2Proof.Machine

/-! ## The admissions of GENERAL entry -/

/-- A floor that stands in ALERT behind quiet admissions stood so before them and was none of those admitted. -/
theorem admitQuietly_alert {kind : AdmKind} {l : List Nat} {s : State} {f : Nat} {fl : Floor}
    (h : (admitQuietly kind l s).rc.floors[f]? = some fl) (ha : fl.state = .alert) :
    s.rc.floors[f]? = some fl ∧ f ∉ l := by
  induction l generalizing s with
  | nil => exact ⟨h, List.not_mem_nil⟩
  | cons g l ih =>
    obtain ⟨hfl, hl⟩ := ih (s := admitFloor kind none false g s) h
    by_cases hg : g = f
    · subst hg
      rw [admitFloor_floors] at hfl
      by_cases hs : floorState s g = some .alert
      · rw [if_pos hs, List.getElem?_modify] at hfl
        obtain ⟨a, -, rfl⟩ := Option.map_eq_some_iff.mp hfl
        simp [admittedFloor] at ha
      · rw [if_neg hs] at hfl
        exact absurd (by simp [floorState, hfl, ha]) hs
    · exact ⟨(admitFloor_floor_ne hg).symm.trans hfl, List.not_mem_cons_of_ne_of_not_mem (Ne.symm hg) hl⟩

theorem mem_floorsWhere {s : State} {p : Floor → Bool} {f : Nat} {fl : Floor} (h : s.rc.floors[f]? = some fl)
    (hp : p fl = true) : f ∈ floorsWhere s p := by
  obtain ⟨hlt, -⟩ := List.getElem?_eq_some_iff.mp h
  exact List.mem_filter.mpr ⟨List.mem_range.mpr hlt, by simpa only [h] using hp⟩

/-- R11 step 2: no floor is left in ALERT. -/
theorem admitQuietly_floorsWhere_alert {kind : AdmKind} {s : State} :
    ∀ fl ∈ (admitQuietly kind (floorsWhere s (fun fl => fl.state = .alert)) s).rc.floors, fl.state ≠ .alert := by
  intro fl hfl ha
  obtain ⟨f, hf⟩ := List.mem_iff_getElem?.mp hfl
  obtain ⟨hbefore, hnot⟩ := admitQuietly_alert hf ha
  exact hnot (mem_floorsWhere hbefore (by simp [ha]))

@[simp] theorem admitQuietly_es (kind : AdmKind) (l : List Nat) (s : State) : (admitQuietly kind l s).es = s.es :=
  foldl_keeps (P := fun t : State => t.es = s.es) (fun _ _ h => (admitFloor_es ..).trans h) l s rfl

theorem foldl_admitStep_waiting (kind : AdmKind) (l : List Nat) (s : State) :
    (l.foldl (fun b f => admitStep kind f b) s).es.waiting = s.es.waiting.diff l := by
  induction l generalizing s with
  | nil => rfl
  | cons f l ih => rw [List.foldl_cons, ih, admitStep_waiting, List.diff_cons]

/-- R70: the bulk admission empties the pending list and stops the advance timer. -/
theorem bulkAdmission_es (s : State) :
    (bulkAdmission s).es.waiting = [] ∧ (bulkAdmission s).es.advanceTimer = none := by
  refine ⟨?_, rfl⟩
  change (s.es.waiting.foldl (fun b f => admitStep .general f b) s).es.waiting = []
  rw [foldl_admitStep_waiting]
  induction s.es.waiting with
  | nil => rfl
  | cons f l ih => simpa using ih

/-! ## The parts of R11 -/

/-- R11 steps 1 and 2: the pending floors, then the ALERT floors that are left. -/
def generalAdmitted (s : State) : State :=
  admitQuietly .general (floorsWhere (bulkAdmission s) (fun fl => fl.state = .alert)) (bulkAdmission s)

/-- R11 step 3: GENERAL triggers the recall of every group. -/
def recallAll (env : LEnv) (a : LAcc) : LAcc := (groupNumbers a.st).foldl (LAcc.trigger env .general none) a

theorem generalSteps_eq (s : State) : ∃ env env',
    generalSteps s = ((generalAdmitted s).liftLc (recallAll env)).liftDs (DAcc.generalEntered env') := ⟨_, _, rfl⟩

theorem generalAdmitted_admits (s : State) : Admits s (generalAdmitted s) :=
  (bulkAdmission_admits s).trans (admitQuietly_admits ..)

theorem generalSteps_rc (s : State) : (generalSteps s).rc.level = s.rc.level ∧
    (generalSteps s).rc.origins = s.rc.origins ∧ (generalSteps s).rc.entryTime = s.rc.entryTime ∧
    (generalSteps s).rc.commonAlarm = s.rc.commonAlarm ∧ ∀ fl ∈ (generalSteps s).rc.floors, fl.state ≠ .alert := by
  obtain ⟨env, env', heq⟩ := generalSteps_eq s
  have admits := generalAdmitted_admits s
  rw [heq]
  simpa only [liftDs_rc_level, liftLc_rc_level, liftDs_rc_origins, liftLc_rc_origins, liftDs_rc_entryTime,
    liftLc_rc_entryTime, liftDs_rc_commonAlarm, liftLc_rc_commonAlarm, liftDs_rc_floors, liftLc_rc_floors] using
    ⟨admits.level, admits.origins, admits.entryTime, admits.commonAlarm, admitQuietly_floorsWhere_alert⟩

theorem generalSteps_es (s : State) :
    (generalSteps s).es.waiting = [] ∧ (generalSteps s).es.advanceTimer = none := by
  obtain ⟨env, env', heq⟩ := generalSteps_eq s
  rw [heq]
  simpa [generalAdmitted] using bulkAdmission_es s

/-- R4: a floor that is not QUIET does not become so in the course of an alarm. -/
theorem Floor.Held.notQuiet {a b : Floor} (h : a.Held b) (ha : a.state ≠ .quiet) : b.state ≠ .quiet := by
  cases hs : a.state with
  | quiet => exact absurd hs ha
  | alert => exact h.alert hs
  | evac => simp [(h.evac hs).1]

end Sys2Proof.Machine
end

section
/-!
GENERAL entry (R11, R79) on the groups: each is in recall with the GENERAL mark.
-/

namespace Sys2Proof.Machine

/-! ## Groups: what a recall step leaves -/

/-- A group's number with its recall: whether it is active, and its triggers. -/
def Group.recall (g : Group) : Nat × Bool × Triggers := (g.number, g.active, g.triggers)

/-- The recalls of all groups. -/
def recallsOf (x : LC) : List (Nat × Bool × Triggers) := x.groups.map Group.recall

theorem groupNumbers_eq (x : LC) : groupNumbers x = (recallsOf x).map (·.1) := by
  simp [groupNumbers, recallsOf, Group.recall]

@[simp] theorem LAcc.tell_st (e : Eff) (a : LAcc) : (a.tell e).st = a.st := rfl

@[simp] theorem LAcc.tellIf_st (b : Bool) (e : Eff) (a : LAcc) : (a.tellIf b e).st = a.st := Acc.emitIf_st b e a

@[simp] theorem LAcc.replaceCar_groups (env : LEnv) (old new : Car) (a : LAcc) :
    (a.replaceCar env old new).st.groups = a.st.groups := by
  simp [LAcc.replaceCar, LAcc.putCar, LAcc.lc]

@[simp] theorem LAcc.command_groups (env : LEnv) (g : Group) (service : Service) (cmd : Command) (c : Car) (a : LAcc) :
    (a.command env g service cmd c).st.groups = a.st.groups := by
  simp [LAcc.command]

/-- R81: a recall step of a car moves no group. -/
theorem LAcc.recallCar_groups (env : LEnv) (a : LAcc) (n : Nat) : (a.recallCar env n).st.groups = a.st.groups := by
  unfold LAcc.recallCar
  split
  · rfl
  · split
    · rfl
    · split
      · simp
      · dsimp only
        split <;> simp

theorem LAcc.eachCar_groups {step : LAcc → Nat → LAcc} (h : ∀ a n, (step a n).st.groups = a.st.groups) (g : Nat)
    (p : Car → Bool) (a : LAcc) : (a.eachCar g p step).st.groups = a.st.groups := by
  refine foldl_keeps (P := fun b : LAcc => b.st.groups = a.st.groups) (fun b n hb => ?_) _ a rfl
  split
  · split
    · exact (h b n).trans hb
    · exact hb
  · exact hb

theorem LAcc.groupReport_st (env : LEnv) (cause : GroupCause) (n : Nat) (a : LAcc) :
    (a.groupReport env cause n).st = a.st := by
  unfold LAcc.groupReport
  split <;> rfl

/-- A change of the groups numbered `n`, on their recalls. -/
theorem LAcc.modGroup_recalls {n : Nat} {f : Group → Group} {r : Nat × Bool × Triggers → Nat × Bool × Triggers}
    (h : ∀ g, (f g).recall = r g.recall) (a : LAcc) :
    recallsOf (a.modGroup n f).st = mapIf (fun e => e.1 = n) r (recallsOf a.st) := by
  simp only [recallsOf, LAcc.modGroup, LAcc.lc, Acc.upd_st, mapIf, List.map_map]
  refine List.map_congr_left fun g _ => ?_
  have hkey : g.recall.1 = g.number := rfl
  by_cases hg : g.number = n <;> simp [hkey, hg, h]

theorem LAcc.modGroup_recalls_kept {n : Nat} {f : Group → Group} (h : ∀ g, (f g).recall = g.recall) (a : LAcc) :
    recallsOf (a.modGroup n f).st = recallsOf a.st := by
  rw [LAcc.modGroup_recalls (r := id) h]
  simp [mapIf]

/-- R77: a lockout recomputed leaves the recalls. -/
theorem LAcc.recomputeLockout_recalls (env : LEnv) (a : LAcc) (n : Nat) :
    recallsOf (a.recomputeLockout env n).st = recallsOf a.st := by
  unfold LAcc.recomputeLockout
  split
  · rfl
  · rw [LAcc.tellIf_st]
    refine LAcc.modGroup_recalls_kept ?_ a
    exact fun _ => rfl

theorem LAcc.rebuildLockouts_recalls (env : LEnv) (a : LAcc) :
    recallsOf (a.rebuildLockouts env).st = recallsOf a.st :=
  foldl_keeps (P := fun b : LAcc => recallsOf b.st = recallsOf a.st)
    (fun b n h => (LAcc.recomputeLockout_recalls env b n).trans h) _ a rfl

/-! ## Groups: the trigger GENERAL -/

/-- R79: the recall that GENERAL starts. -/
theorem LAcc.startRecall_recalls (env : LEnv) (n : Nat) (a : LAcc) :
    recallsOf (a.startRecall env .general none n).st =
      mapIf (fun e => e.1 = n) (fun e => (e.1, true, ⟨true, false, []⟩)) (recallsOf a.st) := by
  unfold LAcc.startRecall
  dsimp only
  rw [recallsOf, LAcc.eachCar_groups (LAcc.recallCar_groups env), ← recallsOf, LAcc.recomputeLockout_recalls,
    LAcc.modGroup_recalls_kept (f := fun g => { g with target := chooseTarget env g }) (fun _ => rfl),
    LAcc.groupReport_st]
  exact LAcc.modGroup_recalls (fun _ => rfl) a

/-- The groups carry the numbers `numbers`, and those of `done` are in recall with the GENERAL mark. -/
structure RecalledIn (numbers done : List Nat) (x : LC) : Prop where
  numbers : (recallsOf x).map (·.1) = numbers
  recalled : ∀ r ∈ recallsOf x, r.1 ∈ done → r.2.1 = true ∧ r.2.2.general = true

/-- A change of the recalls of group `n` that puts it in recall. -/
theorem RecalledIn.cons {numbers done : List Nat} {n : Nat} {x y : LC}
    {f : Nat × Bool × Triggers → Nat × Bool × Triggers} (h : RecalledIn numbers done x)
    (hy : recallsOf y = mapIf (fun e => e.1 = n) f (recallsOf x)) (hkey : ∀ e, (f e).1 = e.1)
    (hin : ∀ e ∈ recallsOf x, e.1 = n → (f e).2.1 = true ∧ (f e).2.2.general = true) :
    RecalledIn numbers (n :: done) y where
  numbers := by
    rw [hy, map_mapIf _ _ _ hkey]
    exact h.numbers
  recalled r hr hmem := by
    rw [hy] at hr
    obtain ⟨e, he, rfl⟩ := List.mem_map.mp hr
    by_cases hn : e.1 = n
    · simpa [hn] using hin e he hn
    · simp only [hn, decide_false, Bool.false_eq_true, if_false] at hmem ⊢
      exact h.recalled e he ((List.mem_cons.mp hmem).resolve_left hn)

/-- R79: GENERAL puts one group more in recall. -/
theorem LAcc.trigger_recalledIn {env : LEnv} {a : LAcc} {n : Nat} {numbers done : List Nat} (hnd : numbers.Nodup)
    (h : RecalledIn numbers done a.st) : RecalledIn numbers (n :: done) (a.trigger env .general none n).st := by
  unfold LAcc.trigger
  split
  case h_1 hnone =>
    refine ⟨h.numbers, fun r hr hmem => h.recalled r hr ((List.mem_cons.mp hmem).resolve_left fun hn => ?_)⟩
    obtain ⟨g, hg, rfl⟩ := List.mem_map.mp hr
    exact absurd hn (by simpa [Group.recall] using List.find?_eq_none.mp hnone g hg)
  case h_2 g hfound =>
    have hg : g ∈ a.st.groups := List.mem_of_find?_eq_some hfound
    have hnumber : g.number = n := by simpa using List.find?_some hfound
    split
    case isTrue hactive =>
      refine h.cons (LAcc.modGroup_recalls (r := fun e => (e.1, e.2.1, { e.2.2 with general := true })) (fun _ => rfl) a)
        (fun _ => rfl) fun e he hn => ⟨?_, rfl⟩
      have hsame : e = g.recall :=
        List.inj_on_of_nodup_map (h.numbers ▸ hnd) he (List.mem_map_of_mem hg) (hn.trans hnumber.symm)
      rw [hsame]
      exact hactive
    case isFalse =>
      exact h.cons (LAcc.startRecall_recalls env n a) (fun _ => rfl) fun _ _ _ => ⟨rfl, rfl⟩

theorem LAcc.foldl_trigger_recalledIn {env : LEnv} {l : List Nat} {a : LAcc} {numbers done : List Nat}
    (hnd : numbers.Nodup) (h : RecalledIn numbers done a.st) :
    RecalledIn numbers (l.reverse ++ done) (l.foldl (LAcc.trigger env .general none) a).st := by
  induction l generalizing a done with
  | nil => exact h
  | cons n l ih => simpa using ih (LAcc.trigger_recalledIn (n := n) hnd h)

/-- R11 step 3: every group is in recall with the GENERAL mark. -/
theorem recallAll_recalled {env : LEnv} {a : LAcc} (h : (groupNumbers a.st).Nodup) :
    ∀ g ∈ (recallAll env a).st.groups, g.active = true ∧ g.triggers.general = true := by
  intro g hg
  have start : RecalledIn (groupNumbers a.st) [] a.st := ⟨(groupNumbers_eq a.st).symm, fun _ _ hr => nomatch hr⟩
  have all := LAcc.foldl_trigger_recalledIn (env := env) (l := groupNumbers a.st) h start
  have hmem : g.recall ∈ recallsOf (recallAll env a).st := List.mem_map_of_mem hg
  refine all.recalled g.recall hmem ?_
  have hnumber : g.number ∈ groupNumbers a.st := all.numbers ▸ List.mem_map_of_mem (f := (·.1)) hmem
  exact List.mem_append_left _ (List.mem_reverse.mpr hnumber)

end Sys2Proof.Machine
end

section
/-!
GENERAL entry (R113, R157) on the door points and on the field lines: every latch at RELEASE, RELEASE_ALL asked for on both
loops, every output image dirty.
-/

namespace Sys2Proof.Machine

/-! ## Door points -/

theorem foldl_setDrive_release {env : DEnv} {l : List Door} {a : DAcc}
    (h : ∀ d ∈ a.st.doors, d.drive = .release ∨ d ∈ l) :
    ∀ d ∈ (l.foldl (fun b d => b.setDrive env .release d) a).st.doors, d.drive = .release := by
  induction l generalizing a with
  | nil => exact fun d hd => (h d hd).resolve_right List.not_mem_nil
  | cons x l ih =>
    refine ih fun d hd => ?_
    rw [DAcc.setDrive_doors] at hd
    split at hd
    case isTrue hx =>
      obtain hd | hd := h d hd
      · exact .inl hd
      · obtain rfl | hd := List.mem_cons.mp hd
        · exact .inl hx
        · exact .inr hd
    case isFalse =>
      obtain ⟨e, he, rfl⟩ := List.mem_map.mp hd
      by_cases hx : e.index = x.index
      · exact .inl (by simp [hx])
      · simp only [hx, decide_false, Bool.false_eq_true, if_false]
        exact (h e he).imp_right fun hmem => (List.mem_cons.mp hmem).resolve_left fun hex => hx (by rw [hex])

@[simp] theorem foldl_dirty_st (l : List Module) (a : DAcc) :
    (l.foldl (fun b m => b.tell (.dirty m.loop m.address .outputs)) a).st = a.st :=
  foldl_keeps (P := fun b : DAcc => b.st = a.st) (op := fun b m => b.tell (.dirty m.loop m.address .outputs))
    (fun _ _ h => h) l a rfl

/-! ## The effects of the door points -/

/-- The effects made from `a` to `b`: reports, trouble notices and dirty marks. -/
def Tells (a b : DAcc) : Prop := ∃ l, b.out = a.out ++ l ∧ AllTell l

theorem Tells.refl (a : DAcc) : Tells a a := ⟨[], by simp, fun _ he => nomatch he⟩

theorem Tells.trans {a b c : DAcc} (h : Tells a b) (k : Tells b c) : Tells a c := by
  obtain ⟨l, hb, hl⟩ := h
  obtain ⟨m, hc, hm⟩ := k
  exact ⟨l ++ m, by rw [hc, hb, List.append_assoc], hl.append hm⟩

theorem tell_tells {e : Eff} (he : e.tells = true) (a : DAcc) : Tells a (a.tell e) :=
  ⟨[e], rfl, by simpa [AllTell] using he⟩

theorem tellIf_tells {b : Bool} {e : Eff} (he : e.tells = true) (a : DAcc) : Tells a (a.tellIf b e) := by
  cases b
  · exact .refl a
  · exact tell_tells he a

theorem syncModule_tells (loop : Line) (address : Nat) (a : DAcc) : Tells a (a.syncModule loop address) := by
  unfold DAcc.syncModule
  dsimp only
  split
  · exact tell_tells rfl (a.ds _)
  · exact .refl a

theorem setDrive_tells (env : DEnv) (goal : Drive) (a : DAcc) (d : Door) : Tells a (a.setDrive env goal d) := by
  unfold DAcc.setDrive
  split
  · exact .refl a
  · exact ((syncModule_tells _ _ (a.ds _)).trans (tellIf_tells rfl _)).trans (tellIf_tells rfl _)

theorem foldl_tells {α : Type} {op : DAcc → α → DAcc} (h : ∀ b x, Tells b (op b x)) (l : List α) (a : DAcc) :
    Tells a (l.foldl op a) :=
  foldl_keeps (P := Tells a) (fun b x hb => hb.trans (h b x)) l a (.refl a)

theorem foldl_dirty_out (l : List Module) (a : DAcc) :
    (l.foldl (fun b m => b.tell (.dirty m.loop m.address .outputs)) a).out =
      a.out ++ l.map (fun m => .dirty m.loop m.address .outputs) := by
  induction l generalizing a with
  | nil => simp
  | cons m l ih => rw [List.foldl_cons, ih]; simp [DAcc.tell]

/-- R113: the Door Supervisor with RELEASE_ALL asked for and every latch set. -/
def released (env : DEnv) (x : DS) : DAcc :=
  x.doors.foldl (fun b d => b.setDrive env .release d) ⟨x, [.broadcast (.d 0), .broadcast (.d 1)]⟩

theorem generalEntered_eq (env : DEnv) (x : DS) : DAcc.generalEntered env ⟨x, []⟩ =
    (released env x).st.modules.foldl (fun b m => b.tell (.dirty m.loop m.address .outputs)) (released env x) := rfl

/-- R113: RELEASE_ALL on both loops, and then reports, notices and marks, an output image's mark for each module. -/
theorem generalEntered_out (env : DEnv) (x : DS) : ∃ l,
    (DAcc.generalEntered env ⟨x, []⟩).out = .broadcast (.d 0) :: .broadcast (.d 1) :: l ∧ AllTell l ∧
      ∀ m ∈ (DAcc.generalEntered env ⟨x, []⟩).st.modules, .dirty m.loop m.address .outputs ∈ l := by
  obtain ⟨l, hout, hl⟩ : Tells ⟨x, [.broadcast (.d 0), .broadcast (.d 1)]⟩ (released env x) :=
    foldl_tells (fun b d => setDrive_tells env .release b d) x.doors _
  rw [generalEntered_eq, foldl_dirty_st, foldl_dirty_out]
  refine ⟨l ++ (released env x).st.modules.map (fun m => .dirty m.loop m.address .outputs), by rw [hout]; rfl,
    hl.append fun e he => ?_, fun m hm => List.mem_append_right _ (List.mem_map_of_mem hm)⟩
  obtain ⟨m, -, rfl⟩ := List.mem_map.mp he
  rfl

/-- R113: every latch is at RELEASE. -/
theorem generalEntered_doors (env : DEnv) (x : DS) :
    ∀ d ∈ (DAcc.generalEntered env ⟨x, []⟩).st.doors, d.drive = .release := by
  rw [generalEntered_eq, foldl_dirty_st]
  exact foldl_setDrive_release fun d hd => .inr hd

/-! ## Marks on the field lines -/

/-- The images of a name at an address are dirty. -/
def Marked (x : FLC) (port : Line) (address : Nat) (name : ImageName) : Prop :=
  ∀ n ∈ x.nodes, n.port = port → n.address = address → ∀ m ∈ n.images, m.name = name → m.dirty = true

theorem markDirty_marked (port : Line) (address : Nat) (name : ImageName) (x : FLC) :
    Marked (x.markDirty port address name) port address name := by
  intro n' hn' hport haddr m' hm' hname
  obtain ⟨n, hn, rfl⟩ := List.mem_map.mp hn'
  by_cases hkey : n.port = port ∧ n.address = address
  · simp only [hkey, decide_true, Bool.and_self, if_true, Node.modImage] at hm'
    obtain ⟨m, hm, rfl⟩ := List.mem_map.mp hm'
    by_cases hmark : m.name = name
    · simp [hmark]
    · simp [hmark] at hname
  · simp only [hkey, if_false, Bool.false_eq_true, ← Bool.decide_and, decide_false] at hport haddr
    exact absurd ⟨hport, haddr⟩ hkey

theorem Marked.settles {x y : FLC} {port : Line} {address : Nat} {name : ImageName} (h : Marked x port address name)
    (k : x.Settles y) : Marked y port address name := by
  intro n' hn' hport haddr m' hm' hname
  obtain ⟨n, hn, hport', haddr', himages⟩ := k.marks n' hn'
  obtain ⟨m, hm, hname', hdirty⟩ := himages m' hm'
  exact hdirty (h n hn (hport'.trans hport) (haddr'.trans haddr) m hm (hname'.trans hname))

/-- An image marked among reports, notices and marks is dirty after them. -/
theorem applyEffs_marked {l : List Eff} {port : Line} {address : Nat} {name : ImageName} (hl : AllTell l)
    (hmem : .dirty port address name ∈ l) (s : State) : Marked (applyEffs l s).flc port address name := by
  obtain ⟨before, after, rfl⟩ := List.append_of_mem hmem
  rw [applyEffs, List.foldl_append, List.foldl_cons]
  have rest := applyEffs_settles (l := after) (fun e he => hl e (by simp [he]))
    (applyEff (before.foldl applyEff s) (.dirty port address name))
  exact Marked.settles (markDirty_marked port address name _) rest

/-! ## RELEASE_ALL on the door loops -/

/-- R157: RELEASE_ALL asked for on a loop that has a node, sent at once on one that has none. -/
structure ReleasedAll (x y : FLC) (loop : Line) : Prop where
  port : ∀ p, findPort x.ports loop = some p → ∃ p', findPort y.ports loop = some p' ∧
    ((∃ n ∈ x.nodes, n.port = loop) → p'.broadcast = true) ∧
    ((∀ n ∈ x.nodes, n.port ≠ loop) → p'.sent = [releaseAllFrame])

theorem findPort_modPort {loop other : Line} {f : PortRec → PortRec} (hf : ∀ p, (f p).port = p.port) (x : FLC) :
    findPort (x.modPort loop f).ports other =
      (findPort x.ports other).map (fun p => if decide (p.port = loop) then f p else p) := by
  have hsame : ((fun q : PortRec => decide (q.port = other)) ∘ fun q => if decide (q.port = loop) then f q else q) =
      fun q => decide (q.port = other) := by
    funext q
    by_cases hq : q.port = loop <;> simp [hq, hf]
  rw [findPort, findPort, FLC.modPort, mapIf, List.find?_map, hsame]

theorem findPort_modPort_same {loop : Line} {f : PortRec → PortRec} {x : FLC} {p : PortRec}
    (hf : ∀ p, (f p).port = p.port) (h : findPort x.ports loop = some p) :
    findPort (x.modPort loop f).ports loop = some (f p) := by
  have hp : p.port = loop := by simpa using List.find?_some h
  rw [findPort_modPort hf, h]
  simp [hp]

theorem findPort_modPort_ne {loop other : Line} {f : PortRec → PortRec} {x : FLC} (hf : ∀ p, (f p).port = p.port)
    (hne : loop ≠ other) : findPort (x.modPort loop f).ports other = findPort x.ports other := by
  rw [findPort_modPort hf]
  cases h : findPort x.ports other with
  | none => rfl
  | some p =>
    have hp : p.port = other := by simpa using List.find?_some h
    simp [hp, Ne.symm hne]

@[simp] theorem askBroadcast_nodes (loop : Line) (x : FLC) : (x.askBroadcast loop).nodes = x.nodes := by
  unfold FLC.askBroadcast
  split <;> rfl

theorem askBroadcast_released (loop : Line) (x : FLC) : ReleasedAll x (x.askBroadcast loop) loop := by
  refine ⟨fun p hp => ?_⟩
  unfold FLC.askBroadcast
  by_cases hn : ∃ n ∈ x.nodes, n.port = loop
  · rw [if_pos (by simpa using hn)]
    refine ⟨_, findPort_modPort_same (f := fun p => { p with broadcast := true }) (fun _ => rfl) hp, fun _ => rfl, ?_⟩
    obtain ⟨n, hmem, hport⟩ := hn
    exact fun hall => absurd hport (hall n hmem)
  · rw [if_neg (by simpa using hn)]
    exact ⟨_, findPort_modPort_same (f := fun p => { p with sent := [releaseAllFrame] }) (fun _ => rfl) hp,
      fun h => absurd h hn, fun _ => rfl⟩

theorem askBroadcast_ne {loop other : Line} (hne : loop ≠ other) (x : FLC) :
    findPort (x.askBroadcast loop).ports other = findPort x.ports other := by
  unfold FLC.askBroadcast
  split
  · exact findPort_modPort_ne (f := fun p => { p with broadcast := true }) (fun _ => rfl) hne
  · exact findPort_modPort_ne (f := fun p => { p with sent := [releaseAllFrame] }) (fun _ => rfl) hne

/-- R113: both loops. -/
theorem askBroadcast_both (x : FLC) (k : Fin 2) :
    ReleasedAll x ((x.askBroadcast (.d 0)).askBroadcast (.d 1)) (.d k) := by
  refine ⟨fun p hp => ?_⟩
  match k with
  | 0 =>
    rw [askBroadcast_ne (loop := .d 1) (other := .d 0) (by decide)]
    exact (askBroadcast_released (.d 0) x).port p hp
  | 1 =>
    rw [← askBroadcast_ne (loop := .d 0) (other := .d 1) (by decide)] at hp
    simpa using (askBroadcast_released (.d 1) (x.askBroadcast (.d 0))).port p hp

/-- The release is told of a loop by its ports alone. -/
theorem ReleasedAll.ports {x y z : FLC} {loop : Line} (h : ReleasedAll x y loop) (k : z.ports = y.ports) :
    ReleasedAll x z loop := ⟨by rw [k]; exact h.port⟩

/-- Field lines of the same shape have the same loops and nodes. -/
theorem ReleasedAll.of_sameShape {w x y : FLC} {loop : Line} (k : w.SameShape x) (h : ReleasedAll x y loop) :
    ReleasedAll w y loop := by
  refine ⟨fun p hp => ?_⟩
  have hports : loop ∈ x.ports.map (·.port) := by
    rw [k.ports]
    exact List.mem_map.mpr ⟨p, List.mem_of_find?_eq_some hp, by simpa using List.find?_some hp⟩
  have hnodes : x.nodes.map (·.port) = w.nodes.map (·.port) := by
    simpa [Function.comp_def] using congrArg (List.map Prod.fst) k.nodes
  have hloop : (∃ n ∈ w.nodes, n.port = loop) ↔ ∃ n ∈ x.nodes, n.port = loop := by
    rw [← List.mem_map, ← List.mem_map, hnodes]
  obtain ⟨q, hq⟩ : ∃ q, findPort x.ports loop = some q := by
    rw [← Option.isSome_iff_exists]
    simpa [findPort] using hports
  obtain ⟨p', hp', hasked, hsent⟩ := h.port q hq
  refine ⟨p', hp', fun hn => hasked (hloop.mp hn), fun hn => hsent fun n hmem hport => ?_⟩
  obtain ⟨m, hm, hmport⟩ := hloop.mpr ⟨n, hmem, hport⟩
  exact hn m hm hmport

/-! ## The response of the Door Supervisor -/

/-- R113: GENERAL entry on the part. -/
theorem liftDs_generalEntered (env : DEnv) (s : State) :
    (∀ d ∈ (s.liftDs (DAcc.generalEntered env)).ds.doors, d.drive = .release) ∧
      (∀ k, ReleasedAll s.flc (s.liftDs (DAcc.generalEntered env)).flc (.d k)) ∧
      ∀ m ∈ (s.liftDs (DAcc.generalEntered env)).ds.modules,
        Marked (s.liftDs (DAcc.generalEntered env)).flc m.loop m.address .outputs := by
  obtain ⟨l, hout, hl, hmarks⟩ := generalEntered_out env s.ds
  rw [State.liftDs_eq, hout, applyEffs_cons, applyEffs_cons, applyEffs_ds]
  refine ⟨generalEntered_doors env s.ds, fun k => ?_, fun m hm => applyEffs_marked hl (hmarks m hm) _⟩
  exact (askBroadcast_both s.flc k).ports (applyEffs_settles hl _).ports

end Sys2Proof.Machine
end

section
/-!
START_GENERAL (R11, R12): the entry to GENERAL from NORMAL and from PHASED.
-/

namespace Sys2Proof.Machine

/-! ## The level that is entered -/

@[simp] theorem changeLevel_lc (new : Level) (cause : RegimeCause) (s : State) : (changeLevel new cause s).lc = s.lc := by
  simp [changeLevel]

@[simp] theorem abortSession_rc (s : State) : (abortSession s).rc = s.rc := by
  unfold abortSession
  split <;> simp

@[simp] theorem abortSession_lc (s : State) : (abortSession s).lc = s.lc := by
  unfold abortSession
  split <;> simp

theorem enterRegime_rc (level : Level) (cause : RegimeCause) (s : State) :
    (enterRegime level cause s).rc.level = level ∧ (enterRegime level cause s).rc.origins = s.rc.origins ∧
      (enterRegime level cause s).rc.entryTime = s.rc.secondCount ∧
      (enterRegime level cause s).rc.commonAlarm = alarmLine level ∧
      (enterRegime level cause s).rc.floors = s.rc.floors.map alertedFloor := by
  simp [enterRegime, RC.eachFloor]

/-- R77: regime entry gives no group another number. -/
theorem enterRegime_groupNumbers (level : Level) (cause : RegimeCause) (s : State) :
    groupNumbers (enterRegime level cause s).lc = groupNumbers s.lc := by
  rw [groupNumbers_eq, groupNumbers_eq, enterRegime, abortSession_lc, State.liftLc_eq, applyEffs_lc, LAcc.rebuildLockouts_recalls]
  simp

theorem alertedFloor_notQuiet (fl : Floor) : (alertedFloor fl).state ≠ .quiet := by
  unfold alertedFloor
  split
  · simp
  · assumption

/-! ## GENERAL entered -/

/-- R11, R113: the part `t` with GENERAL just entered from `s`. -/
structure EnteredGeneral (s t : State) : Prop where
  level : t.rc.level = .general
  origins : t.rc.origins = s.rc.origins
  entryTime : t.rc.entryTime = s.rc.secondCount
  commonAlarm : t.rc.commonAlarm = true
  waiting : t.es.waiting = []
  advanceTimer : t.es.advanceTimer = none
  noAlert : ∀ fl ∈ t.rc.floors, fl.state ≠ .alert
  recalled : (groupNumbers s.lc).Nodup → ∀ g ∈ t.lc.groups, g.active = true ∧ g.triggers.general = true
  released : ∀ d ∈ t.ds.doors, d.drive = .release
  releaseAll : ∀ k, ReleasedAll s.flc t.flc (.d k)
  outputs : ∀ m ∈ t.ds.modules, Marked t.flc m.loop m.address .outputs

/-- R11 step 3 after steps 1 and 2, which leave the lifts. -/
theorem generalSteps_recalled {s : State} (h : (groupNumbers s.lc).Nodup) :
    ∀ g ∈ (generalSteps s).lc.groups, g.active = true ∧ g.triggers.general = true := by
  obtain ⟨env, env', heq⟩ := generalSteps_eq s
  rw [heq, liftDs_lc, State.liftLc_eq, applyEffs_lc]
  refine recallAll_recalled ?_
  rw [(generalAdmitted_admits s).lc]
  exact h

theorem generalSteps_doors (s : State) :
    (∀ d ∈ (generalSteps s).ds.doors, d.drive = .release) ∧ (∀ k, ReleasedAll s.flc (generalSteps s).flc (.d k)) ∧
      ∀ m ∈ (generalSteps s).ds.modules, Marked (generalSteps s).flc m.loop m.address .outputs := by
  obtain ⟨env, env', heq⟩ := generalSteps_eq s
  have before : Calm s ((generalAdmitted s).liftLc (recallAll env)) :=
    (generalAdmitted_admits s).toCalm.trans (liftLc_calm _ _)
  obtain ⟨hdoors, hall, hmarks⟩ := liftDs_generalEntered env' ((generalAdmitted s).liftLc (recallAll env))
  rw [heq]
  exact ⟨hdoors, fun k => (hall k).of_sameShape before.flc, hmarks⟩

/-- R11: GENERAL from NORMAL or from PHASED. -/
theorem enterGeneral_entered {cause : RegimeCause} {s : State} (h : s.rc.level ≠ .general) :
    EnteredGeneral s (enterGeneral cause s) := by
  have entered {u : State} (hlevel : u.rc.level = .general) (horigins : u.rc.origins = s.rc.origins)
      (htime : u.rc.entryTime = s.rc.secondCount) (halarm : u.rc.commonAlarm = true)
      (hgroups : groupNumbers u.lc = groupNumbers s.lc) (hflc : s.flc.SameShape u.flc) :
      EnteredGeneral s (generalSteps u) := by
    obtain ⟨hlevel', horigins', htime', halarm', hfloors⟩ := generalSteps_rc u
    obtain ⟨hwaiting, htimer⟩ := generalSteps_es u
    obtain ⟨hdoors, hall, hmarks⟩ := generalSteps_doors u
    exact ⟨hlevel'.trans hlevel, horigins'.trans horigins, htime'.trans htime, halarm'.trans halarm, hwaiting, htimer,
      hfloors, fun hnd => generalSteps_recalled (hgroups ▸ hnd), hdoors, fun k => (hall k).of_sameShape hflc, hmarks⟩
  unfold enterGeneral
  split
  case h_1 hlevel => exact absurd hlevel h
  case h_2 =>
    have calm := changeLevel_calm .general cause s
    exact entered (by simp) (by simp) (by simp) (by simp [alarmLine]) (by simp) calm.flc
  case h_3 =>
    obtain ⟨hlevel, horigins, htime, halarm, -⟩ := enterRegime_rc .general cause s
    exact entered hlevel horigins htime halarm (enterRegime_groupNumbers ..) (enterRegime_calm .general cause s).flc

/-- Each floor of a table in the course of an alarm was held from one before. -/
theorem FloorsHeld.mem {l l' : List Floor} (h : FloorsHeld l l') {b : Floor} (hb : b ∈ l') : ∃ a ∈ l, a.Held b := by
  obtain ⟨f, hf⟩ := List.mem_iff_getElem?.mp hb
  obtain ⟨hlt, -⟩ := List.getElem?_eq_some_iff.mp hf
  have ha := List.getElem?_eq_getElem (h.length ▸ hlt)
  obtain ⟨b', hb', held⟩ := h.held f _ ha
  exact ⟨_, List.mem_of_getElem? ha, Option.some.inj (hb'.symm.trans hf) ▸ held⟩

/-- R11: where no floor is QUIET, GENERAL leaves every floor in EVAC. -/
theorem generalSteps_evac {s : State} (h : ∀ fl ∈ s.rc.floors, fl.state ≠ .quiet) :
    ∀ fl ∈ (generalSteps s).rc.floors, fl.state = .evac := by
  intro fl hfl
  obtain ⟨-, -, -, -, hnoalert⟩ := generalSteps_rc s
  obtain ⟨a, ha, held⟩ := (generalSteps_calm s).floors.mem hfl
  cases hs : fl.state with
  | quiet => exact absurd hs (held.notQuiet (h a ha))
  | alert => exact absurd hs (hnoalert fl hfl)
  | evac => rfl

/-- R10, R11: from NORMAL every floor is in EVAC. -/
theorem enterGeneral_evac {cause : RegimeCause} {s : State} (h : s.rc.level = .normal) :
    ∀ fl ∈ (enterGeneral cause s).rc.floors, fl.state = .evac := by
  obtain ⟨-, -, -, -, hfloors⟩ := enterRegime_rc .general cause s
  simp only [enterGeneral, h]
  refine generalSteps_evac fun fl hfl => ?_
  rw [hfloors] at hfl
  obtain ⟨a, -, rfl⟩ := List.mem_map.mp hfl
  exact alertedFloor_notQuiet a

/-! ## START_GENERAL -/

theorem startGeneral_requests (tag : Byte) :
    Requests (.startGeneral tag []) 0x0A#8 tag () (fun _ => startGeneral) := ⟨_, _, rfl, rfl, fun _ => rfl⟩

/-- R17: an abandoned reset leaves every block but the Zone Engine and the reports. -/
theorem abandonReset_blocks (s : State) : (abandonReset s).flc = s.flc ∧ (abandonReset s).es = s.es ∧
    (abandonReset s).lc = s.lc ∧ (abandonReset s).ds = s.ds ∧ (abandonReset s).cs = s.cs := by
  unfold abandonReset
  split <;> simp [reportRegime]

/-- Settles O29: GENERAL entered by the steps of R11, or the pending reset alone abandoned where the level is GENERAL. -/
theorem startGeneralRule : Obligations.StartGeneralRule := by
  intro s tag hs
  have hregime := asked_sameRegime s
  have hblocks := asked_sameBlocks s
  obtain ⟨hflc, hes, hlc, hds, hcs⟩ := abandonReset_blocks (asked s)
  have hrc := abandonReset_rc (asked s)
  obtain ⟨t, ht, hreply, hend⟩ := (startGeneral_requests tag).answered hs
  rw [startGeneral] at hreply hend
  dsimp only at hreply hend
  generalize hu : abandonReset (asked s) = u at *
  have calm := enterGeneral_calm .startGeneral u
  have hlevel : u.rc.level = s.rc.level := by rw [hrc]; exact hregime.level
  have hfloors : u.rc.floors = s.rc.floors := by rw [hrc]; exact hregime.floors
  have horigins : u.rc.origins = s.rc.origins := by rw [hrc]; exact hregime.origins
  have hpending : t.rc.resetPending = false := (hend.resetPending.trans calm.resetPending).trans (by rw [hrc])
  have hlength : t.rc.floors.length = s.rc.floors.length := by rw [hend.floorTable, calm.floors.length, hfloors]
  refine ⟨t, ht, hreply, ?_⟩
  by_cases hg : s.rc.level = .general
  · have hstays : enterGeneral .startGeneral u = u := by rw [enterGeneral, hlevel, hg]
    rw [hstays] at hend
    refine ⟨(hend.level.trans hlevel).trans hg, hpending, hend.origins.trans horigins, hlength,
      fun _ => ⟨hend.floorTable.trans hfloors, ?_, ?_, ?_⟩, fun h => absurd hg h, fun h => ?_⟩
    · rw [hend.es, hes, hblocks.es]
    · rw [hend.ds, hds, hblocks.ds]
    · rw [hend.cs, hcs, hblocks.cs]
    · rw [hg] at h; nomatch h
  · have entered := enterGeneral_entered (cause := .startGeneral) (s := u) (by rw [hlevel]; exact hg)
    refine ⟨hend.level.trans entered.level, hpending, (hend.origins.trans entered.origins).trans horigins, hlength,
      fun h => absurd h hg, fun _ => ⟨?_, hend.commonAlarm.trans entered.commonAlarm, ?_, ?_, ?_, fun hkeys => ⟨?_, ?_⟩,
        fun k p hp => ?_, fun m hm => ?_⟩, fun h => ?_⟩
    · rw [hend.entryTime, entered.entryTime, hrc]
      exact hregime.secondCount
    · rw [hend.es, entered.waiting]
    · rw [hend.es, entered.advanceTimer]
    · rw [hend.floorTable]
      exact entered.noAlert
    · rw [hend.lc]
      refine entered.recalled ?_
      rw [hlc, hblocks.lc]
      exact hkeys.1
    · rw [hend.ds]
      exact entered.released
    · rw [hend.settles.ports]
      have hsame : u.flc = s.flc := hflc.trans hblocks.flc
      rw [← hsame] at hp ⊢
      exact (entered.releaseAll k).port p hp
    · rw [hend.ds] at hm
      exact (entered.outputs m hm).settles hend.settles
    · rw [hend.floorTable]
      exact enterGeneral_evac (by rw [hlevel]; exact h)

end Sys2Proof.Machine
end

section
/-!
A step on an empty queue (log entry 4), and what the end of an event leaves of the change it carries out.
-/

namespace Sys2Proof.Machine

/-! ## One second -/

theorem step_empty {s : State} (h : s.pending = []) : step s = .next (idleSecond s) := by
  rw [step, h]

/-- What the fall of the timers leaves, with and without power. -/
theorem idleSecond_leaves (s : State) : (idleSecond s).rc = s.rc ∧ (idleSecond s).flc = s.flc ∧
    (idleSecond s).cs = s.cs ∧ (idleSecond s).pending = s.pending ∧ (idleSecond s).powered = s.powered := by
  unfold idleSecond
  split
  · exact ⟨rfl, rfl, rfl, rfl, rfl⟩
  · exact ⟨rfl, rfl, rfl, rfl, rfl⟩

theorem idleSecond_unpowered {s : State} (h : s.powered = false) : idleSecond s = s := by
  rw [idleSecond, if_neg (by simp [h])]

theorem idleSecond_powered {s : State} (h : s.powered = true) : idleSecond s = { s with
    ze := s.ze.second, es := s.es.second, lc := s.lc.second, ds := s.ds.second, ar := s.ar.second, sp := s.sp.second } := by
  rw [idleSecond, if_pos h]

/-- Settles O2: the step is `idleSecond`, which counts every running timer down. -/
theorem stepIdlesOneSecond : Obligations.StepIdlesOneSecond := by
  intro s hqueue
  obtain ⟨hrc, hflc, hcs, hpending, hpower⟩ := idleSecond_leaves s
  refine ⟨idleSecond s, step_empty hqueue, hrc, hflc, hcs, hpending.trans hqueue, idleSecond_unpowered,
    fun h => ⟨hpower.trans h, ?_⟩⟩
  rw [idleSecond_powered h]
  exact ⟨rfl, rfl, rfl, rfl, rfl, rfl⟩

/-! ## The end of an event -/

/-- The event's end, after the change that leaves `s`. -/
theorem finish_orderLift_endsIn (n : Nat) (s : State) : EndsIn s (finish (orderLift n s)) :=
  finish_modSp_endsIn (p := (orderLift n s).sp) rfl rfl rfl

/-- The event of a part with power: its change, made with a clear scratch record, and then the event's end. -/
theorem event_endsIn {s : State} (f : State → State) (h : s.powered = true) :
    ∃ t, event f s = .next t ∧ EndsIn (f { s with ev := Scratch.clear }) t :=
  ⟨_, event_powered f h, finish_orderLift_endsIn ..⟩

/-- An event in which nothing is changed. -/
theorem EndsIn.of_clear {s t : State} (h : EndsIn { s with ev := Scratch.clear } t) : SameBlocks s t ∧ SameRegime s t := by
  rw [h.untouched rfl]
  exact ⟨⟨rfl, rfl, rfl, rfl, rfl, rfl, rfl, rfl, rfl, rfl⟩, ⟨rfl, rfl, rfl, rfl, rfl, rfl, rfl, rfl⟩⟩

theorem EndsIn.sameRegime {s t : State} (h : EndsIn s t) : SameRegime s t :=
  ⟨h.level, h.resetPending, h.origins, h.entryTime, h.count, h.originLimit, h.floorTable, h.commonAlarm⟩

/-- An event whose change leaves the Regime Core. -/
theorem EndsIn.sameRegime_of {s u t : State} (h : EndsIn u t) (hrc : u.rc = s.rc) : SameRegime s t := by
  have hsame := h.sameRegime
  constructor
  all_goals rw [← hrc]
  exacts [hsame.level, hsame.resetPending, hsame.origins, hsame.entryTime, hsame.secondCount, hsame.originLimit,
    hsame.floors, hsame.commonAlarm]

/-- An event that touches no announcement leaves the field lines and the AR as its change left them. -/
theorem EndsIn.flc_ar {s t : State} (h : EndsIn s t) (hev : s.ev.arTouched = false) : t.flc = s.flc ∧ t.ar = s.ar := by
  rw [h.untouched hev]
  exact ⟨rfl, rfl⟩

end Sys2Proof.Machine
end

section
/-!
A zone that changes its state (R25, R26, R45): what the change does to the zone table, and the falls of R34 and R42.
-/

namespace Sys2Proof.Machine

/-! ## The zone table after the notices -/

/-- R17: the zone table after a pending reset is abandoned. -/
def ZE.unmark (pending : Bool) (x : ZE) : ZE := { x with zones := x.zones.map (unmarked pending) }

theorem ZE.unmark_false (x : ZE) : x.unmark false = x := by
  have hsame : unmarked false = id := rfl
  rw [ZE.unmark, hsame, List.map_id]

theorem findZone_unmark (x : ZE) (pending : Bool) (k : Line) (n : Nat) :
    findZone (x.unmark pending) k n = (findZone x k n).map (unmarked pending) := by
  rw [findZone, ZE.unmark, List.find?_map]
  rfl

theorem abandonReset_ze (s : State) : (abandonReset s).ze = s.ze.unmark s.rc.resetPending := by
  unfold abandonReset
  cases hp : s.rc.resetPending with
  | false => exact (ZE.unmark_false s.ze).symm
  | true => simp [reportRegime, ZE.unmark, unmarked]

theorem riseNotice_ze (f : Nat) (s : State) : (riseNotice f s).ze = s.ze.unmark s.rc.resetPending := by
  rw [riseNotice, (abortSession_calm _).ze, moveAlarmCount_ze, abandonReset_ze]

theorem fallNotice_ze (f : Nat) (s : State) : (fallNotice f s).ze = s.ze := by
  rw [fallNotice, (testCompletion_ze_cs _).1, moveAlarmCount_ze]

/-- R25: the notices move the zone table only where a rise abandons a pending reset, which no zone makes that comes from
VERIFYING or goes where it does not count. -/
theorem zoneNotices_ze (old new : Zone) (s : State) : ∃ b, (zoneNotices old new s).ze = s.ze.unmark b ∧
    (old.state = .verifying ∨ new.counted = false → b = false) := by
  have same {t : State} (h : t.ze = s.ze) :
      ∃ b, t.ze = s.ze.unmark b ∧ (old.state = .verifying ∨ new.counted = false → b = false) :=
    ⟨false, h.trans (ZE.unmark_false _).symm, fun _ => rfl⟩
  have risen {t : State} (h : t.ze = (riseNotice new.floor s).ze) (ho : old.state ≠ .verifying)
      (hn : new.counted = true) :
      ∃ b, t.ze = s.ze.unmark b ∧ (old.state = .verifying ∨ new.counted = false → b = false) :=
    ⟨_, h.trans (riseNotice_ze _ s), fun h => absurd h (by simp [ho, hn])⟩
  unfold zoneNotices
  split
  case h_1 => exact same rfl
  case h_2 => exact same rfl
  case h_3 hnew hold => exact risen rfl hold (by simp [Zone.counted, hnew])
  case h_4 => exact same (confirmation_calm ..).ze
  case h_5 hnew _ hold => exact risen (confirmation_calm ..).ze hold (by simp [Zone.counted, hnew])
  case h_6 => exact same ((fallNotice_ze ..).trans (clearance_calm ..).ze)
  case h_7 => exact same (fallNotice_ze ..)
  case h_8 => exact same rfl

/-- R45: the zone table after a change of state. -/
theorem changeZone_ze (cls : Cls) (cause : ZoneCause) (old new : Zone) (s : State) :
    ∃ b, (changeZone cls cause old new s).ze = (s.ze.putZone new).unmark b ∧
      (old.state = .verifying ∨ new.counted = false → b = false) := by
  obtain ⟨b, hze, hb⟩ := zoneNotices_ze old new (reportZone cls cause new (s.modZe (ZE.putZone new)))
  refine ⟨b, ?_, hb⟩
  rw [changeZone, zoneTrouble_ze, hze, reportZone_ze]
  rfl

/-- A change of state that raises no count replaces the record and leaves the rest of the table. -/
theorem changeZone_noRise_ze {cls : Cls} {cause : ZoneCause} {old new : Zone}
    (h : old.state = .verifying ∨ new.counted = false) (s : State) :
    (changeZone cls cause old new s).ze = s.ze.putZone new := by
  obtain ⟨b, hze, hb⟩ := changeZone_ze cls cause old new s
  rw [hze, hb h, ZE.unmark_false]

/-- The record `new` stands at its key; the other records, the links and the lines are as they were. -/
structure ZoneSet (new : Zone) (x y : ZE) : Prop where
  zone : findZone y new.link new.number = some new
  others : ∀ k n, (k, n) ≠ (new.link, new.number) → findZone y k n = findZone x k n
  links : y.links = x.links
  lines : y.lines = x.lines

theorem putZone_zoneSet {x : ZE} {new e : Zone} (h : findZone x new.link new.number = some e) :
    ZoneSet new x (x.putZone new) where
  zone := findZone_putZone h
  others k n hne := findZone_putZone_ne fun hkey => hne (by rw [hkey.1, hkey.2])
  links := rfl
  lines := rfl

theorem changeZone_zoneSet {cls : Cls} {cause : ZoneCause} {old new e : Zone} {s : State}
    (h : old.state = .verifying ∨ new.counted = false) (hz : findZone s.ze new.link new.number = some e) :
    ZoneSet new s.ze (changeZone cls cause old new s).ze := by
  rw [changeZone_noRise_ze h]
  exact putZone_zoneSet hz

/-! ## Falls (R5, R16) -/

/-- R5: a move of an alarm count is answered by the Lift Coordinator alone. -/
theorem moveAlarmCount_blocks (change : Nat → Nat) (f : Nat) (s : State) :
    (moveAlarmCount change f s).es = s.es ∧ (moveAlarmCount change f s).ds = s.ds ∧
      (moveAlarmCount change f s).ar = s.ar ∧ (moveAlarmCount change f s).ev = s.ev := by
  unfold moveAlarmCount reportFloor
  split
  · exact ⟨rfl, rfl, rfl, rfl⟩
  · dsimp only
    split
    · exact ⟨rfl, rfl, rfl, rfl⟩
    · split <;> simp

theorem fallNotice_cs (f : Nat) (s : State) : (fallNotice f s).cs = s.cs := by
  rw [fallNotice, (testCompletion_ze_cs _).2, moveAlarmCount_cs]

/-- R16: a fall with no reset pending moves the count and no more. -/
theorem fallNotice_notPending {s : State} (h : s.rc.resetPending = false) (f : Nat) :
    fallNotice f s = moveAlarmCount (· - 1) f s := by
  obtain ⟨-, hpending, -⟩ := moveAlarmCount_regime (· - 1) f s
  rw [fallNotice, testCompletion, hpending, h]
  rfl

/-- A change of state into one that does not count leaves the Configuration Store. -/
theorem changeZone_uncounted_cs {cls : Cls} {cause : ZoneCause} {old new : Zone} (hn : new.counted = false) (s : State) :
    (changeZone cls cause old new s).cs = s.cs := by
  have put := (modZe_zoneOnly (ZE.putZone new) s).trans (reportZone_zoneOnly cls cause new _)
  rw [changeZone, (zoneTrouble_zoneOnly ..).cs, ← put.cs]
  unfold zoneNotices
  split
  case h_1 => rfl
  case h_2 => rfl
  case h_3 hnew _ => simp [Zone.counted, hnew] at hn
  case h_4 hnew => simp [Zone.counted, hnew] at hn
  case h_5 hnew _ _ => simp [Zone.counted, hnew] at hn
  case h_6 => exact (fallNotice_cs ..).trans (clearance_passLeaves ..).cs
  case h_7 => exact fallNotice_cs ..
  case h_8 => rfl

/-- R34, R5: the part after a zone dropped out of VERIFYING with no reset pending: its floor counts one alarm less. -/
structure Dropped (f : Nat) (s t : State) : Prop where
  level : t.rc.level = s.rc.level
  es : t.es = s.es
  ds : t.ds = s.ds
  ar : t.ar = s.ar
  cs : t.cs = s.cs
  ev : t.ev = s.ev
  count : ∀ fl, s.rc.floors[f]? = some fl → t.rc.floors[f]? =
    some { fl with alarmCount := fl.alarmCount - 1, lockout := decide (0 < fl.alarmCount - 1) }

theorem fallNotice_dropped {s : State} (h : s.rc.resetPending = false) (f : Nat) : Dropped f s (fallNotice f s) := by
  obtain ⟨hlevel, -, -⟩ := moveAlarmCount_regime (· - 1) f s
  obtain ⟨hes, hds, har, hev⟩ := moveAlarmCount_blocks (· - 1) f s
  rw [fallNotice_notPending h]
  exact ⟨hlevel, hes, hds, har, moveAlarmCount_cs .., hev, fun _ => moveAlarmCount_floor⟩

/-- Changes of the zone table, the port and the trouble set before and after a drop leave it one. -/
theorem Dropped.within {a b c d : State} {f : Nat} (h : ZoneOnly a b) (k : Dropped f b c) (l : ZoneOnly c d) :
    Dropped f a d where
  level := (l.regime.level.trans k.level).trans h.regime.level
  es := (l.es.trans k.es).trans h.es
  ds := (l.ds.trans k.ds).trans h.ds
  ar := (l.ar.trans k.ar).trans h.ar
  cs := (l.cs.trans k.cs).trans h.cs
  ev := (l.ev.trans k.ev).trans h.ev
  count fl hfl := by
    rw [l.regime.floors]
    exact k.count fl (by rw [h.regime.floors]; exact hfl)

theorem changeZone_dropped {cls : Cls} {cause : ZoneCause} {old new : Zone} {s : State} (ho : old.state = .verifying)
    (hn : new.counted = false) (h : s.rc.resetPending = false) :
    Dropped new.floor s (changeZone cls cause old new s) := by
  have put := (modZe_zoneOnly (ZE.putZone new) s).trans (reportZone_zoneOnly cls cause new _)
  have fall : zoneNotices old new (reportZone cls cause new (s.modZe (ZE.putZone new))) =
      fallNotice new.floor (reportZone cls cause new (s.modZe (ZE.putZone new))) := by
    unfold zoneNotices
    split <;> simp_all [Zone.counted]
  rw [changeZone, fall]
  exact (fallNotice_dropped (put.regime.resetPending.trans h) _).within put (zoneTrouble_zoneOnly ..)

end Sys2Proof.Machine
end

section
/-!
WINDOW_EXPIRY (R34) and DISABLE_ZONE (R42).
-/

namespace Sys2Proof.Machine

/-! ## WINDOW_EXPIRY -/

/-- R34: a window whose deadline has not come leaves the part as it stands. -/
theorem windowExpired_notDue {s : State} {k : Line} {n : Nat} {z : Zone} {w : Window} (hz : findZone s.ze k n = some z)
    (hw : z.window = some w) (hd : w.deadline ≠ 0) : windowExpired k n s = s := by
  simp [windowExpired, hz, hw, hd]

/-- R34: the state to which the expiry of a window takes a zone. -/
def expiredTo (w : Window) (z : Zone) : ZoneState :=
  if w.linkLost then .confirmed
  else
    match z.lastInput with
    | some .normal => .normal
    | some .fault => .trouble
    | _ => .confirmed

/-- R34: the expiry of a window whose deadline has come is a change of the zone's state by the table. -/
theorem windowExpired_due {s : State} {k : Line} {n : Nat} {z : Zone} {w : Window} (hz : findZone s.ze k n = some z)
    (hv : z.state = .verifying) (hw : z.window = some w) (hd : w.deadline = 0) : ∃ cls cause,
      windowExpired k n s = changeZone cls cause z { z with state := expiredTo w z, window := none } s := by
  cases hl : w.linkLost with
  | true => exact ⟨.alarm, .windowExpiry, by simp [windowExpired, expiredTo, Zone.confirm, hz, hw, hv, hd, hl]⟩
  | false =>
    match hi : z.lastInput with
    | some .normal => exact ⟨.routine, .verifyDropped, by simp [windowExpired, expiredTo, hz, hw, hv, hd, hl, hi]⟩
    | some .fault => exact ⟨.routine, .verifyDropped, by simp [windowExpired, expiredTo, hz, hw, hv, hd, hl, hi]⟩
    | some .alarm | none =>
      exact ⟨.alarm, .windowExpiry, by simp [windowExpired, expiredTo, Zone.confirm, hz, hw, hv, hd, hl, hi]⟩

theorem expiredTo_cases (w : Window) (z : Zone) : (w.linkLost = true → expiredTo w z = .confirmed) ∧
    (w.linkLost = false → z.lastInput = some .alarm → expiredTo w z = .confirmed) ∧
    (w.linkLost = false → z.lastInput = some .normal → expiredTo w z = .normal) ∧
    (w.linkLost = false → z.lastInput = some .fault → expiredTo w z = .trouble) := by
  refine ⟨fun h => ?_, fun h hi => ?_, fun h hi => ?_, fun h hi => ?_⟩ <;> simp [expiredTo, *]

/-- Settles O35: the change of state that `expiredTo` names, and its fall. -/
theorem windowExpiryRule : Obligations.WindowExpiryRule := by
  intro s k n z w hpower hz hv hw
  obtain ⟨hlost, halarm, hnormal, hfault⟩ := expiredTo_cases w z
  obtain ⟨t, ht, hend⟩ := event_endsIn (windowExpired k n) hpower
  refine ⟨fun hd => ⟨t, ht, ?_⟩, fun hd => ⟨t, ht, ?_⟩⟩
  · rw [windowExpired_notDue (s := { s with ev := Scratch.clear }) hz hw hd] at hend
    exact hend.of_clear
  · obtain ⟨cls, cause, hexp⟩ := windowExpired_due (s := { s with ev := Scratch.clear }) hz hv hw hd
    obtain ⟨rfl, rfl⟩ := findZone_key hz
    rw [hexp] at hend
    have hset : ZoneSet { z with state := expiredTo w z, window := none } s.ze t.ze := by
      rw [hend.ze]
      exact changeZone_zoneSet (s := { s with ev := Scratch.clear }) (.inl hv) hz
    refine ⟨hset.others, hset.links, hset.lines, fun h => ?_, fun h hi => ?_, fun h hi => ?_, fun h hi => ?_,
      fun h hi hp => ?_⟩
    · simpa [hlost h] using hset.zone
    · simpa [halarm h hi] using hset.zone
    · simpa [hnormal h hi] using hset.zone
    · simpa [hfault h hi] using hset.zone
    · have hn : ({ z with state := expiredTo w z, window := none } : Zone).counted = false := by
        obtain hi | hi := hi
        · simp [Zone.counted, hnormal h hi]
        · simp [Zone.counted, hfault h hi]
      have drop := changeZone_dropped (cls := cls) (cause := cause) (s := { s with ev := Scratch.clear }) hv hn hp
      obtain ⟨-, har⟩ := hend.flc_ar (by rw [drop.ev]; rfl)
      exact ⟨hend.level.trans drop.level, hend.es.trans drop.es, hend.ds.trans drop.ds, har.trans drop.ar,
        hend.cs.trans drop.cs, fun fl hfl => by rw [hend.floorTable]; exact drop.count fl hfl⟩

/-! ## DISABLE_ZONE -/

theorem disableZone_requests (tag b : Byte) {a : Byte} {k : Line} (h : k.code = a.toNat) :
    Requests (.disableZone tag [a, b]) 0x0D#8 tag (k, b.toNat) (fun q => disableRequest q.1 q.2) :=
  ⟨_, _, rfl, linkZone_eq h, fun _ => rfl⟩

/-- R42: the four answers of DISABLE_ZONE. -/
theorem disableRequest_none {k : Line} {n : Nat} {s : State} (h : findZone s.ze k n = none) :
    disableRequest k n s = (.bare .noSuch, s) := by
  simp only [disableRequest, h]

theorem disableRequest_confirmed {k : Line} {n : Nat} {s : State} {z : Zone} (h : findZone s.ze k n = some z)
    (hz : z.state = .confirmed) : disableRequest k n s = (.refused .zoneActive, s) := by
  simp only [disableRequest, h, hz]

theorem disableRequest_disabled {k : Line} {n : Nat} {s : State} {z : Zone} (h : findZone s.ze k n = some z)
    (hz : z.state = .disabled) : disableRequest k n s = (.done, s) := by
  simp only [disableRequest, h, hz]

theorem disableRequest_inService {k : Line} {n : Nat} {s : State} {z : Zone} (h : findZone s.ze k n = some z)
    (hc : z.state ≠ .confirmed) (hd : z.state ≠ .disabled) : disableRequest k n s = (.done, disableZone z s) := by
  cases hz : z.state with
  | confirmed => exact absurd hz hc
  | disabled => exact absurd hz hd
  | _ => simp only [disableRequest, h, hz]

/-- Settles O32: a zone in service becomes DISABLED by a change of state, which falls where it was VERIFYING. -/
theorem disableZoneRule : Obligations.DisableZoneRule := by
  intro s tag a b k hs hk
  have request := disableZone_requests tag b hk
  have hregime := asked_sameRegime s
  have hblocks := asked_sameBlocks s
  refine ⟨fun hnone => request.answeredOnly hs (disableRequest_none (hblocks.ze ▸ hnone)), fun z hz => ?_⟩
  have hfound : findZone (asked s).ze k b.toNat = some z := by rw [hblocks.ze]; exact hz
  refine ⟨fun hc => request.answeredOnly hs (disableRequest_confirmed hfound hc),
    fun hd => request.answeredOnly hs (disableRequest_disabled hfound hd), fun hc hd => ?_⟩
  obtain ⟨t, ht, hreply, hend⟩ := request.answered hs
  rw [disableRequest_inService hfound hc hd, disableZone] at hreply hend
  dsimp only at hend
  obtain ⟨hlink, hnumber⟩ := findZone_key hz
  rw [← hlink, ← hnumber] at hfound ⊢
  have hset := changeZone_zoneSet (cls := .routine) (cause := .disabled) (old := z)
    (new := { z with state := .disabled, disabled := true, window := none }) (.inr rfl) hfound
  rw [← hend.ze, hblocks.ze] at hset
  refine ⟨t, ht, hreply, hset.zone, hset.others, hset.links, hset.lines, ?_, fun hv => ?_⟩
  · rw [hend.cs, changeZone_uncounted_cs rfl, hblocks.cs]
  · have ho : z.counted = false := by simp [Zone.counted, hv, hc]
    obtain ⟨honly, -⟩ := changeZone_uncounted (cls := .routine) (cause := .disabled)
      (new := { z with state := .disabled, disabled := true, window := none }) ho rfl (asked s)
    obtain ⟨hflc, har⟩ := hend.flc_ar (by rw [honly.ev, asked_ev]; rfl)
    refine ⟨(hregime.trans honly.regime).trans hend.sameRegime, ?_, ?_, ?_, ?_, ?_⟩
    · rw [hflc, honly.flc, hblocks.flc]
    · rw [hend.es, honly.es, hblocks.es]
    · rw [hend.lc, honly.lc, hblocks.lc]
    · rw [hend.ds, honly.ds, hblocks.ds]
    · rw [har, honly.ar, hblocks.ar]

end Sys2Proof.Machine
end

section
/-!
What an arrival leaves of the field side: the links, the local lines, and the nodes but for their images and actions. One lemma
per operation that an alarm can bring about, from the effects of a block up to the arrival.
-/

namespace Sys2Proof.Machine

/-! ## The relation -/

/-- R147: a node without its images and actions: its key, its link state, its counters, its rotation and its sequence bit. -/
def Node.bare (n : Node) : Node := { n with actions := [], images := [] }

/-- The links, the lines, and the nodes but for their images and actions, are as they were. -/
structure Steady (s t : State) : Prop where
  links : t.ze.links = s.ze.links
  lines : t.ze.lines = s.ze.lines
  nodes : t.flc.nodes.map Node.bare = s.flc.nodes.map Node.bare

theorem Steady.refl (s : State) : Steady s s := ⟨rfl, rfl, rfl⟩

theorem Steady.trans {a b c : State} (h : Steady a b) (k : Steady b c) : Steady a c :=
  ⟨k.links.trans h.links, k.lines.trans h.lines, k.nodes.trans h.nodes⟩

theorem Steady.ite {c : Prop} [Decidable c] {s a b : State} (h : Steady s a) (k : Steady s b) :
    Steady s (if c then a else b) := by
  split
  · exact h
  · exact k

theorem Steady.foldl {α : Type} {op : State → α → State} (h : ∀ s a, Steady s (op s a)) (l : List α) (s : State) :
    Steady s (l.foldl op s) :=
  foldl_keeps (P := Steady s) (fun t a ht => ht.trans (h t a)) l s (.refl s)

/-- A change that leaves the Zone Engine and the field lines. -/
theorem Steady.of_eq {s t : State} (hze : t.ze = s.ze) (hflc : t.flc = s.flc) : Steady s t :=
  ⟨by rw [hze], by rw [hze], by rw [hflc]⟩

/-- A change of the images and actions of nodes alone. -/
theorem modNode_steady {port : Line} {address : Nat} {f : Node → Node} (h : ∀ n, (f n).bare = n.bare) (s : State) :
    Steady s (s.modFlc (FLC.modNode port address f)) := ⟨rfl, rfl, map_mapIf _ _ _ h _⟩

/-- A node is found as it was, but for its images and actions. -/
theorem Steady.findNode {s t : State} (h : Steady s t) {port : Line} {address : Nat} {n : Node}
    (hn : findNode s.flc.nodes port address = some n) :
    ∃ n', Machine.findNode t.flc.nodes port address = some n' ∧ n'.bare = n.bare := by
  have key (l : List Node) : (Machine.findNode l port address).map Node.bare =
      Machine.findNode (l.map Node.bare) port address := by
    rw [Machine.findNode, Machine.findNode, List.find?_map]
    rfl
  have hfound := key t.flc.nodes
  rw [h.nodes, ← key, hn] at hfound
  exact Option.map_eq_some_iff.mp hfound

/-! ## Effects and the blocks' changes -/

theorem modNode_images_bare (port : Line) (address : Nat) (f : Node → List ImageMark) (x : FLC) :
    (x.modNode port address (fun n => { n with images := f n })).nodes.map Node.bare = x.nodes.map Node.bare := by
  refine map_mapIf _ _ _ ?_ _
  exact fun _ => rfl

theorem offer_steady (cls : Cls) (body : Body) (s : State) : Steady s (offer cls body s) := .of_eq (by simp) (by simp)

theorem applyEff_steady (s : State) (e : Eff) : Steady s (applyEff s e) := by
  cases e with
  | report cls body => exact offer_steady cls body s
  | trouble src rise => exact .of_eq (by simp [applyEff]) (by simp [applyEff])
  | dirty port address name => exact ⟨rfl, rfl, modNode_images_bare ..⟩
  | withdraw port address name => exact ⟨rfl, rfl, modNode_images_bare ..⟩
  | addImage port address name => exact ⟨rfl, rfl, modNode_images_bare ..⟩
  | broadcast loop =>
    refine ⟨rfl, rfl, ?_⟩
    change (s.flc.askBroadcast loop).nodes.map Node.bare = _
    unfold FLC.askBroadcast
    split <;> rfl

theorem applyEffs_steady (l : List Eff) (s : State) : Steady s (applyEffs l s) := Steady.foldl applyEff_steady l s

theorem liftLc_steady (f : Acc LC → Acc LC) (s : State) : Steady s (s.liftLc f) :=
  Steady.trans (b := { s with lc := (f ⟨s.lc, []⟩).st }) (.of_eq rfl rfl) (applyEffs_steady _ _)

theorem liftDs_steady (f : Acc DS → Acc DS) (s : State) : Steady s (s.liftDs f) :=
  Steady.trans (b := { s with ds := (f ⟨s.ds, []⟩).st }) (.of_eq rfl rfl) (applyEffs_steady _ _)

theorem liftAr_steady (f : Acc ArCtx → Acc ArCtx) (s : State) : Steady s (s.liftAr f) :=
  Steady.trans (b := { s with ar := (f ⟨⟨s.ar, s.ev⟩, []⟩).st.ar, ev := (f ⟨⟨s.ar, s.ev⟩, []⟩).st.ev }) (.of_eq rfl rfl)
    (applyEffs_steady _ _)

theorem modEs_steady (f : ES → ES) (s : State) : Steady s (s.modEs f) := .of_eq rfl rfl

theorem modRc_steady (f : RC → RC) (s : State) : Steady s (s.modRc f) := .of_eq rfl rfl

/-! ## Admissions and the Egress Scheduler (R6, chapter 03) -/

theorem reportFloor_steady (cls : Cls) (cause : FloorCause) (f : Nat) (s : State) :
    Steady s (reportFloor cls cause f s) := by
  unfold reportFloor
  split
  · exact offer_steady ..
  · exact .refl s

theorem reportStair_steady (cause : StairCause) (i : Nat) (floor : Option (Nat × Label)) (s : State) :
    Steady s (reportStair cause i floor s) := by
  unfold reportStair
  split
  · exact offer_steady ..
  · exact .refl s

theorem admitFloor_steady (kind : AdmKind) (shares : Option (List (Nat × Nat))) (told : Bool) (f : Nat) (s : State) :
    Steady s (admitFloor kind shares told f s) := by
  unfold admitFloor
  have admitted := modRc_steady (fun r => r.modFloor f (admittedFloor kind shares r.secondCount)) s
  exact .ite (((Steady.ite (admitted.trans (reportFloor_steady ..)) admitted).trans (liftDs_steady _ _)).trans
    (liftAr_steady _ _)) (.refl s)

theorem addShare_steady (s : State) (e : Nat × Nat) : Steady s (addShare s e) := by
  unfold addShare
  split
  case h_1 => exact .refl s
  case h_2 st _ =>
    have added := modEs_steady (ES.modStair e.1 (loadedStair e.2)) s
    have told := Steady.ite (c := (loadedStair e.2 st).cond = st.cond) added
      (added.trans (reportStair_steady .congested e.1 none _))
    exact .ite (.refl s) (.ite told (told.trans (reportStair_steady ..)))

theorem admitStep_steady (kind : AdmKind) (f : Nat) (s : State) : Steady s (admitStep kind f s) := by
  unfold admitStep
  have off := modEs_steady (fun x => { x with waiting := x.waiting.erase f }) s
  split
  case h_1 => exact off
  case h_2 =>
    refine .ite ?_ off
    dsimp only
    split
    · exact (off.trans (admitFloor_steady ..)).trans (reportStair_steady ..)
    · exact (off.trans (admitFloor_steady ..)).trans (Steady.foldl addShare_steady _ _)

theorem restartAdvance_steady (s : State) : Steady s (restartAdvance s) := modEs_steady _ s

theorem attemptRounds_steady (n : Nat) (s : State) : Steady s (attemptRounds n s) := by
  induction n generalizing s with
  | zero => exact .refl s
  | succ n ih =>
    have round (f : Nat) : Steady s (attemptRounds n (restartAdvance (admitStep .ordered f s))) :=
      ((admitStep_steady ..).trans (restartAdvance_steady _)).trans (ih _)
    unfold attemptRounds
    split
    · exact .refl s
    · split
      · exact round _
      · exact .ite (.refl s) (round _)

theorem attempt_steady (s : State) : Steady s (attempt s) := attemptRounds_steady _ s

theorem regimeStart_steady (o : Nat) (s : State) : Steady s (regimeStart o s) := by
  have built := modEs_steady (fun x => { x with waiting := buildList o s }) s
  refine Steady.trans ?_ ((restartAdvance_steady _).trans (attempt_steady _))
  exact .ite (built.trans (admitStep_steady ..)) built

theorem newOrigin_steady (o : Nat) (s : State) : Steady s (newOrigin o s) := by
  have taken : Steady s (if s.es.waiting.contains o then admitStep .origin o s else s) :=
    .ite (admitStep_steady ..) (.refl s)
  have promoted := taken.trans (modEs_steady (fun x => { x with waiting := promoteNeighbours o x.waiting }) _)
  exact .ite promoted (promoted.trans (attempt_steady _))

theorem compromise_steady (i : Nat) (s : State) : Steady s (compromise i s) := by
  unfold compromise
  split
  · exact .refl s
  · exact .ite (.refl s) (((modEs_steady _ s).trans (reportStair_steady ..)).trans (attempt_steady _))

theorem bulkAdmission_steady (s : State) : Steady s (bulkAdmission s) :=
  (Steady.foldl (op := fun b f => admitStep .general f b) (fun b f => admitStep_steady .general f b) _ s).trans
    (modEs_steady (fun x => { x with advanceTimer := none }) _)

theorem admitQuietly_steady (kind : AdmKind) (floors : List Nat) (s : State) :
    Steady s (admitQuietly kind floors s) := Steady.foldl (fun b f => admitFloor_steady kind none false f b) _ s

/-! ## Confirmations and resets (chapter 01) -/

theorem changeLevel_steady (new : Level) (cause : RegimeCause) (s : State) : Steady s (changeLevel new cause s) :=
  (modRc_steady _ s).trans (offer_steady ..)

theorem abortSession_steady (s : State) : Steady s (abortSession s) :=
  .ite (Steady.trans (b := s.modCs (fun c => { c with staged := none })) (.of_eq rfl rfl) (offer_steady ..)) (.refl s)

theorem enterRegime_steady (level : Level) (cause : RegimeCause) (s : State) : Steady s (enterRegime level cause s) :=
  ((changeLevel_steady level cause s).trans (modRc_steady (RC.eachFloor alertedFloor) _)).trans
    (((liftAr_steady _ _).trans (liftDs_steady _ _)).trans ((liftLc_steady _ _).trans (abortSession_steady _)))

theorem enterPhased_steady (origin : Nat) (s : State) : Steady s (enterPhased origin s) :=
  (enterRegime_steady ..).trans ((admitQuietly_steady ..).trans (regimeStart_steady ..))

theorem generalSteps_steady (s : State) : Steady s (generalSteps s) :=
  ((bulkAdmission_steady s).trans (admitQuietly_steady ..)).trans ((liftLc_steady _ _).trans (liftDs_steady _ _))

theorem enterGeneral_steady (cause : RegimeCause) (s : State) : Steady s (enterGeneral cause s) := by
  unfold enterGeneral
  split
  · exact .refl s
  · exact (changeLevel_steady ..).trans (generalSteps_steady _)
  · exact (enterRegime_steady ..).trans (generalSteps_steady _)

theorem recordOrigin_steady (o : Nat) (s : State) : Steady s (recordOrigin o s) := .ite (modRc_steady _ s) (.refl s)

theorem originAt_steady (o : Nat) (s : State) : Steady s (originAt o s) := by
  have entry : Steady s (match (recordOrigin o s).rc.level with
      | .normal => enterPhased o (recordOrigin o s)
      | .phased => if takesOrigin s.rc.origins o then newOrigin o (recordOrigin o s) else recordOrigin o s
      | .general => recordOrigin o s) := by
    refine (recordOrigin_steady o s).trans ?_
    split
    · exact enterPhased_steady ..
    · exact .ite (newOrigin_steady ..) (.refl _)
    · exact .refl _
  exact .ite (entry.trans (enterGeneral_steady ..)) entry

theorem recallByZone_steady (z : Zone) (s : State) : Steady s (recallByZone z s) := liftLc_steady _ s

theorem confirmation_steady (z : Zone) (s : State) : Steady s (confirmation z s) := by
  unfold confirmation
  refine .ite ((recordOrigin_steady 0 s).trans (enterGeneral_steady ..)) ?_
  cases z.kind with
  | stairSmoke =>
    cases z.stair with
    | some i => exact (compromise_steady i s).trans (originAt_steady ..)
    | none => exact originAt_steady ..
  | generalKey => exact enterGeneral_steady ..
  | recallKey => exact recallByZone_steady z s
  | liftLobby | hoistway | machineRoom => exact (originAt_steady ..).trans (recallByZone_steady z _)
  | smoke | heat | manualCall | sprinklerFlow => exact originAt_steady ..

theorem clearance_steady (z : Zone) (s : State) : Steady s (clearance z s) := .ite (.refl s) (liftLc_steady _ s)

theorem moveAlarmCount_steady (change : Nat → Nat) (f : Nat) (s : State) : Steady s (moveAlarmCount change f s) := by
  unfold moveAlarmCount
  split
  · exact .refl s
  · exact .ite (modRc_steady _ s) (((modRc_steady _ s).trans (liftLc_steady _ _)).trans (reportFloor_steady ..))

theorem abandonReset_steady (s : State) : Steady s (abandonReset s) where
  links := (abandonReset_links_lines s).1
  lines := (abandonReset_links_lines s).2
  nodes := by rw [(abandonReset_blocks s).1]

theorem completeReset_steady (s : State) : Steady s (completeReset s) := by
  have ended := (modRc_steady (fun r => { r with resetPending := false }) s).trans
    (changeLevel_steady .normal .resetComplete _)
  have quiet := ended.trans (modRc_steady (fun r => { r.eachFloor quietFloor with origins := [] }) _)
  have cleared := quiet.trans (modEs_steady (fun x =>
    { x with waiting := [], advanceTimer := none, stairs := x.stairs.map clearedStair }) _)
  unfold completeReset
  exact ((cleared.trans (liftLc_steady _ _)).trans (liftDs_steady _ _)).trans (liftAr_steady _ _)

theorem testCompletion_steady (s : State) : Steady s (testCompletion s) := .ite (completeReset_steady s) (.refl s)

theorem riseNotice_steady (f : Nat) (s : State) : Steady s (riseNotice f s) :=
  ((abandonReset_steady s).trans (moveAlarmCount_steady ..)).trans (abortSession_steady _)

theorem fallNotice_steady (f : Nat) (s : State) : Steady s (fallNotice f s) :=
  (moveAlarmCount_steady ..).trans (testCompletion_steady _)

/-! ## The Zone Engine (chapter 02) -/

theorem putZone_steady (z : Zone) (s : State) : Steady s (s.modZe (ZE.putZone z)) := ⟨rfl, rfl, rfl⟩

theorem reportZone_steady (cls : Cls) (cause : ZoneCause) (z : Zone) (s : State) :
    Steady s (reportZone cls cause z s) := offer_steady ..

theorem zoneTrouble_steady (old new : Zone) (s : State) : Steady s (zoneTrouble old new s) :=
  .of_eq (zoneTrouble_ze ..) (zoneTrouble_zoneOnly ..).flc

theorem zoneNotices_steady (old new : Zone) (s : State) : Steady s (zoneNotices old new s) := by
  unfold zoneNotices
  split
  · exact .refl s
  · exact .refl s
  · exact riseNotice_steady ..
  · exact confirmation_steady ..
  · exact (riseNotice_steady ..).trans (confirmation_steady ..)
  · exact (clearance_steady ..).trans (fallNotice_steady ..)
  · exact fallNotice_steady ..
  · exact .refl s

theorem changeZone_steady (cls : Cls) (cause : ZoneCause) (old new : Zone) (s : State) :
    Steady s (changeZone cls cause old new s) :=
  (((putZone_steady _ s).trans (reportZone_steady ..)).trans (zoneNotices_steady ..)).trans (zoneTrouble_steady ..)

/-- R154: an action offered moves the action queue of a node alone. -/
theorem queueAction_steady (link : Line) (a : Action) (s : State) : Steady s (queueAction link a s) := by
  unfold queueAction
  split
  · refine modNode_steady (fun n => ?_) s
    split <;> rfl
  · exact .refl s

theorem offerReset_steady (z : Zone) (s : State) : Steady s (offerReset z s) := .ite (queueAction_steady ..) (.refl s)

theorem corroborateZone_steady (s : State) (z : Zone) : Steady s (corroborateZone s z) := by
  unfold corroborateZone
  split
  · exact .ite (changeZone_steady ..) (.refl s)
  · exact .refl s

theorem corroborate_steady (z : Zone) (s : State) : Steady s (corroborate z s) :=
  (changeZone_steady ..).trans (Steady.foldl corroborateZone_steady _ _)

theorem takeAlarm_steady (z : Zone) (s : State) : Steady s (takeAlarm z s) := by
  have begun : Steady s (if corroborated s.ze.zones z then corroborate z s else if z.verify then startWindow z s
      else changeZone .alarm .arrival z z.confirm s) :=
    .ite (corroborate_steady ..) (.ite ((changeZone_steady ..).trans (offerReset_steady ..)) (changeZone_steady ..))
  unfold takeAlarm
  cases z.state with
  | normal | unknown | trouble => exact begun
  | verifying => exact .ite (changeZone_steady ..) (.refl s)
  | confirmed | disabled => exact .refl s

theorem takeNormal_steady (z : Zone) (s : State) : Steady s (takeNormal z s) := by
  unfold takeNormal
  cases z.state with
  | unknown | trouble => exact changeZone_steady ..
  | verifying => exact putZone_steady _ s
  | confirmed => exact .ite (changeZone_steady ..) (.refl s)
  | normal | disabled => exact .refl s

theorem takeFault_steady (cause : ZoneCause) (z : Zone) (s : State) : Steady s (takeFault cause z s) := by
  unfold takeFault
  cases z.state with
  | normal | unknown => exact changeZone_steady ..
  | trouble | verifying | confirmed | disabled => exact .refl s

theorem takeInput_steady (cause : ZoneCause) (input : Input) (z : Zone) (s : State) :
    Steady s (takeInput cause input z s) := by
  refine (putZone_steady { z with lastInput := some input } s).trans ?_
  cases input with
  | alarm => exact takeAlarm_steady ..
  | normal => exact takeNormal_steady ..
  | fault => exact takeFault_steady ..

theorem makeZone_steady (link : Line) (number : Nat) (s : State) : Steady s (makeZone link number s) where
  links := by simp [makeZone]
  lines := by simp [makeZone]
  nodes := by simp [makeZone]

theorem confirmWithoutRecord_steady (link : Line) (number : Nat) (s : State) :
    Steady s (confirmWithoutRecord link number s) := by
  unfold confirmWithoutRecord
  exact Steady.trans (reportZone_steady ..) (confirmation_steady ..)

theorem arrive_steady (listed : Bool) (cause : ZoneCause) (link : Line) (number : Nat) (input : Input) (s : State) :
    Steady s (arrive listed cause link number input s) := by
  unfold arrive
  split
  · exact .ite (.refl s) (takeInput_steady ..)
  · exact .ite (.ite ((makeZone_steady ..).trans (takeInput_steady ..))
      (.ite (confirmWithoutRecord_steady ..) (.refl s))) (.refl s)

end Sys2Proof.Machine
end

section
/-!
Arrivals (R27 to R32) at a zone and elsewhere: what the zone of a key is after an input that it takes, and what is left of it
after an input that another zone takes.
-/

namespace Sys2Proof.Machine

/-! ## The zone of a key, arrivals elsewhere -/

/-- A zone after arrivals at other zones: its last input stays, and its state too, but that a VERIFYING zone may be confirmed
(R29). -/
structure Zone.Kept (z z' : Zone) : Prop where
  lastInput : z'.lastInput = z.lastInput
  state : z.state ≠ .verifying → z'.state = z.state

theorem Zone.Kept.refl (z : Zone) : z.Kept z := ⟨rfl, fun _ => rfl⟩

theorem Zone.Kept.trans {a b c : Zone} (h : a.Kept b) (k : b.Kept c) : a.Kept c :=
  ⟨k.lastInput.trans h.lastInput, fun ha => (k.state (by rw [h.state ha]; exact ha)).trans (h.state ha)⟩

theorem unmarked_kept (pending : Bool) (z : Zone) : z.Kept (unmarked pending z) := ⟨rfl, fun _ => rfl⟩

/-- The zone of the key stands as `z`, but for what arrivals at other zones do to it. -/
def StandsAs (k : Line) (n : Nat) (z : Zone) (x : ZE) : Prop := ∃ z', findZone x k n = some z' ∧ z.Kept z'

theorem StandsAs.of_found {k : Line} {n : Nat} {z : Zone} {x : ZE} (h : findZone x k n = some z) : StandsAs k n z x :=
  ⟨z, h, .refl z⟩

/-- A change that leaves whatever record stands at the key kept. -/
theorem StandsAs.of_kept {k : Line} {n : Nat} {z : Zone} {x y : ZE} (h : StandsAs k n z x)
    (hy : ∀ e, findZone x k n = some e → StandsAs k n e y) : StandsAs k n z y := by
  obtain ⟨e, he, hze⟩ := h
  obtain ⟨e', he', hk⟩ := hy e he
  exact ⟨e', he', hze.trans hk⟩

theorem StandsAs.unmark {k : Line} {n : Nat} {z : Zone} {x : ZE} (h : StandsAs k n z x) (b : Bool) :
    StandsAs k n z (x.unmark b) := by
  obtain ⟨z', hz', hkept⟩ := h
  exact ⟨unmarked b z', by rw [findZone_unmark, hz']; rfl, hkept.trans (unmarked_kept b z')⟩

/-- A zone table in which the same records are found. -/
theorem findZone_congr {x y : ZE} (h : y.zones = x.zones) (k : Line) (n : Nat) : findZone y k n = findZone x k n := by
  rw [findZone, findZone, h]

/-- The zone `z` has another key. -/
def Zone.Elsewhere (z : Zone) (k : Line) (n : Nat) : Prop := ¬ (z.link = k ∧ z.number = n)

theorem changeZone_elsewhere {cls : Cls} {cause : ZoneCause} {old new z : Zone} {k : Line} {n : Nat} {s : State}
    (hne : new.Elsewhere k n) (h : StandsAs k n z s.ze) : StandsAs k n z (changeZone cls cause old new s).ze := by
  obtain ⟨b, hze, -⟩ := changeZone_ze cls cause old new s
  rw [hze]
  refine StandsAs.unmark (h.of_kept fun e he => .of_found ?_) b
  rw [findZone_putZone_ne hne, he]

/-- A record put at its own key stands there after the notices. -/
theorem changeZone_own {cls : Cls} {cause : ZoneCause} {old new e : Zone} {s : State}
    (h : findZone s.ze new.link new.number = some e) :
    ∃ b, findZone (changeZone cls cause old new s).ze new.link new.number = some (unmarked b new) := by
  obtain ⟨b, hze, -⟩ := changeZone_ze cls cause old new s
  exact ⟨b, by rw [hze, findZone_unmark, findZone_putZone h]; rfl⟩

/-- R29: the corroboration of a VERIFYING zone, whatever its key. -/
theorem corroborateZone_standsAs {k : Line} {n : Nat} {z : Zone} {s : State} (h : StandsAs k n z s.ze) (y : Zone) :
    StandsAs k n z (corroborateZone s y).ze := by
  unfold corroborateZone
  split
  case h_2 => exact h
  case h_1 e he =>
    split
    case isFalse => exact h
    case isTrue hv =>
      obtain ⟨hlink, hnumber⟩ := findZone_key he
      rw [← hlink, ← hnumber] at he
      by_cases hkey : e.link = k ∧ e.number = n
      · obtain ⟨rfl, rfl⟩ := hkey
        obtain ⟨b, hown⟩ := changeZone_own (cls := .alarm) (cause := .corroborated) (old := e) (new := e.confirm) he
        refine h.of_kept fun e' he' => ?_
        obtain rfl : e = e' := Option.some.inj (he.symm.trans he')
        exact ⟨_, hown, rfl, fun hne => absurd hv hne⟩
      · exact changeZone_elsewhere hkey h

theorem corroborate_standsAs {k : Line} {n : Nat} {y z : Zone} {s : State}
    (h : StandsAs k n z (changeZone .alarm .corroborated y y.confirm s).ze) : StandsAs k n z (corroborate y s).ze :=
  foldl_keeps (P := fun t : State => StandsAs k n z t.ze) (fun _ y h => corroborateZone_standsAs h y) _ _ h

theorem corroborate_elsewhere {k : Line} {n : Nat} {y z : Zone} {s : State} (hne : y.Elsewhere k n)
    (h : StandsAs k n z s.ze) : StandsAs k n z (corroborate y s).ze :=
  corroborate_standsAs (changeZone_elsewhere (new := y.confirm) hne h)

@[simp] theorem offerReset_ze (z : Zone) (s : State) : (offerReset z s).ze = s.ze := by rw [offerReset_eq]

theorem takeAlarm_elsewhere {k : Line} {n : Nat} {y z : Zone} {s : State} (hne : y.Elsewhere k n)
    (h : StandsAs k n z s.ze) : StandsAs k n z (takeAlarm y s).ze := by
  have begun : StandsAs k n z (if corroborated s.ze.zones y then corroborate y s else if y.verify then startWindow y s
      else changeZone .alarm .arrival y y.confirm s).ze := by
    split
    · exact corroborate_elsewhere hne h
    · split
      · rw [startWindow, offerReset_ze]
        exact changeZone_elsewhere hne h
      · exact changeZone_elsewhere (new := y.confirm) hne h
  unfold takeAlarm
  cases y.state with
  | normal | unknown | trouble => exact begun
  | verifying =>
    dsimp only
    split
    · exact changeZone_elsewhere (new := y.confirm) hne h
    · exact h
  | confirmed | disabled => exact h

theorem putZone_elsewhere {k : Line} {n : Nat} {y z : Zone} {x : ZE} (hne : y.Elsewhere k n) (h : StandsAs k n z x) :
    StandsAs k n z (x.putZone y) :=
  h.of_kept fun e he => .of_found (by rw [findZone_putZone_ne hne, he])

theorem takeNormal_elsewhere {k : Line} {n : Nat} {y z : Zone} {s : State} (hne : y.Elsewhere k n)
    (h : StandsAs k n z s.ze) : StandsAs k n z (takeNormal y s).ze := by
  unfold takeNormal
  cases y.state with
  | unknown | trouble => exact changeZone_elsewhere hne h
  | verifying => exact putZone_elsewhere hne h
  | confirmed =>
    dsimp only
    split
    · exact changeZone_elsewhere hne h
    · exact h
  | normal | disabled => exact h

theorem takeFault_elsewhere {k : Line} {n : Nat} {y z : Zone} {s : State} (cause : ZoneCause) (hne : y.Elsewhere k n)
    (h : StandsAs k n z s.ze) : StandsAs k n z (takeFault cause y s).ze := by
  unfold takeFault
  cases y.state with
  | normal | unknown => exact changeZone_elsewhere hne h
  | trouble | verifying | confirmed | disabled => exact h

theorem takeInput_elsewhere {k : Line} {n : Nat} {y z : Zone} {s : State} (cause : ZoneCause) (input : Input)
    (hne : y.Elsewhere k n) (h : StandsAs k n z s.ze) : StandsAs k n z (takeInput cause input y s).ze := by
  have put : StandsAs k n z (s.modZe (ZE.putZone { y with lastInput := some input })).ze := putZone_elsewhere hne h
  cases input with
  | alarm => exact takeAlarm_elsewhere (y := { y with lastInput := some .alarm }) hne put
  | normal => exact takeNormal_elsewhere (y := { y with lastInput := some .normal }) hne put
  | fault => exact takeFault_elsewhere (y := { y with lastInput := some .fault }) cause hne put

/-- A record of another key that joins the table. -/
theorem findZone_insertBy_ne {y : Zone} {k : Line} {n : Nat} (hne : y.Elsewhere k n) (l : List Zone) :
    (insertBy Zone.key y l).find? (fun z => z.link = k && z.number = n) =
      l.find? (fun z => z.link = k && z.number = n) := by
  have hy (l : List Zone) : (y :: l).find? (fun z => z.link = k && z.number = n) =
      l.find? (fun z => z.link = k && z.number = n) :=
    List.find?_cons_of_neg (by simpa [Zone.Elsewhere] using hne)
  induction l with
  | nil => exact hy []
  | cons x xs ih =>
    unfold insertBy
    split
    · exact hy _
    · rw [List.find?_cons, List.find?_cons, ih]

/-- R24, R47: an arrival for another link or zone number. -/
theorem arrive_elsewhere {k k' : Line} {n n' : Nat} {z : Zone} {s : State} {listed : Bool} {cause : ZoneCause}
    {input : Input} (hne : ¬ (k' = k ∧ n' = n)) (h : StandsAs k n z s.ze) :
    StandsAs k n z (arrive listed cause k' n' input s).ze := by
  unfold arrive
  split
  case h_1 y hy =>
    obtain ⟨rfl, rfl⟩ := findZone_key hy
    split
    · exact h
    · exact takeInput_elsewhere cause input hne h
  case h_2 =>
    split
    case isFalse => exact h
    split
    · refine takeInput_elsewhere (y := madeZone k' n') cause input hne (h.of_kept fun e he => .of_found ?_)
      rw [makeZone, troubleMove_ze]
      exact (findZone_insertBy_ne (y := madeZone k' n') hne _).trans he
    · split
      · rw [confirmWithoutRecord, (confirmation_calm ..).ze, reportZone_ze]
        exact h
      · exact h

/-! ## The zone that takes the input -/

/-- A zone in NORMAL, UNKNOWN or TROUBLE. -/
def Zone.idle (z : Zone) : Prop := z.state = .normal ∨ z.state = .unknown ∨ z.state = .trouble

theorem Zone.Kept.idle {z z' : Zone} (h : z.Kept z') (hz : z.idle) : z'.idle := by
  have hv : z.state ≠ .verifying := by
    intro hv
    rw [Zone.idle, hv] at hz
    simp at hz
  rw [Zone.idle, h.state hv]
  exact hz

/-- R28, R31, R32: the state to which an input takes a zone in NORMAL, UNKNOWN or TROUBLE. -/
def heardState (x : ZE) (z : Zone) : Input → ZoneState
  | .alarm => (alarmed x z).state
  | .normal => .normal
  | .fault => .trouble

/-- The zone of the key has the last input `i`, and the state `st` where `p` holds. -/
def HasHeard (k : Line) (n : Nat) (i : Input) (p : Prop) (st : ZoneState) (x : ZE) : Prop :=
  ∃ z, findZone x k n = some z ∧ z.lastInput = some i ∧ (p → z.state = st)

theorem StandsAs.hasHeard {k : Line} {n : Nat} {z : Zone} {x : ZE} {i : Input} {p : Prop} {st : ZoneState}
    (h : StandsAs k n z x) (hi : z.lastInput = some i) (hv : p → z.state = st ∧ st ≠ .verifying) :
    HasHeard k n i p st x := by
  obtain ⟨z', hz', hkept⟩ := h
  refine ⟨z', hz', hkept.lastInput.trans hi, fun hp => ?_⟩
  obtain ⟨hstate, hne⟩ := hv hp
  rw [hkept.state (hstate ▸ hne), hstate]

theorem changeZone_hasHeard {cls : Cls} {cause : ZoneCause} {old new e : Zone} {s : State} {i : Input} {p : Prop}
    {st : ZoneState} (h : findZone s.ze new.link new.number = some e) (hi : new.lastInput = some i)
    (hst : p → new.state = st) :
    HasHeard new.link new.number i p st (changeZone cls cause old new s).ze := by
  obtain ⟨b, hown⟩ := changeZone_own (cls := cls) (cause := cause) (old := old) h
  exact ⟨_, hown, hi, hst⟩

theorem corroborate_hasHeard {z e : Zone} {s : State} {i : Input} {p : Prop}
    (h : findZone s.ze z.link z.number = some e) (hi : z.lastInput = some i) :
    HasHeard z.link z.number i p .confirmed (corroborate z s).ze := by
  obtain ⟨b, hown⟩ := changeZone_own (cls := .alarm) (cause := .corroborated) (old := z) (new := z.confirm) h
  exact StandsAs.hasHeard (corroborate_standsAs (.of_found hown)) hi fun _ => ⟨rfl, by decide⟩

theorem startWindow_ze (z : Zone) (s : State) :
    (startWindow z s).ze = (changeZone .routine .arrival z (z.verifyFor s.ze.window) s).ze := offerReset_ze ..

/-- R28, R30: an ALARM at the zone that takes it. -/
theorem takeAlarm_hasHeard {z : Zone} {s : State} {i : Input} (h : findZone s.ze z.link z.number = some z)
    (hi : z.lastInput = some i) :
    HasHeard z.link z.number i z.idle (alarmed s.ze z).state (takeAlarm z s).ze := by
  have begun : HasHeard z.link z.number i z.idle (alarmed s.ze z).state
      (if corroborated s.ze.zones z then corroborate z s else if z.verify then startWindow z s
        else changeZone .alarm .arrival z z.confirm s).ze := by
    cases hc : corroborated s.ze.zones z with
    | true =>
      have hto : alarmed s.ze z = z.confirm := if_neg (by simp [hc])
      rw [hto]
      exact corroborate_hasHeard h hi
    | false =>
      cases hv : z.verify with
      | true =>
        have hto : alarmed s.ze z = z.verifyFor s.ze.window := if_pos ⟨hv, hc⟩
        rw [hto, if_neg (by simp), if_pos rfl, startWindow_ze]
        exact changeZone_hasHeard (new := z.verifyFor s.ze.window) h hi fun _ => rfl
      | false =>
        have hto : alarmed s.ze z = z.confirm := if_neg (by simp [hv])
        rw [hto, if_neg (by simp), if_neg (by simp)]
        exact changeZone_hasHeard (new := z.confirm) h hi fun _ => rfl
  unfold takeAlarm
  cases hz : z.state with
  | normal | unknown | trouble => exact begun
  | verifying =>
    dsimp only
    split
    · exact changeZone_hasHeard (new := z.confirm) h hi fun hidle => by simp [Zone.idle, hz] at hidle
    · exact ⟨z, h, hi, fun hidle => by simp [Zone.idle, hz] at hidle⟩
  | confirmed | disabled => exact ⟨z, h, hi, fun hidle => by simp [Zone.idle, hz] at hidle⟩

/-- R31: a NORMAL at the zone that takes it. -/
theorem takeNormal_hasHeard {z : Zone} {s : State} {i : Input} (h : findZone s.ze z.link z.number = some z)
    (hi : z.lastInput = some i) : HasHeard z.link z.number i z.idle .normal (takeNormal z s).ze := by
  unfold takeNormal
  split
  case h_1 => exact changeZone_hasHeard (new := { z with state := .normal }) h hi fun _ => rfl
  case h_2 => exact changeZone_hasHeard (new := { z with state := .normal }) h hi fun _ => rfl
  case h_3 hz =>
    exact ⟨_, findZone_putZone (z := { z with window := z.window.map (fun w => { w with restoreSeen := true }) }) h, hi,
      fun hidle => by simp [Zone.idle, hz] at hidle⟩
  case h_4 hz =>
    split
    · exact changeZone_hasHeard (new := { z with state := .normal, clearOnRestore := false }) h hi fun _ => rfl
    · exact ⟨z, h, hi, fun hidle => by simp [Zone.idle, hz] at hidle⟩
  case h_5 hz => exact ⟨z, h, hi, fun _ => hz⟩
  case h_6 hz => exact ⟨z, h, hi, fun hidle => by simp [Zone.idle, hz] at hidle⟩

/-- R32: a FAULT at the zone that takes it. -/
theorem takeFault_hasHeard {z : Zone} {s : State} {i : Input} (cause : ZoneCause)
    (h : findZone s.ze z.link z.number = some z) (hi : z.lastInput = some i) :
    HasHeard z.link z.number i z.idle .trouble (takeFault cause z s).ze := by
  unfold takeFault
  cases hz : z.state with
  | normal | unknown => exact changeZone_hasHeard (new := { z with state := .trouble }) h hi fun _ => rfl
  | trouble => exact ⟨z, h, hi, fun _ => hz⟩
  | verifying | confirmed | disabled => exact ⟨z, h, hi, fun hidle => by simp [Zone.idle, hz] at hidle⟩

/-- R28: the input written first does not bear on what an ALARM makes of the zone. -/
theorem alarmed_putZone_state (x : ZE) (z : Zone) (i : Input) :
    (alarmed (x.putZone { z with lastInput := some i }) { z with lastInput := some i }).state = (alarmed x z).state := by
  have hcorr : corroborated (x.putZone { z with lastInput := some i }).zones { z with lastInput := some i } =
      corroborated x.zones z := corroborated_putZone (z := { z with lastInput := some i }) ⟨rfl, rfl⟩
  unfold alarmed
  rw [hcorr]
  split <;> rfl

/-- R27: an input at the zone that takes it: the last input, and the state of a zone that was NORMAL, UNKNOWN or TROUBLE. -/
theorem takeInput_hasHeard {z : Zone} {s : State} (cause : ZoneCause) (i : Input)
    (h : findZone s.ze z.link z.number = some z) :
    HasHeard z.link z.number i z.idle (heardState s.ze z i) (takeInput cause i z s).ze := by
  have put : findZone (s.modZe (ZE.putZone { z with lastInput := some i })).ze z.link z.number =
      some { z with lastInput := some i } := findZone_putZone (z := { z with lastInput := some i }) h
  cases i with
  | alarm =>
    have heard := takeAlarm_hasHeard (z := { z with lastInput := some .alarm }) put rfl
    rw [State.modZe_ze, alarmed_putZone_state] at heard
    exact heard
  | normal => exact takeNormal_hasHeard (z := { z with lastInput := some .normal }) put rfl
  | fault => exact takeFault_hasHeard (z := { z with lastInput := some .fault }) cause put rfl

/-- R27: an arrival that is not subject to the repeat test, at a configured zone. -/
theorem arrive_unlisted {k : Line} {n : Nat} {z : Zone} {s : State} (h : findZone s.ze k n = some z) (cause : ZoneCause)
    (i : Input) : arrive false cause k n i s = takeInput cause i z s := by
  simp [arrive, h]

/-- R27, R36: an arrival from a change list that is no repetition, at a configured zone. -/
theorem arrive_listed {k : Line} {n : Nat} {z : Zone} {s : State} (h : findZone s.ze k n = some z) (cause : ZoneCause)
    {i : Input} (hi : z.lastInput ≠ some i) : arrive true cause k n i s = takeInput cause i z s := by
  simp [arrive, h, hi]

/-! ## The local lines (R44) -/

theorem changedLine_eq (v : LineLevel) (x : LocalLine) :
    changedLine v x = if x.pin = v then x else { x with pin := v, debouncing := true } := rfl

/-- R44: the part with the level at line `n` delivered. -/
def delivered (n : Nat) (s : State) : State :=
  s.modZe (ZE.modLine n (fun x => { x with debouncing := false, delivered := some x.pin }))

theorem delivered_line {n : Nat} {s : State} {x : LocalLine} (h : s.ze.lines[n]? = some x) :
    (delivered n s).ze.lines[n]? = some { x with delivered := some x.pin, debouncing := false } := by
  simp [delivered, ZE.modLine, h]

theorem debounced_idle {n : Nat} {s : State} {x : LocalLine} (h : s.ze.lines[n]? = some x) (hd : x.debouncing = false) :
    debounced n s = s := by
  simp [debounced, h, hd]

theorem debounced_same {n : Nat} {s : State} {x : LocalLine} (h : s.ze.lines[n]? = some x) (hd : x.debouncing = true)
    (hp : x.delivered = some x.pin) : debounced n s = delivered n s := by
  simp [debounced, h, hd, hp, delivered]

theorem debounced_new {n : Nat} {s : State} {x : LocalLine} (h : s.ze.lines[n]? = some x) (hd : x.debouncing = true)
    (hp : x.delivered ≠ some x.pin) : debounced n s = arrive false .arrival .l n
      (lineInput ((findZone s.ze .l n).bind (·.polarity)) x.pin) (delivered n s) := by
  simp only [debounced, h, hd, hp, if_true, if_false]
  rfl

/-- R44: the input of a line by the polarity of its zone. -/
theorem lineInput_polarity {p : Option Polarity} {v : LineLevel} {i : Input}
    (h : ((p = some .alarmHigh ∧ v = .high ∨ p = some .alarmLow ∧ v = .low) ∧ i = .alarm) ∨
      ((p = some .alarmHigh ∧ v = .low ∨ p = some .alarmLow ∧ v = .high) ∧ i = .normal)) : lineInput p v = i := by
  obtain ⟨⟨rfl, rfl⟩ | ⟨rfl, rfl⟩, rfl⟩ | ⟨⟨rfl, rfl⟩ | ⟨rfl, rfl⟩, rfl⟩ := h <;> rfl

/-- R28: the state of `heardState` as the statement of R44 gives it, for an input other than FAULT. -/
theorem heardState_eq {x : ZE} {z : Zone} {i : Input} (h : i = .alarm ∨ i = .normal) : heardState x z i =
    if i = .normal then .normal
    else if z.verify = true ∧ corroborated x.zones z = false then .verifying else .confirmed := by
  obtain rfl | rfl := h
  · simp only [heardState, alarmed, reduceCtorEq, if_false]
    split <;> rfl
  · rfl

/-- Settles O34: a level stored, and a level delivered as the input of its zone. -/
theorem localLineRule : Obligations.LocalLineRule := by
  intro s n x hpower hx
  refine ⟨fun v => ?_, fun hd => ?_, fun hd => ?_⟩
  · obtain ⟨t, ht, hend⟩ := event_endsIn (fun s => s.modZe (ZE.modLine n.val (changedLine v))) hpower
    obtain ⟨hflc, har⟩ := hend.flc_ar rfl
    refine ⟨t, ht, ?_, by rw [hend.ze]; rfl, by rw [hend.ze]; rfl,
      hend.sameRegime_of rfl, hflc, hend.es, hend.lc, hend.ds, har, hend.cs⟩
    rw [hend.ze]
    simp [ZE.modLine, hx, changedLine_eq]
  all_goals obtain ⟨t, ht, hend⟩ := event_endsIn (debounced n.val) hpower
  · refine ⟨t, ht, ?_⟩
    have hline := delivered_line (s := { s with ev := Scratch.clear }) hx
    by_cases hp : x.delivered = some x.pin
    · rw [debounced_same (s := { s with ev := Scratch.clear }) hx hd hp] at hend
      refine ⟨by rw [hend.ze]; exact hline, fun _ => ⟨by rw [hend.ze]; rfl, hend.sameRegime_of rfl⟩,
        fun _ _ hne => absurd hp hne⟩
    · rw [debounced_new (s := { s with ev := Scratch.clear }) hx hd hp] at hend
      refine ⟨?_, fun hsame => absurd hsame hp, fun z i _ hz hi => ?_⟩
      · rw [hend.ze, (arrive_steady ..).lines]
        exact hline
      · have hfound : findZone (delivered n.val { s with ev := Scratch.clear }).ze .l n.val = some z := hz
        have hinput : lineInput ((findZone s.ze .l n.val).bind (·.polarity)) x.pin = i := by
          rw [hz]
          exact lineInput_polarity hi
        obtain ⟨hlink, hnumber⟩ := findZone_key hz
        have heard := takeInput_hasHeard (s := delivered n.val { s with ev := Scratch.clear }) (z := z) .arrival i
          (by rw [hlink, hnumber]; exact hfound)
        rw [hlink, hnumber] at heard
        obtain ⟨z', hz', hlast, hstate⟩ := heard
        refine ⟨z', ?_, hlast, fun hidle => (hstate hidle).trans (heardState_eq ?_)⟩
        · rw [hend.ze, hinput, arrive_unlisted hfound]
          exact hz'
        · obtain ⟨-, rfl⟩ | ⟨-, rfl⟩ := hi
          · exact .inl rfl
          · exact .inr rfl
  · refine ⟨t, ht, ?_⟩
    rw [debounced_idle (s := { s with ev := Scratch.clear }) hx hd] at hend
    exact hend.of_clear

end Sys2Proof.Machine
end

section
/-!
A valid reply (R150, R151): the slot ended, the content delivered, the node supervised (R158 to R160); and the change lists and
snapshots of the panels (R36, R39).
-/

namespace Sys2Proof.Machine

/-! ## The event of a valid reply -/

/-- R192: a reply row is the reception of its frame. -/
theorem exec_reply {i : Instr} {r : FieldReceipt} (h : fieldCommand i = some r) (s : State) :
    exec i s = event (receiveReply r.kind r.port r.address r.control r.payload) s := by
  unfold fieldCommand at h
  split at h
  case h_7 => nomatch h
  all_goals
    obtain rfl := Option.some.inj h
    rfl

/-- R150: a frame that passes every test is taken as a valid reply. -/
theorem ValidReply.receive {s u : State} {r : FieldReceipt} {sl : Slot} {v : FieldReply} (h : ValidReply s r sl v)
    (hu : u.flc = s.flc) :
    receiveReply r.kind r.port r.address r.control r.payload u = takeReply r.port sl v u := by
  simp [receiveReply, hu, h.slot, h.decodes, h.isOpen, h.address, h.control, h.answers]

/-- R151: the part with the slot ended and its node's image or action answered. -/
def slotAnswered (port : Line) (sl : Slot) (s : State) : State :=
  modNodeAt port sl.address (answeredNode sl.carried) (s.modFlc (endSlot port))

/-- R151: the part with a reply's content delivered to the owner. -/
def replyDelivered (port : Line) (sl : Slot) (r : FieldReply) (s : State) : State :=
  deliver port sl.address sl.carried r (slotAnswered port sl s)

/-- R151, R155, R158: the part with the node of a valid reply supervised. -/
def replySupervised (port : Line) (sl : Slot) (r : FieldReply) (s : State) : State :=
  modNodeAt port sl.address restRotation
    (supervise true port sl.address (modNodeAt port sl.address (sequenceNode sl.carried r) s))

theorem takeReply_eq (port : Line) (sl : Slot) (r : FieldReply) (s : State) :
    takeReply port sl r s = replySupervised port sl r (replyDelivered port sl r s) := rfl

/-- The state in which a reply row's own change begins. -/
abbrev State.cleared (s : State) : State := { s with ev := Scratch.clear }

/-- R151: a valid reply is delivered, its node supervised, and the event ended. -/
theorem ValidReply.exec_eq {i : Instr} {s : State} {r : FieldReceipt} {sl : Slot} {v : FieldReply}
    (hi : fieldCommand i = some r) (hpower : s.powered = true) (h : ValidReply s r sl v) :
    exec i s = .next (finish (orderLift s.sp.reports.length
      (replySupervised r.port sl v (replyDelivered r.port sl v s.cleared)))) := by
  rw [exec_reply hi, event_powered _ hpower, h.receive (u := s.cleared) rfl, takeReply_eq]

/-! ## Supervision -/

/-- A change of the field lines, the port, the trouble set and the links alone. -/
structure LinesOnly (s t : State) : Prop where
  regime : SameRegime s t
  zones : t.ze.zones = s.ze.zones
  lines : t.ze.lines = s.ze.lines
  es : t.es = s.es
  lc : t.lc = s.lc
  ds : t.ds = s.ds
  ar : t.ar = s.ar
  cs : t.cs = s.cs
  ev : t.ev = s.ev

theorem LinesOnly.refl (s : State) : LinesOnly s s := ⟨.refl s, rfl, rfl, rfl, rfl, rfl, rfl, rfl, rfl⟩

theorem LinesOnly.trans {a b c : State} (h : LinesOnly a b) (k : LinesOnly b c) : LinesOnly a c :=
  ⟨h.regime.trans k.regime, k.zones.trans h.zones, k.lines.trans h.lines, k.es.trans h.es, k.lc.trans h.lc,
    k.ds.trans h.ds, k.ar.trans h.ar, k.cs.trans h.cs, k.ev.trans h.ev⟩

theorem modFlc_linesOnly (f : FLC → FLC) (s : State) : LinesOnly s (s.modFlc f) :=
  ⟨⟨rfl, rfl, rfl, rfl, rfl, rfl, rfl, rfl⟩, rfl, rfl, rfl, rfl, rfl, rfl, rfl, rfl⟩

theorem modNodeAt_linesOnly (port : Line) (address : Nat) (f : Node → Node) (s : State) :
    LinesOnly s (modNodeAt port address f s) := modFlc_linesOnly _ s

theorem modLink_linesOnly (link : Line) (f : LinkRec → LinkRec) (s : State) :
    LinesOnly s (s.modZe (ZE.modLink link f)) := by
  cases link <;> exact ⟨⟨rfl, rfl, rfl, rfl, rfl, rfl, rfl, rfl⟩, rfl, rfl, rfl, rfl, rfl, rfl, rfl, rfl⟩

theorem troubleMove_linesOnly (src : Source) (rise : Bool) (s : State) : LinesOnly s (troubleMove src rise s) := by
  constructor
  case regime => constructor <;> simp
  all_goals simp

theorem reportNode_linesOnly (cls : Cls) (cause : NodeCause) (port : Line) (address : Nat) (s : State) :
    LinesOnly s (reportNode cls cause port address s) := by
  unfold reportNode
  split
  · constructor
    case regime => constructor <;> simp
    all_goals simp
  · exact .refl s

theorem offerSnapshot_linesOnly (link : Line) (s : State) : LinesOnly s (offerSnapshot link s) := by
  have queued : LinesOnly s (queueAction link .askSnapshot s) := by
    rw [queueAction_eq]
    exact modFlc_linesOnly (fun _ => (queueAction link .askSnapshot s).flc) s
  exact queued.trans (modLink_linesOnly ..)

theorem offerAgain_linesOnly (port : Line) (s : State) : LinesOnly s (offerAgain port s) := by
  unfold offerAgain
  split
  · exact offerSnapshot_linesOnly ..
  · exact .refl s

theorem slotAnswered_linesOnly (port : Line) (sl : Slot) (s : State) : LinesOnly s (slotAnswered port sl s) :=
  (modFlc_linesOnly _ s).trans (modNodeAt_linesOnly ..)

/-- A change of the lines with a NODE_UP told to the owner of the node in it. -/
def LinesUp (port : Line) (address : Nat) (s t : State) : Prop :=
  ∃ u, LinesOnly s u ∧ LinesOnly (tellUp port address u) t

/-- R160: the entry to LIVE. -/
theorem enterLive_linesUp (port : Line) (address : Nat) (s : State) :
    LinesUp port address s (enterLive port address s) := by
  unfold enterLive
  refine ⟨_, ?_, troubleMove_linesOnly ..⟩
  refine LinesOnly.trans ?_ (reportNode_linesOnly ..)
  split
  · exact (modNodeAt_linesOnly ..).trans (offerSnapshot_linesOnly ..)
  · exact modNodeAt_linesOnly ..

/-- R159: what a valid reply makes of its node's link state. -/
theorem stateAfterReply_cases (port : Line) (address : Nat) (n : Node) (s : State) :
    LinesOnly s (stateAfterReply port address n s) ∨ LinesUp port address s (stateAfterReply port address n s) := by
  unfold stateAfterReply
  cases n.link with
  | offline | lost => exact .inl (modNodeAt_linesOnly ..)
  | training =>
    dsimp only
    split
    · exact .inr (enterLive_linesUp ..)
    · exact .inl (.refl s)
  | live => exact .inl (.refl s)
  | suspect => exact .inl ((modNodeAt_linesOnly ..).trans (reportNode_linesOnly ..))

theorem LinesUp.within {port : Line} {address : Nat} {a b c d : State} (h : LinesOnly a b) (k : LinesUp port address b c)
    (l : LinesOnly c d) : LinesUp port address a d := by
  obtain ⟨u, hu, htold⟩ := k
  exact ⟨u, h.trans hu, htold.trans l⟩

/-- R158, R159: the supervision of a valid reply changes the lines alone, but for a NODE_UP. -/
theorem replySupervised_cases (port : Line) (sl : Slot) (r : FieldReply) (s : State) :
    LinesOnly s (replySupervised port sl r s) ∨ LinesUp port sl.address s (replySupervised port sl r s) := by
  have counted := (modNodeAt_linesOnly port sl.address (sequenceNode sl.carried r) s).trans
    (modNodeAt_linesOnly port sl.address countGood _)
  have rested := modNodeAt_linesOnly port sl.address restRotation
    (supervise true port sl.address (modNodeAt port sl.address (sequenceNode sl.carried r) s))
  unfold replySupervised
  unfold supervise at rested ⊢
  simp only [if_true] at rested ⊢
  split at rested
  · exact .inl (counted.trans rested)
  · obtain h | h := stateAfterReply_cases port sl.address _
      (modNodeAt port sl.address countGood (modNodeAt port sl.address (sequenceNode sl.carried r) s))
    · exact .inl ((counted.trans h).trans rested)
    · exact .inr (h.within counted rested)

/-- R38: for a panel's node even a NODE_UP changes the lines alone. -/
theorem replySupervised_panel (k : Fin 6) (sl : Slot) (r : FieldReply) (s : State) :
    LinesOnly s (replySupervised (.p k) sl r s) := by
  obtain h | ⟨u, hu, h⟩ := replySupervised_cases (.p k) sl r s
  · exact h
  · exact (hu.trans (modLink_linesOnly ..)).trans h

theorem findNode_modNode {x : FLC} {port : Line} {address : Nat} {f : Node → Node} {n : Node}
    (hf : ∀ n, (f n).port = n.port ∧ (f n).address = n.address) (h : findNode x.nodes port address = some n) :
    findNode (x.modNode port address f).nodes port address = some (f n) := by
  unfold findNode FLC.modNode mapIf at *
  dsimp only
  generalize x.nodes = l at h ⊢
  induction l with
  | nil => simp at h
  | cons y ys ih =>
    by_cases hy : y.port = port ∧ y.address = address
    · obtain rfl : y = n := by simpa [hy] using h
      simp [hy, hf]
    · rw [List.find?_cons_of_neg (by simpa using hy)] at h
      simpa [hy] using ih h

theorem sequenceNode_keeps_link (c : Carried) (r : FieldReply) (n : Node) : (sequenceNode c r n).link = n.link ∧
    (sequenceNode c r n).port = n.port ∧ (sequenceNode c r n).address = n.address := by
  unfold sequenceNode
  split <;> exact ⟨rfl, rfl, rfl⟩

/-- R159: a LIVE node stays LIVE at a valid reply, and nothing but the field lines changes. -/
theorem replySupervised_live {port : Line} {sl : Slot} {s : State} {n : Node} (r : FieldReply)
    (hn : findNode s.flc.nodes port sl.address = some n) (hl : n.link = .live) :
    ∃ x, replySupervised port sl r s = { s with flc := x } := by
  have sequenced := findNode_modNode (f := sequenceNode sl.carried r)
    (fun n => (sequenceNode_keeps_link sl.carried r n).2) hn
  have counted := findNode_modNode (f := countGood) (fun _ => ⟨rfl, rfl⟩) sequenced
  have hlink : (countGood (sequenceNode sl.carried r n)).link = .live := (sequenceNode_keeps_link sl.carried r n).1.trans hl
  have hsupervised : replySupervised port sl r s = modNodeAt port sl.address restRotation
      (modNodeAt port sl.address countGood (modNodeAt port sl.address (sequenceNode sl.carried r) s)) := by
    unfold replySupervised supervise
    simp only [modNodeAt, State.modFlc_flc, if_true, counted, stateAfterReply, hlink]
  exact ⟨_, hsupervised⟩

theorem answeredNode_bare (c : Carried) (n : Node) : (answeredNode c n).bare = n.bare := by
  unfold answeredNode
  split <;> rfl

theorem slotAnswered_steady (port : Line) (sl : Slot) (s : State) : Steady s (slotAnswered port sl s) :=
  Steady.trans (b := s.modFlc (endSlot port)) ⟨rfl, rfl, rfl⟩ (modNode_steady (answeredNode_bare sl.carried) _)

/-- A node that was LIVE is LIVE after a change that is steady. -/
theorem Steady.live {s t : State} (h : Steady s t) {port : Line} {address : Nat} {n : Node}
    (hn : Machine.findNode s.flc.nodes port address = some n) (hl : n.link = .live) :
    ∃ n', Machine.findNode t.flc.nodes port address = some n' ∧ n'.link = .live := by
  obtain ⟨n', hn', hbare⟩ := h.findNode hn
  exact ⟨n', hn', (congrArg Node.link hbare).trans hl⟩

/-! ## Change lists (R36) -/

/-- R36: the zone table after a change list of one entry. -/
theorem findZone_changes {k : Fin 6} {sl : Slot} {num : Nat} {i : Input} {z : Zone} {s : State}
    (hz : findZone s.ze (.p k) num = some z) (hi : z.lastInput ≠ some i) : ∃ u, u.ze.zones = s.ze.zones ∧
      ∀ m n, findZone (replySupervised (.p k) sl (.changes [(num, i)])
        (replyDelivered (.p k) sl (.changes [(num, i)]) s)).ze m n = findZone (takeInput .arrival i z u).ze m n := by
  have opened := slotAnswered_linesOnly (.p k) sl s
  refine ⟨slotAnswered (.p k) sl s, opened.zones, fun m n => ?_⟩
  have htaken : replyDelivered (.p k) sl (.changes [(num, i)]) s =
      offerAgain (.p k) (arrive true .arrival (.p k) num i (slotAnswered (.p k) sl s)) := rfl
  rw [findZone_congr (replySupervised_panel ..).zones, htaken, findZone_congr (offerAgain_linesOnly ..).zones,
    arrive_listed ((findZone_congr opened.zones ..).trans hz) _ hi]

/-- R31: a NORMAL at a VERIFYING zone. -/
theorem takeInput_normal_verifying {z : Zone} {w : Window} {s : State} (hv : z.state = .verifying) (hw : z.window = some w)
    (hz : findZone s.ze z.link z.number = some z) (cause : ZoneCause) :
    findZone (takeInput cause .normal z s).ze z.link z.number =
      some { z with lastInput := some .normal, window := some { w with restoreSeen := true } } := by
  have put : findZone (s.modZe (ZE.putZone { z with lastInput := some .normal })).ze z.link z.number =
      some { z with lastInput := some .normal } := findZone_putZone (z := { z with lastInput := some .normal }) hz
  have htaken : takeInput cause .normal z s = (s.modZe (ZE.putZone { z with lastInput := some .normal })).modZe
      (ZE.putZone { z with lastInput := some .normal, window := some { w with restoreSeen := true } }) := by
    simp [takeInput, takeNormal, hv, hw]
  rw [htaken]
  exact findZone_putZone (z := { z with lastInput := some .normal, window := some { w with restoreSeen := true } }) put

/-- Settles O52: the entry is an arrival at the zone that it names. -/
theorem changeListArrives : Obligations.ChangeListArrives := by
  intro s k a c num code sl z hpower hvalid hcode hz
  have hend := finish_orderLift_endsIn s.sp.reports.length
    (replySupervised (.p k) sl (.changes [(num.toNat, if code = 1 then .alarm else .normal)])
      (replyDelivered (.p k) sl (.changes [(num.toNat, if code = 1 then .alarm else .normal)]) s.cleared))
  have hexec := hvalid.exec_eq (i := .changes (.p k) a c [1, num, code]) rfl hpower
  obtain ⟨hlink, hnumber⟩ := findZone_key hz
  refine ⟨fun h1 hn hi hv => ⟨_, hexec, ?_⟩, fun w h0 hv hi hw => ⟨_, hexec, ?_⟩⟩
  · obtain ⟨u, hu, hzones⟩ := findZone_changes (sl := sl) (i := .alarm) (s := s.cleared) hz (by simp [hi])
    have hfound : findZone u.ze z.link z.number = some z := by
      rw [findZone_congr hu, hlink, hnumber]
      exact hz
    obtain ⟨z', hz', -, hstate⟩ := takeInput_hasHeard .arrival .alarm hfound
    rw [hend.ze, if_pos h1, hzones, ← hlink, ← hnumber, hz', Option.map_some, hstate (.inl hn)]
    simp [heardState, alarmed, hv, Zone.confirm]
  · obtain ⟨u, hu, hzones⟩ := findZone_changes (sl := sl) (i := .normal) (s := s.cleared) hz hi
    have hfound : findZone u.ze z.link z.number = some z := by
      rw [findZone_congr hu, hlink, hnumber]
      exact hz
    have hne : ¬ code = 1 := by rw [h0]; decide
    rw [hend.ze, if_neg hne, hzones, ← hlink, ← hnumber]
    exact takeInput_normal_verifying hv hw hfound .arrival

/-! ## Snapshots (R39) -/

/-- What holds after a list once one of its elements hits, and stays to its end. -/
theorem foldl_reaches {α β : Type} {P Q : β → Prop} {op : β → α → β} {hit : α → Prop} {l : List α}
    (reach : ∀ b, ∀ a ∈ l, hit a → P b → Q (op b a)) (wait : ∀ b, ∀ a ∈ l, ¬ hit a → P b → P (op b a))
    (stay : ∀ b, ∀ a ∈ l, Q b → Q (op b a)) (hmem : ∃ a ∈ l, hit a) {b : β} (hb : P b) : Q (l.foldl op b) := by
  have stays (l' : List α) (hsub : l' ⊆ l) (c : β) (hc : Q c) : Q (l'.foldl op c) := by
    induction l' generalizing c with
    | nil => exact hc
    | cons a l' ih =>
      exact ih (fun x hx => hsub (List.mem_cons_of_mem a hx)) _ (stay c a (hsub List.mem_cons_self) hc)
  have reaches (l' : List α) (hsub : l' ⊆ l) (hmem : ∃ a ∈ l', hit a) (c : β) (hc : P c) : Q (l'.foldl op c) := by
    induction l' generalizing c with
    | nil =>
      obtain ⟨a, ha, -⟩ := hmem
      nomatch ha
    | cons a l' ih =>
      have ha := hsub List.mem_cons_self
      have hrest : l' ⊆ l := fun x hx => hsub (List.mem_cons_of_mem a hx)
      by_cases hhit : hit a
      · exact stays l' hrest _ (reach c a ha hhit hc)
      · obtain ⟨x, hx, hxhit⟩ := hmem
        have hx' : x ∈ l' := (List.mem_cons.mp hx).resolve_left fun hxa => hhit (hxa ▸ hxhit)
        exact ih hrest ⟨x, hx', hxhit⟩ _ (wait c a ha hhit hc)
  exact reaches l (List.Subset.refl l) hmem b hb

/-- R192: a snapshot lists a zone with one input. -/
theorem snapshotEntries_unique {p : List Byte} {n : Nat} {x y : Input} (hx : (n, x) ∈ snapshotEntries p)
    (hy : (n, y) ∈ snapshotEntries p) : y = x := by
  have listed {i : Input} (h : (n, i) ∈ snapshotEntries p) : inputs[twoBits p n]? = some i := by
    obtain ⟨m, -, hm⟩ := List.mem_filterMap.mp h
    obtain ⟨j, hj, hpair⟩ := Option.map_eq_some_iff.mp hm
    obtain ⟨rfl, rfl⟩ := Prod.mk.inj hpair
    exact hj
  exact Option.some.inj ((listed hy).symm.trans (listed hx))

theorem decodeReply_snapshot {p : List Byte} {es : List (Nat × Input)}
    (h : decodeReply 0x43#8 p = some (.snapshot es)) : es = snapshotEntries p := by
  have hdecode : decodeReply 0x43#8 p = decodeSnapshot p := rfl
  rw [hdecode, decodeSnapshot] at h
  split at h
  · exact (FieldReply.snapshot.inj (Option.some.inj h)).symm
  · nomatch h

/-- R39: the state of a zone, NORMAL, UNKNOWN or TROUBLE before, that is listed as NORMAL or FAULT. -/
def HeardAs (k : Line) (n : Nat) (i : Input) (z : Zone) (x : ZE) : Prop :=
  ∃ z', findZone x k n = some z' ∧ z'.lastInput = some i ∧
    (z.idle → (i = .normal → z'.state = .normal) ∧ (i = .fault → z'.state = .trouble))

/-- R27: an arrival at a zone that still stands in NORMAL, UNKNOWN or TROUBLE if it did. -/
theorem arrive_heardAs {k : Line} {n : Nat} {z z1 : Zone} {s : State} (hz1 : findZone s.ze k n = some z1)
    (cause : ZoneCause) {i : Input} (hidle : z.idle → i ≠ .alarm → z1.idle) :
    HeardAs k n i z (arrive false cause k n i s).ze := by
  obtain ⟨rfl, rfl⟩ := findZone_key hz1
  obtain ⟨z', hz', hlast, hstate⟩ := takeInput_hasHeard cause i hz1
  rw [arrive_unlisted hz1]
  refine ⟨z', hz', hlast, fun hz => ⟨fun hi => ?_, fun hi => ?_⟩⟩
  · subst hi
    exact hstate (hidle hz (by decide))
  · subst hi
    exact hstate (hidle hz (by decide))

theorem HeardAs.idle {k : Line} {n : Nat} {i : Input} {z : Zone} {x : ZE} (h : HeardAs k n i z x) :
    ∃ z1, findZone x k n = some z1 ∧ (z.idle → i ≠ .alarm → z1.idle) := by
  obtain ⟨z1, hz1, -, hstate⟩ := h
  refine ⟨z1, hz1, fun hz hi => ?_⟩
  cases i with
  | normal => exact .inl ((hstate hz).1 rfl)
  | alarm => exact absurd rfl hi
  | fault => exact .inr (.inr ((hstate hz).2 rfl))

theorem HeardAs.arrive_elsewhere {k k' : Line} {n n' : Nat} {i j : Input} {z : Zone} {s : State} {cause : ZoneCause}
    (hne : ¬ (k' = k ∧ n' = n)) (h : HeardAs k n i z s.ze) : HeardAs k n i z (arrive false cause k' n' j s).ze := by
  obtain ⟨z1, hz1, hlast, hstate⟩ := h
  obtain ⟨z2, hz2, hkept⟩ := Machine.arrive_elsewhere (listed := false) (cause := cause) (input := j) hne
    (StandsAs.of_found hz1)
  refine ⟨z2, hz2, hkept.lastInput.trans hlast, fun hz => ⟨fun hi => ?_, fun hi => ?_⟩⟩
  · have h1 := (hstate hz).1 hi
    rw [hkept.state (by rw [h1]; decide), h1]
  · have h1 := (hstate hz).2 hi
    rw [hkept.state (by rw [h1]; decide), h1]

theorem StandsAs.idle {k : Line} {n : Nat} {z : Zone} {x : ZE} (h : StandsAs k n z x) :
    ∃ z1, findZone x k n = some z1 ∧ (z.idle → z1.idle) := by
  obtain ⟨z1, hz1, hkept⟩ := h
  exact ⟨z1, hz1, hkept.idle⟩

/-- R39: the part with the link's snapshot no longer owed. -/
def snapshotTaken (link : Line) (s : State) : State := s.modZe (ZE.modLink link (fun l => { l with snapshotOwed := false }))

/-- R39: the first pass, over the listed zones. -/
def listedPass (link : Line) (es : List (Nat × Input)) (s : State) : State :=
  es.foldl (fun b e => arrive false .arrival link e.1 e.2 b) s

/-- R39: the second pass, over the zones of the link that are not listed. -/
def missingPass (link : Line) (es : List (Nat × Input)) (s : State) : State :=
  (s.ze.zones.filter (fun z => z.link = link && !es.any (fun e => e.1 = z.number))).foldl
    (fun b z => arrive false .snapshotMissing link z.number .fault b) s

theorem takeSnapshot_eq (link : Line) (es : List (Nat × Input)) (s : State) :
    takeSnapshot link es s = missingPass link es (listedPass link es (snapshotTaken link s)) := rfl

theorem listedPass_heardAs {link : Line} {es : List (Nat × Input)} {n : Nat} {x : Input} {z : Zone} {s : State}
    (hx : (n, x) ∈ es) (honce : ∀ y, (n, y) ∈ es → y = x) (hz : StandsAs link n z s.ze) :
    HeardAs link n x z (listedPass link es s).ze := by
  refine foldl_reaches (P := fun t : State => StandsAs link n z t.ze) (Q := fun t : State => HeardAs link n x z t.ze)
    (hit := fun e : Nat × Input => e.1 = n) ?_ ?_ ?_ ⟨(n, x), hx, rfl⟩ hz
  · rintro t ⟨m, y⟩ he rfl ht
    obtain rfl := honce y he
    obtain ⟨z1, hz1, hidle⟩ := ht.idle
    exact arrive_heardAs hz1 .arrival fun h _ => hidle h
  · intro t e _ hne ht
    exact arrive_elsewhere (fun h => hne h.2) ht
  · rintro t ⟨m, y⟩ he ht
    by_cases hm : m = n
    · subst hm
      obtain rfl := honce y he
      obtain ⟨z1, hz1, hidle⟩ := ht.idle
      exact arrive_heardAs hz1 .arrival hidle
    · exact ht.arrive_elsewhere fun h => hm h.2

theorem listedPass_standsAs {link : Line} {es : List (Nat × Input)} {n : Nat} {z : Zone} {s : State}
    (hnot : ∀ e ∈ es, e.1 ≠ n) (hz : StandsAs link n z s.ze) : StandsAs link n z (listedPass link es s).ze := by
  unfold listedPass
  induction es generalizing s with
  | nil => exact hz
  | cons e es ih =>
    exact ih (fun e he => hnot e (List.mem_cons_of_mem _ he))
      (arrive_elsewhere (fun h => hnot e List.mem_cons_self h.2) hz)

theorem missingPass_listed {link : Line} {es : List (Nat × Input)} {n : Nat} {x : Input} {z : Zone} {s : State}
    (hx : (n, x) ∈ es) (h : HeardAs link n x z s.ze) : HeardAs link n x z (missingPass link es s).ze := by
  have others : ∀ y ∈ s.ze.zones.filter (fun z => z.link = link && !es.any (fun e => e.1 = z.number)), y.number ≠ n := by
    intro y hy hn
    simp only [List.mem_filter, Bool.and_eq_true, Bool.not_eq_true', List.any_eq_false, decide_eq_true_eq] at hy
    exact hy.2.2 (n, x) hx hn.symm
  unfold missingPass
  generalize s.ze.zones.filter (fun z => z.link = link && !es.any (fun e => e.1 = z.number)) = l at others ⊢
  induction l generalizing s with
  | nil => exact h
  | cons y l ih =>
    exact ih (h.arrive_elsewhere fun hkey => others y List.mem_cons_self hkey.2)
      fun y hy => others y (List.mem_cons_of_mem _ hy)

theorem missingPass_missing {link : Line} {es : List (Nat × Input)} {n : Nat} {z : Zone} {s : State}
    (hnot : ∀ e ∈ es, e.1 ≠ n) (h : StandsAs link n z s.ze) : HeardAs link n .fault z (missingPass link es s).ze := by
  obtain ⟨z1, hz1, -⟩ := h.idle
  obtain ⟨hlink, hnumber⟩ := findZone_key hz1
  refine foldl_reaches (P := fun t : State => StandsAs link n z t.ze) (Q := fun t : State => HeardAs link n .fault z t.ze)
    (hit := fun y : Zone => y.number = n) ?_ ?_ ?_ ⟨z1, ?_, hnumber⟩ h
  · rintro t y - rfl ht
    obtain ⟨z2, hz2, hidle⟩ := ht.idle
    exact arrive_heardAs hz2 .snapshotMissing fun h _ => hidle h
  · intro t y _ hne ht
    exact arrive_elsewhere (fun hkey => hne hkey.2) ht
  · rintro t y - ht
    by_cases hy : y.number = n
    · subst hy
      obtain ⟨z2, hz2, hidle⟩ := ht.idle
      exact arrive_heardAs hz2 .snapshotMissing hidle
    · exact ht.arrive_elsewhere fun hkey => hy hkey.2
  · have hunlisted : ∀ e ∈ es, ¬ e.1 = z1.number := fun e he => hnumber ▸ hnot e he
    simpa [hlink] using ⟨findZone_mem hz1, fun a b hab => hunlisted (a, b) hab⟩

/-- R39: a zone of the link after both passes. -/
theorem takeSnapshot_heardAs {link : Line} {es : List (Nat × Input)} {n : Nat} {x : Input} {z : Zone} {s : State}
    (hz : findZone s.ze link n = some z) (honce : ∀ y, (n, x) ∈ es → (n, y) ∈ es → y = x)
    (hx : (n, x) ∈ es ∨ (∀ e ∈ es, e.1 ≠ n) ∧ x = .fault) : HeardAs link n x z (takeSnapshot link es s).ze := by
  have hstart : StandsAs link n z (snapshotTaken link s).ze :=
    .of_found ((findZone_congr (modLink_linesOnly ..).zones ..).trans hz)
  rw [takeSnapshot_eq]
  obtain hx | ⟨hnot, rfl⟩ := hx
  · exact missingPass_listed hx (listedPass_heardAs hx (fun y => honce y hx) hstart)
  · exact missingPass_missing hnot (listedPass_standsAs hnot hstart)

/-- R39: the passes leave the links as they are and the panel's node LIVE. -/
theorem takeSnapshot_steady (link : Line) (es : List (Nat × Input)) (s : State) :
    Steady (snapshotTaken link s) (takeSnapshot link es s) :=
  (Steady.foldl (op := fun b (e : Nat × Input) => arrive false .arrival link e.1 e.2 b)
    (fun b e => arrive_steady false .arrival link e.1 e.2 b) es _).trans
    (Steady.foldl (op := fun b (z : Zone) => arrive false .snapshotMissing link z.number .fault b)
      (fun b z => arrive_steady false .snapshotMissing link z.number .fault b) _ _)

/-- R39: a snapshot clears the link's mark. -/
theorem takeSnapshot_owed (k : Fin 6) (es : List (Nat × Input)) (s : State) :
    (linkRec (takeSnapshot (.p k) es s).ze (.p k)).snapshotOwed = false := by
  simp only [linkRec, (takeSnapshot_steady (.p k) es s).links]
  simp only [snapshotTaken, State.modZe_ze, ZE.modLink, List.getElem?_modify_eq]
  cases s.ze.links[k.val]? <;> rfl

theorem replyDelivered_snapshot (k : Fin 6) (sl : Slot) (es : List (Nat × Input)) (s : State) :
    replyDelivered (.p k) sl (.snapshot es) s = takeSnapshot (.p k) es (slotAnswered (.p k) sl s) := by
  have howed := takeSnapshot_owed k es (slotAnswered (.p k) sl s)
  change offerAgain (.p k) (takeSnapshot (.p k) es (slotAnswered (.p k) sl s)) = _
  rw [offerAgain, howed]
  rfl

/-- R39, R151: a snapshot delivered: the zones of its link, and the mark of a LIVE panel's link. -/
theorem snapshotDelivers (s : State) (k : Fin 6) (a c : Byte) (p : List Byte) (sl : Slot) (es : List (Nat × Input))
    (n : Node) (hpower : s.powered = true) (hvalid : ValidReply s ⟨.p k, a, 0x43#8, c, p⟩ sl (.snapshot es))
    (hn : findNode s.flc.nodes (.p k) sl.address = some n) :
    ∃ t, exec (.snapshot (.p k) a c p) s = .next t ∧
      (n.link = .live → (linkRec t.ze (.p k)).snapshotOwed = false) ∧
      ∀ (num : Nat) (z : Zone) (x : Input), findZone s.ze (.p k) num = some z →
        ((num, x) ∈ es ∨ ((∀ e ∈ es, e.1 ≠ num) ∧ x = .fault)) → HeardAs (.p k) num x z t.ze := by
  have hend := finish_orderLift_endsIn s.sp.reports.length
    (replySupervised (.p k) sl (.snapshot es) (replyDelivered (.p k) sl (.snapshot es) s.cleared))
  have hdelivered := replyDelivered_snapshot k sl es s.cleared
  refine ⟨_, hvalid.exec_eq (i := .snapshot (.p k) a c p) rfl hpower, fun hl => ?_, fun num z x hz hx => ?_⟩
  · obtain ⟨n1, hn1, hl1⟩ := (slotAnswered_steady (.p k) sl s.cleared).live hn hl
    obtain ⟨n2, hn2, hl2⟩ := (takeSnapshot_steady (.p k) es (slotAnswered (.p k) sl s.cleared)).live hn1 hl1
    obtain ⟨y, hy⟩ := replySupervised_live (s := replyDelivered (.p k) sl (.snapshot es) s.cleared) (.snapshot es)
      (by rw [hdelivered]; exact hn2) hl2
    rw [hend.ze, hy, hdelivered]
    exact takeSnapshot_owed ..
  · have hentries := decodeReply_snapshot hvalid.decodes
    have honce : ∀ y, (num, x) ∈ es → (num, y) ∈ es → y = x := by
      rw [hentries]
      exact fun y => snapshotEntries_unique
    have heard := takeSnapshot_heardAs (s := slotAnswered (.p k) sl s.cleared)
      ((findZone_congr (slotAnswered_linesOnly ..).zones ..).trans hz) honce hx
    rw [hend.ze, HeardAs, findZone_congr (replySupervised_panel ..).zones, hdelivered]
    exact heard

end Sys2Proof.Machine
end

section
/-!
The Lift Coordinator in the course of a reply (R76 to R99): what its operations leave of the cars and groups, and what each of
them makes of the car that it is made on.
-/

namespace Sys2Proof.Machine

/-! ## Cars by number and by place -/

theorem findCar_mem {x : LC} {n : Nat} {c : Car} (h : findCar x n = some c) : c ∈ x.cars ∧ c.number = n :=
  ⟨List.mem_of_find?_eq_some h, by simpa using List.find?_some h⟩

/-- The car of a group that stands at a place. -/
def carAt (x : LC) (g p : Nat) : Option Car := x.cars.find? (fun c => c.group = g && c.place = p)

theorem carAt_mem {x : LC} {g p : Nat} {c : Car} (h : carAt x g p = some c) :
    c ∈ x.cars ∧ c.group = g ∧ c.place = p := by
  refine ⟨List.mem_of_find?_eq_some h, ?_⟩
  simpa using List.find?_some h

/-- Car numbers are each given once. -/
def LC.Distinct (x : LC) : Prop := (x.cars.map (·.number)).Nodup

theorem LC.Distinct.eq {x : LC} (h : x.Distinct) {c e : Car} (hc : c ∈ x.cars) (he : e ∈ x.cars)
    (hn : e.number = c.number) : e = c := List.inj_on_of_nodup_map h he hc hn

theorem findCar_of_mem {x : LC} (h : x.Distinct) {c : Car} (hc : c ∈ x.cars) : findCar x c.number = some c := by
  obtain ⟨e, he⟩ : ∃ e, findCar x c.number = some e := by
    rw [← Option.isSome_iff_exists, findCar, List.find?_isSome]
    exact ⟨c, hc, by simp⟩
  obtain ⟨hmem, hnumber⟩ := findCar_mem he
  rw [he, h.eq hc hmem hnumber]

/-! ## What the operations do to the record -/

@[simp] theorem LAcc.putCar_cars (c : Car) (a : LAcc) :
    (a.putCar c).st.cars = mapIf (fun e => e.number = c.number) (fun _ => c) a.st.cars := rfl

theorem LAcc.replaceCar_st (env : LEnv) (old new : Car) (a : LAcc) :
    (a.replaceCar env old new).st = (a.putCar new).st := by
  simp [LAcc.replaceCar]

/-- R82: the car after a command. -/
def commanded (service : Service) (cmd : Command) (c : Car) : Car :=
  { c with service := service, image := some cmd, cmdState := .sent, attempts := 0, retry := none }

theorem LAcc.command_st (env : LEnv) (g : Group) (service : Service) (cmd : Command) (c : Car) (a : LAcc) :
    (a.command env g service cmd c).st = (a.putCar (commanded service cmd c)).st := by
  rw [LAcc.command, LAcc.tell_st, LAcc.replaceCar_st]
  rfl

theorem LAcc.fail_st (env : LEnv) (g : Group) (c : Car) (a : LAcc) : (a.fail env g c).st =
    (a.putCar { c with service := .recallFailed, cmdState := .failed, retry := none }).st := by
  rw [LAcc.fail, LAcc.tell_st, LAcc.replaceCar_st]

theorem LAcc.uncommand_st (env : LEnv) (g : Group) (service : Service) (c : Car) (a : LAcc) :
    (a.uncommand env g service c).st = (a.putCar
      { c with service := service, image := none, cmdState := .none, attempts := 0, retry := none }).st := by
  rw [LAcc.uncommand, LAcc.tellIf_st, LAcc.replaceCar_st]

theorem LAcc.putCar_mem {c c' : Car} {a : LAcc} (hc : c ∈ a.st.cars) (hn : c'.number = c.number) :
    c' ∈ (a.putCar c').st.cars := List.mem_map.mpr ⟨c, hc, by simp [hn]⟩

/-- A car put in the place of one that the table holds is found by its number. -/
theorem LAcc.findCar_putCar {c c' : Car} {a : LAcc} (hc : c ∈ a.st.cars) (hn : c'.number = c.number) :
    findCar (a.putCar c').st c.number = some c' := by
  have hmem := LAcc.putCar_mem hc hn
  obtain ⟨e, he⟩ : ∃ e, findCar (a.putCar c').st c.number = some e := by
    rw [← Option.isSome_iff_exists, findCar, List.find?_isSome]
    exact ⟨c', hmem, by simp [hn]⟩
  obtain ⟨hmem', hnumber⟩ := findCar_mem he
  obtain ⟨x, -, rfl⟩ := List.mem_map.mp hmem'
  rw [he]
  by_cases hx : x.number = c'.number
  · simp [hx]
  · simp only [hx, decide_false, Bool.false_eq_true, if_false] at hnumber
    exact absurd (hnumber.trans hn.symm) hx

/-! ## What stays: numbers, places, caches, maps and echoes -/

/-- Which car it is, where it stands, and its position cache. -/
def Car.seat (c : Car) : Nat × Nat × Nat × Option Cache := (c.number, c.group, c.place, c.cache)

/-- Which group it is, its landing map, and the last echoed mask. -/
def Group.seat (g : Group) : Nat × List (Option Nat) × Option LandingMask := (g.number, g.map, g.echo)

/-- The groups keep their maps and echoes, and the cars, where their numbers are distinct, their places and caches. -/
structure LC.Seated (x y : LC) : Prop where
  cars : x.Distinct → y.cars.map Car.seat = x.cars.map Car.seat
  groups : y.groups.map Group.seat = x.groups.map Group.seat

theorem LC.Seated.refl (x : LC) : x.Seated x := ⟨fun _ => rfl, rfl⟩

theorem numbers_eq_of_seats {x y : LC} (h : y.cars.map Car.seat = x.cars.map Car.seat) :
    y.cars.map (·.number) = x.cars.map (·.number) := by
  have hnumber : (fun c : Car => c.number) = Prod.fst ∘ Car.seat := rfl
  rw [hnumber, ← List.map_map, h, List.map_map]

theorem LC.Seated.distinct {x y : LC} (h : x.Seated y) (hx : x.Distinct) : y.Distinct := by
  rw [LC.Distinct, numbers_eq_of_seats (h.cars hx)]
  exact hx

theorem LC.Seated.trans {x y z : LC} (h : x.Seated y) (k : y.Seated z) : x.Seated z :=
  ⟨fun hx => (k.cars (h.distinct hx)).trans (h.cars hx), k.groups.trans h.groups⟩

theorem LC.Seated.carAt {x y : LC} (h : x.Seated y) (hx : x.Distinct) (g p : Nat) :
    (carAt y g p).map Car.seat = (carAt x g p).map Car.seat := by
  have key (z : LC) : (Machine.carAt z g p).map Car.seat =
      (z.cars.map Car.seat).find? (fun e => e.2.1 = g && e.2.2.1 = p) := by
    rw [Machine.carAt, List.find?_map]
    rfl
  rw [key, key, h.cars hx]

theorem findGroup_seat (x : LC) (n : Nat) :
    (findGroup x n).map Group.seat = (x.groups.map Group.seat).find? (fun e => e.1 = n) := by
  rw [findGroup, List.find?_map]
  rfl

theorem LC.Seated.findGroup {x y : LC} (h : x.Seated y) (n : Nat) :
    (findGroup y n).map Group.seat = (findGroup x n).map Group.seat := by
  rw [findGroup_seat, findGroup_seat, h.groups]

theorem LAcc.putCar_seated {old new : Car} {a : LAcc} (h : old ∈ a.st.cars) (hs : new.seat = old.seat) :
    a.st.Seated (a.putCar new).st := by
  refine ⟨fun hx => ?_, rfl⟩
  rw [LAcc.putCar_cars, mapIf, List.map_map]
  refine List.map_congr_left fun e he => ?_
  have hnumber : new.number = old.number := congrArg Prod.fst hs
  by_cases hn : e.number = new.number
  · obtain rfl := hx.eq h he (hn.trans hnumber)
    simp [hn, hs]
  · simp [hn]

theorem LAcc.modGroup_seated {n : Nat} {f : Group → Group} (h : ∀ g, (f g).seat = g.seat) (a : LAcc) :
    a.st.Seated (a.modGroup n f).st := ⟨fun _ => rfl, map_mapIf _ _ _ h _⟩

theorem LAcc.replaceCar_seated {env : LEnv} {old new : Car} {a : LAcc} (h : old ∈ a.st.cars)
    (hs : new.seat = old.seat) : a.st.Seated (a.replaceCar env old new).st := by
  rw [LAcc.replaceCar_st]
  exact LAcc.putCar_seated h hs

theorem LAcc.command_seated {env : LEnv} {g : Group} {service : Service} {cmd : Command} {c : Car} {a : LAcc}
    (h : c ∈ a.st.cars) : a.st.Seated (a.command env g service cmd c).st := by
  rw [LAcc.command_st]
  exact LAcc.putCar_seated h rfl

theorem LAcc.uncommand_seated {env : LEnv} {g : Group} {service : Service} {c : Car} {a : LAcc} (h : c ∈ a.st.cars) :
    a.st.Seated (a.uncommand env g service c).st := by
  rw [LAcc.uncommand_st]
  exact LAcc.putCar_seated h rfl

theorem LAcc.recallCar_seated (env : LEnv) (a : LAcc) (n : Nat) : a.st.Seated (a.recallCar env n).st := by
  unfold LAcc.recallCar
  split
  case h_1 => exact .refl _
  case h_2 c hc =>
    obtain ⟨hmem, -⟩ := findCar_mem hc
    split
    · exact .refl _
    · split
      · exact LAcc.command_seated hmem
      · dsimp only
        split
        · exact LAcc.replaceCar_seated hmem rfl
        · exact LAcc.command_seated hmem

theorem LAcc.releaseCar_seated (env : LEnv) (a : LAcc) (n : Nat) : a.st.Seated (a.releaseCar env n).st := by
  unfold LAcc.releaseCar
  split
  case h_1 => exact .refl _
  case h_2 c hc =>
    split
    · exact .refl _
    · exact LAcc.command_seated (findCar_mem hc).1

theorem LAcc.foldl_seated {α : Type} {op : LAcc → α → LAcc} (h : ∀ (a : LAcc) x, a.st.Seated (op a x).st) (l : List α)
    (a : LAcc) :
    a.st.Seated (l.foldl op a).st :=
  foldl_keeps (P := fun b : LAcc => a.st.Seated b.st) (fun b x hb => hb.trans (h b x)) l a (.refl _)

theorem LAcc.eachCar_seated {step : LAcc → Nat → LAcc} (h : ∀ (a : LAcc) n, a.st.Seated (step a n).st)
    (g : Nat) (p : Car → Bool) (a : LAcc) : a.st.Seated (a.eachCar g p step).st := by
  refine LAcc.foldl_seated (fun b n => ?_) _ a
  split
  · split
    · exact h b n
    · exact .refl _
  · exact .refl _

theorem LAcc.recomputeLockout_seated (env : LEnv) (a : LAcc) (n : Nat) : a.st.Seated (a.recomputeLockout env n).st := by
  unfold LAcc.recomputeLockout
  split
  · exact .refl _
  · rw [LAcc.tellIf_st]
    refine LAcc.modGroup_seated ?_ a
    exact fun _ => rfl

theorem LAcc.retarget_seated (env : LEnv) (n : Nat) (reaches : Car → Bool) (a : LAcc) :
    a.st.Seated (a.retarget env n reaches).st := by
  unfold LAcc.retarget
  split
  case h_1 => exact .refl _
  case h_2 g _ =>
    have chosen : a.st.Seated (a.modGroup n (fun g => { g with target := chooseTarget env g })).st := by
      refine LAcc.modGroup_seated ?_ a
      exact fun _ => rfl
    refine LC.Seated.trans ?_ (LAcc.recomputeLockout_seated ..)
    refine LC.Seated.trans ?_ (LAcc.eachCar_seated (LAcc.recallCar_seated env) ..)
    split
    · exact chosen
    · rw [LAcc.groupReport_st]
      exact chosen

theorem LAcc.fail_seated {env : LEnv} {g : Group} {c : Car} {a : LAcc} (h : c ∈ a.st.cars) :
    a.st.Seated (a.fail env g c).st := by
  rw [LAcc.fail_st]
  exact LAcc.putCar_seated h rfl

theorem LAcc.defer_seated {env : LEnv} {g : Group} {c : Car} {a : LAcc} (h : c ∈ a.st.cars) :
    a.st.Seated (a.defer env g c).st := by
  unfold LAcc.defer
  dsimp only
  split
  · have put : a.st.Seated (a.putCar { c with cmdState := .deferred, attempts := c.attempts + 1 }).st :=
      LAcc.putCar_seated h rfl
    exact put.trans (LAcc.fail_seated (LAcc.putCar_mem h rfl))
  · exact LAcc.putCar_seated h rfl

theorem LAcc.accept_seated {env : LEnv} {g : Group} {c : Car} {a : LAcc} (h : c ∈ a.st.cars) :
    a.st.Seated (a.accept env g c).st := by
  unfold LAcc.accept
  dsimp only
  split
  · exact LAcc.uncommand_seated h
  · exact LAcc.replaceCar_seated h rfl
  · split
    · have put : a.st.Seated (a.putCar { c with cmdState := .accepted }).st := LAcc.putCar_seated h rfl
      exact put.trans (LAcc.recallCar_seated ..)
    · exact LAcc.uncommand_seated h
  · exact LAcc.putCar_seated h rfl

theorem LAcc.answer_seated (env : LEnv) (n : Nat) (b : AnswerBlock) (a : LAcc) : a.st.Seated (a.answer env n b).st := by
  unfold LAcc.answer
  split
  case h_1 => exact .refl _
  case h_2 =>
    split
    case h_1 => exact .refl _
    case h_2 c hc =>
      obtain ⟨hmem, -⟩ := carAt_mem (x := a.st) hc
      split
      · cases b.answer with
        | accept => exact LAcc.accept_seated hmem
        | defer => exact LAcc.defer_seated hmem
        | reject => exact LAcc.fail_seated hmem
      · exact .refl _

theorem LAcc.answerTo_seated (env : LEnv) (n : Nat) (c : Carried) (b : Option AnswerBlock) (a : LAcc) :
    a.st.Seated (a.answerTo env n c b).st := by
  unfold LAcc.answerTo
  split
  · exact LAcc.answer_seated ..
  · exact .refl _

theorem LAcc.parkTest_seated {env : LEnv} {c : Car} {a : LAcc} (h : c ∈ a.st.cars) :
    a.st.Seated (a.parkTest env c).st := by
  unfold LAcc.parkTest
  split
  · split
    · exact LAcc.replaceCar_seated h rfl
    · exact .refl _
  · exact .refl _

theorem LAcc.inspectionTest_seated {env : LEnv} {g : Group} {mode : GroupMode} {c : Car} {a : LAcc}
    (h : c ∈ a.st.cars) : a.st.Seated (a.inspectionTest env g mode c).st := by
  unfold LAcc.inspectionTest
  split
  · split
    · exact LAcc.uncommand_seated h
    · exact .refl _
  · split
    · split
      · exact LAcc.recallCar_seated ..
      · exact LAcc.uncommand_seated h
    · exact .refl _

theorem LAcc.noteLanding_seated (env : LEnv) (n landing : Nat) (a : LAcc) :
    a.st.Seated (a.noteLanding env n landing).st := by
  unfold LAcc.noteLanding
  split
  case isFalse => exact .refl _
  case isTrue =>
    split
    case h_1 => exact .refl _
    case h_2 g _ =>
      have noted (low : Nat) : a.st.Seated (a.modGroup n (fun g => { g with lowest := some low })).st := by
        refine LAcc.modGroup_seated ?_ a
        exact fun _ => rfl
      dsimp only
      split
      · exact (noted _).trans (LAcc.retarget_seated ..)
      · exact noted _

theorem LAcc.reviveCar_seated {env : LEnv} {g : Group} {c : Car} {a : LAcc} (h : c ∈ a.st.cars) :
    a.st.Seated (a.reviveCar env g c).st := by
  unfold LAcc.reviveCar
  split
  case isFalse => exact .refl _
  case isTrue =>
    split
    · exact LAcc.replaceCar_seated h rfl
    · exact LAcc.replaceCar_seated h rfl
    · split
      · exact LAcc.replaceCar_seated h rfl
      · exact LAcc.releaseCar_seated ..
    · split
      · exact LAcc.recallCar_seated ..
      · exact LAcc.releaseCar_seated ..
    · exact .refl _

theorem LAcc.carUp_seated (env : LEnv) (g : Group) (a : LAcc) (n : Nat) : a.st.Seated (a.carUp env g n).st := by
  unfold LAcc.carUp
  split
  case h_1 => exact .refl _
  case h_2 c hc =>
    have revived := LAcc.reviveCar_seated (env := env) (g := g) (findCar_mem hc).1
    dsimp only
    split
    case h_1 => exact revived
    case h_2 c' hc' =>
      split
      · exact revived.trans (LAcc.putCar_seated (findCar_mem hc').1 rfl)
      · exact revived

theorem LAcc.nodeUp_seated (env : LEnv) (n : Nat) (a : LAcc) : a.st.Seated (a.nodeUp env n).st := by
  have up : a.st.Seated (a.modGroup n (fun g => { g with down := false })).st := by
    refine LAcc.modGroup_seated ?_ a
    exact fun _ => rfl
  unfold LAcc.nodeUp
  dsimp only
  split
  · exact up
  · exact up.trans (LAcc.foldl_seated (LAcc.carUp_seated env _) _ _)

end Sys2Proof.Machine
end

section
/-!
GROUP_STATUS (R76, R78, R83): the echo, the position caches that the state entries write, and the answer to a car command.
-/

namespace Sys2Proof.Machine

/-! ## The order of the entries -/

/-- A record put into a table ahead of `e` or behind it leaves no record of its key behind it that was not there. -/
theorem insertBy_splits {α : Type} (key : α → Nat) (x e : α) (front back : List α) (h : ∀ y ∈ back, key y ≠ key e) :
    ∃ front' back', insertBy key x (front ++ e :: back) = front' ++ e :: back' ∧ ∀ y ∈ back', key y ≠ key e := by
  induction front with
  | nil =>
    rw [List.nil_append, insertBy]
    split
    case isTrue => exact ⟨[x], back, rfl, h⟩
    case isFalse hx =>
      refine ⟨[], _, rfl, fun y hy => ?_⟩
      obtain rfl | hy := List.mem_cons.mp ((insertBy_perm key x back).mem_iff.mp hy)
      · omega
      · exact h y hy
  | cons z front ih =>
    rw [List.cons_append, insertBy]
    split
    case isTrue => exact ⟨x :: z :: front, back, rfl, h⟩
    case isFalse =>
      obtain ⟨front', back', heq, hback⟩ := ih
      exact ⟨z :: front', back', by rw [heq]; rfl, hback⟩

/-- The last record of a key is the last of it after the table is put in order. -/
theorem sortBy_splits {α : Type} (key : α → Nat) (e : α) (before after : List α) (h : ∀ y ∈ after, key y ≠ key e) :
    ∃ front back, sortBy key (before ++ e :: after) = front ++ e :: back ∧ ∀ y ∈ back, key y ≠ key e := by
  induction before with
  | nil =>
    obtain ⟨front, back, heq, hback⟩ : ∃ front back, insertBy key e (sortBy key after) = front ++ e :: back ∧
        ∀ y ∈ back, key y ≠ key e := by
      have hafter : ∀ y ∈ sortBy key after, key y ≠ key e := fun y hy => h y ((sortBy_perm key after).mem_iff.mp hy)
      generalize sortBy key after = l at hafter
      induction l with
      | nil => exact ⟨[], [], rfl, hafter⟩
      | cons y l ih =>
        rw [insertBy]
        split
        · exact ⟨[], y :: l, rfl, hafter⟩
        · obtain ⟨front, back, heq, hback⟩ := ih fun x hx => hafter x (List.mem_cons_of_mem y hx)
          exact ⟨y :: front, back, by rw [heq]; rfl, hback⟩
    exact ⟨front, back, heq, hback⟩
  | cons x before ih =>
    obtain ⟨front, back, heq, hback⟩ := ih
    obtain ⟨front', back', heq', hback'⟩ := insertBy_splits key x e front back hback
    refine ⟨front', back', ?_, hback'⟩
    rw [List.cons_append, ← heq', ← heq]
    rfl

/-! ## Where a car stands -/

/-- Car numbers are each given once, and in FALLBACK they count up from 0 (R99). -/
def LC.Numbered (fallback : Bool) (x : LC) : Prop :=
  x.Distinct ∧ (fallback = true → ∀ c ∈ x.cars, c.number < x.cars.length)

/-- Tables with the same car numbers. -/
theorem LC.Numbered.of_numbers {fallback : Bool} {x y : LC} (h : x.Numbered fallback)
    (hn : y.cars.map (·.number) = x.cars.map (·.number)) : y.Numbered fallback := by
  have hlength : y.cars.length = x.cars.length := by simpa using congrArg List.length hn
  refine ⟨by rw [LC.Distinct, hn]; exact h.1, fun hf c hc => ?_⟩
  have hmem : c.number ∈ x.cars.map (·.number) := hn ▸ List.mem_map_of_mem hc
  obtain ⟨e, he, hnumber⟩ := List.mem_map.mp hmem
  rw [hlength, ← hnumber]
  exact h.2 hf e he

/-- The group `k` stands as `gs` says, and its car number `m` at the place `p`, with a cache that `q` holds of. -/
structure LC.InPlace (fallback : Bool) (k p m : Nat) (gs : Nat × List (Option Nat) × Option LandingMask)
    (q : Option Cache → Prop) (x : LC) : Prop where
  numbered : x.Numbered fallback
  group : (findGroup x k).map Group.seat = some gs
  car : ∃ c, carAt x k p = some c ∧ c.number = m ∧ q c.cache

section InPlace

variable {fallback : Bool} {k p m : Nat} {gs : Nat × List (Option Nat) × Option LandingMask} {q : Option Cache → Prop}

theorem LC.InPlace.seated {x y : LC} (h : x.InPlace fallback k p m gs q) (hs : x.Seated y) :
    y.InPlace fallback k p m gs q := by
  obtain ⟨c, hc, hm, hq⟩ := h.car
  refine ⟨h.numbered.of_numbers (numbers_eq_of_seats (hs.cars h.numbered.1)), (hs.findGroup k).trans h.group, ?_⟩
  have hseat := hs.carAt h.numbered.1 k p
  rw [hc] at hseat
  obtain ⟨c', hc', hsame⟩ := Option.map_eq_some_iff.mp hseat
  have hnumber : c'.number = c.number := congrArg Prod.fst hsame
  have hcache : c'.cache = c.cache := congrArg (fun e => e.2.2.2) hsame
  exact ⟨c', hc', hnumber.trans hm, hcache ▸ hq⟩

theorem LC.InPlace.weaken {x : LC} (h : x.InPlace fallback k p m gs q) : x.InPlace fallback k p m gs (fun _ => True) := by
  obtain ⟨c, hc, hm, -⟩ := h.car
  exact ⟨h.numbered, h.group, c, hc, hm, trivial⟩

/-- R99: an entry for a place without a car may make one, with the next number. -/
theorem LAcc.makeCar_cases (env : LEnv) (n place : Nat) (a : LAcc) : (a.makeCar env n place).st = a.st ∨
    (env.fallback = true ∧ carAt a.st n place = none ∧
      (a.makeCar env n place).st = { a.st with cars := a.st.cars ++ [bootCar a.st.cars.length n place] }) := by
  unfold LAcc.makeCar
  split
  case isFalse => exact .inl rfl
  case isTrue h =>
    split
    case h_1 => exact .inl rfl
    case h_2 =>
      simp only [Bool.and_eq_true, Bool.not_eq_true'] at h
      refine .inr ⟨h.1.1, List.find?_eq_none.mpr ?_, rfl⟩
      exact List.any_eq_false.mp h.1.2

theorem LAcc.makeCar_numbered {env : LEnv} {n place : Nat} {a : LAcc} (h : a.st.Numbered env.fallback) :
    (a.makeCar env n place).st.Numbered env.fallback := by
  obtain hsame | ⟨hf, -, hmade⟩ := LAcc.makeCar_cases env n place a
  · rw [hsame]
    exact h
  · have hbelow := h.2 hf
    have hnew : (bootCar a.st.cars.length n place).number = a.st.cars.length := rfl
    rw [hmade]
    refine ⟨?_, fun _ c hc => ?_⟩
    · rw [LC.Distinct, List.map_append, List.nodup_append]
      refine ⟨h.1, List.nodup_singleton _, fun i hi j hj => ?_⟩
      obtain ⟨c, hc, rfl⟩ := List.mem_map.mp hi
      obtain rfl : j = a.st.cars.length := by simpa [hnew] using hj
      exact Nat.ne_of_lt (hbelow c hc)
    · rw [List.length_append, List.length_singleton]
      obtain hc | hc := List.mem_append.mp hc
      · exact Nat.lt_succ_of_lt (hbelow c hc)
      · rw [List.mem_singleton.mp hc, hnew]
        exact Nat.lt_succ_self _

theorem LAcc.makeCar_inPlace {env : LEnv} {place : Nat} {a : LAcc} (h : a.st.InPlace env.fallback k p m gs q) :
    (a.makeCar env k place).st.InPlace env.fallback k p m gs q := by
  obtain hsame | ⟨-, -, hmade⟩ := LAcc.makeCar_cases env k place a
  · rw [hsame]
    exact h
  · obtain ⟨c, hc, hm, hq⟩ := h.car
    refine ⟨LAcc.makeCar_numbered h.numbered, by rw [hmade]; exact h.group, c, ?_, hm, hq⟩
    rw [hmade, carAt, List.find?_append, ← carAt, hc]
    rfl

/-- The car at a place after one car's record is replaced by one of its number, group and place. -/
theorem LAcc.carAt_putCar {c c' : Car} {a : LAcc} (hx : a.st.Distinct) (hc : c ∈ a.st.cars)
    (hs : c'.number = c.number ∧ c'.group = c.group ∧ c'.place = c.place) (g p : Nat) :
    carAt (a.putCar c').st g p = (carAt a.st g p).map (fun e => if e.number = c.number then c' else e) := by
  obtain ⟨hnumber, hgroup, hplace⟩ := hs
  have hcars : (a.putCar c').st.cars = a.st.cars.map (fun e => if e.number = c.number then c' else e) := by
    rw [LAcc.putCar_cars, mapIf, hnumber]
    simp
  rw [carAt, carAt, hcars, List.find?_map]
  congr 1
  refine List.find?_congr fun e he => ?_
  by_cases hn : e.number = c.number
  · obtain rfl := hx.eq hc he hn
    simp [hgroup, hplace]
  · simp [hn]

/-! ## The state entries (R76) -/

/-- R76: the position cache that a state entry writes, by the group's landing map. -/
def entryCache (map : List (Option Nat)) (e : CarEntry) : Cache :=
  ⟨e.landing, mappedFloor map e.landing, e.direction, e.door, e.mode⟩

/-- R76: a state entry that finds its car writes the cache, and then leaves the cars and groups seated. -/
theorem LAcc.entry_cases (env : LEnv) (n : Nat) (a : LAcc) (e : CarEntry) :
    (carAt (a.makeCar env n e.place).st n e.place = none ∨ findGroup (a.makeCar env n e.place).st n = none) ∧
      (a.entry env n e).st = (a.makeCar env n e.place).st ∨
    ∃ c g, carAt (a.makeCar env n e.place).st n e.place = some c ∧ findGroup (a.makeCar env n e.place).st n = some g ∧
      ((a.makeCar env n e.place).putCar { c with cache := some (entryCache g.map e) }).st.Seated
        (a.entry env n e).st := by
  unfold LAcc.entry
  generalize a.makeCar env n e.place = b
  dsimp only
  split
  case h_2 hnone =>
    refine .inl ⟨?_, rfl⟩
    cases hc : carAt b.st n e.place with
    | none => exact .inl rfl
    | some c =>
      cases hg : findGroup b.st n with
      | none => exact .inr rfl
      | some g => exact absurd hg (hnone c g hc)
  case h_1 c g hc hg =>
    refine .inr ⟨c, g, hc, hg, ?_⟩
    have noted := LAcc.noteLanding_seated env n e.landing (b.putCar { c with cache := some (entryCache g.map e) })
    unfold entryCache at noted ⊢
    split
    case h_1 => exact noted
    case h_2 c1 hc1 =>
      have parked := noted.trans (LAcc.parkTest_seated (env := env) (findCar_mem hc1).1)
      split
      case h_1 c2 g2 hc2 _ => exact parked.trans (LAcc.inspectionTest_seated (findCar_mem hc2).1)
      case h_2 => exact parked

/-- R76: an entry of another place leaves a car in its place. -/
theorem LAcc.entry_inPlace_ne {env : LEnv} {a : LAcc} {e : CarEntry} (hne : e.place ≠ p)
    (h : a.st.InPlace env.fallback k p m gs q) : (a.entry env k e).st.InPlace env.fallback k p m gs q := by
  have made := LAcc.makeCar_inPlace (place := e.place) h
  obtain ⟨-, hsame⟩ | ⟨c, g, hc, -, seated⟩ := LAcc.entry_cases env k a e
  · rw [hsame]
    exact made
  · refine LC.InPlace.seated ?_ seated
    generalize a.makeCar env k e.place = b at made hc
    obtain ⟨hmem, -, hplace⟩ := carAt_mem hc
    obtain ⟨c0, hc0, hm, hq⟩ := made.car
    obtain ⟨hmem0, -, hplace0⟩ := carAt_mem hc0
    refine ⟨made.numbered.of_numbers (map_mapIf_key Car.number { c with cache := some (entryCache g.map e) } _),
      made.group, c0, ?_, hm, hq⟩
    have hother : ¬ c0.number = c.number := fun hn =>
      hne (by rw [← hplace, ← made.numbered.1.eq hmem hmem0 hn, hplace0])
    rw [LAcc.carAt_putCar (c' := { c with cache := some (entryCache g.map e) }) made.numbered.1 hmem ⟨rfl, rfl, rfl⟩,
      hc0, Option.map_some, if_neg hother]

/-- R76: an entry of a car's own place writes its cache. -/
theorem LAcc.entry_inPlace_own {env : LEnv} {a : LAcc} {e : CarEntry} (hp : e.place = p)
    (h : a.st.InPlace env.fallback k p m gs q) :
    (a.entry env k e).st.InPlace env.fallback k p m gs (· = some (entryCache gs.2.1 e)) := by
  have made := LAcc.makeCar_inPlace (place := e.place) h
  obtain ⟨hnone, -⟩ | ⟨c, g, hc, hg, seated⟩ := LAcc.entry_cases env k a e
  · obtain ⟨c0, hc0, -⟩ := made.car
    obtain hnone | hnone := hnone
    · rw [hp] at hnone hc0
      exact absurd (hc0.symm.trans hnone) (by simp)
    · exact absurd made.group (by simp [hnone])
  · refine LC.InPlace.seated ?_ seated
    generalize a.makeCar env k e.place = b at made hc hg
    obtain ⟨hmem, -, -⟩ := carAt_mem hc
    obtain ⟨c0, hc0, hm, -⟩ := made.car
    obtain rfl : c0 = c := by
      rw [hp] at hc
      exact Option.some.inj (hc0.symm.trans hc)
    have hgs : g.seat = gs := by simpa [hg] using made.group
    refine ⟨made.numbered.of_numbers (map_mapIf_key Car.number { c0 with cache := some (entryCache g.map e) } _),
      made.group, { c0 with cache := some (entryCache g.map e) }, ?_, hm, ?_⟩
    · rw [LAcc.carAt_putCar (c' := { c0 with cache := some (entryCache g.map e) }) made.numbered.1 hmem ⟨rfl, rfl, rfl⟩,
        hc0, Option.map_some, if_pos rfl]
    · rw [← hgs]
      rfl

theorem LAcc.foldl_entry_inPlace {env : LEnv} {l : List CarEntry} {a : LAcc}
    (h : a.st.InPlace env.fallback k p m gs (fun _ => True)) :
    (l.foldl (LAcc.entry env k) a).st.InPlace env.fallback k p m gs (fun _ => True) := by
  refine foldl_keeps (P := fun b : LAcc => b.st.InPlace env.fallback k p m gs (fun _ => True)) (fun b e hb => ?_) l a h
  by_cases hp : e.place = p
  · exact (LAcc.entry_inPlace_own hp hb).weaken
  · exact LAcc.entry_inPlace_ne hp hb

theorem LAcc.foldl_entry_inPlace_ne {env : LEnv} {l : List CarEntry} (hne : ∀ e ∈ l, e.place ≠ p) {a : LAcc}
    (h : a.st.InPlace env.fallback k p m gs q) : (l.foldl (LAcc.entry env k) a).st.InPlace env.fallback k p m gs q := by
  induction l generalizing a with
  | nil => exact h
  | cons e l ih =>
    exact ih (fun x hx => hne x (List.mem_cons_of_mem e hx)) (LAcc.entry_inPlace_ne (hne e List.mem_cons_self) h)

/-- R76: after the entries of a reply a car has the cache of the last entry of its place. -/
theorem LAcc.entries_inPlace {env : LEnv} {a : LAcc} {before after : List CarEntry} {e : CarEntry}
    (hafter : ∀ x ∈ after, x.place ≠ e.place) (h : a.st.InPlace env.fallback k e.place m gs (fun _ => True)) :
    (a.entries env k (before ++ e :: after)).st.InPlace env.fallback k e.place m gs
      (· = some (entryCache gs.2.1 e)) := by
  obtain ⟨front, back, hsort, hback⟩ := sortBy_splits (fun e : CarEntry => e.place) e before after hafter
  rw [LAcc.entries, hsort, List.foldl_append, List.foldl_cons]
  exact LAcc.foldl_entry_inPlace_ne hback (LAcc.entry_inPlace_own rfl (LAcc.foldl_entry_inPlace h))

end InPlace

end Sys2Proof.Machine
end

section
/-!
A GROUP_STATUS taken (R76, R78): the echo in the group's record and the caches in its cars' records.
-/

namespace Sys2Proof.Machine

@[simp] theorem liftLc_lc (f : LAcc → LAcc) (s : State) : (s.liftLc f).lc = (f ⟨s.lc, []⟩).st := by
  rw [State.liftLc_eq, applyEffs_lc]

/-! ## The group's record -/

@[simp] theorem LAcc.echo_cars (n : Nat) (echo : LandingMask) (clean : Bool) (a : LAcc) :
    (a.echo n echo clean).st.cars = a.st.cars := by
  unfold LAcc.echo
  split
  · rfl
  · rw [LAcc.tellIf_st]
    rfl

theorem findGroup_number {x : LC} {n : Nat} {g : Group} (h : findGroup x n = some g) : g.number = n := by
  simpa using List.find?_some h

theorem LAcc.findGroup_modGroup {n : Nat} {f : Group → Group} {a : LAcc} {g : Group} (hf : ∀ g, (f g).number = g.number)
    (h : findGroup a.st n = some g) : findGroup (a.modGroup n f).st n = some (f g) := by
  have hgroups : (a.modGroup n f).st.groups = a.st.groups.map (fun g => if g.number = n then f g else g) := by
    simp only [LAcc.modGroup, mapIf, decide_eq_true_eq]
    rfl
  have hkey : (fun g : Group => decide (g.number = n)) ∘ (fun g => if g.number = n then f g else g) =
      fun g => decide (g.number = n) := by
    funext g
    by_cases hg : g.number = n <;> simp [hg, hf]
  rw [findGroup, hgroups, List.find?_map, hkey, ← findGroup, h, Option.map_some, if_pos (findGroup_number h)]

/-- R78: the echo is written into the group's record. -/
theorem LAcc.findGroup_echo {n : Nat} {echo : LandingMask} {clean : Bool} {a : LAcc} {g : Group}
    (h : findGroup a.st n = some g) : findGroup (a.echo n echo clean).st n = some { g with echo := some echo } := by
  have hecho : (a.echo n echo clean).st = (a.modGroup n (fun g => { g with echo := some echo })).st := by
    rw [LAcc.echo, h]
    exact LAcc.tellIf_st ..
  rw [hecho]
  refine LAcc.findGroup_modGroup (f := fun g => { g with echo := some echo }) ?_ h
  exact fun _ => rfl

theorem LAcc.makeCar_groups (env : LEnv) (n place : Nat) (a : LAcc) :
    (a.makeCar env n place).st.groups = a.st.groups := by
  obtain h | ⟨-, -, h⟩ := LAcc.makeCar_cases env n place a <;> rw [h]

/-- R76: the state entries leave every group its map and echo. -/
theorem LAcc.entries_groups (env : LEnv) (n : Nat) (es : List CarEntry) (a : LAcc) :
    (a.entries env n es).st.groups.map Group.seat = a.st.groups.map Group.seat := by
  refine foldl_keeps (P := fun b : LAcc => b.st.groups.map Group.seat = a.st.groups.map Group.seat) (fun b e hb => ?_) _ a rfl
  rw [← hb, ← LAcc.makeCar_groups env n e.place b]
  obtain ⟨-, hsame⟩ | ⟨c, g, -, -, seated⟩ := LAcc.entry_cases env n b e
  · rw [hsame]
  · exact seated.groups

/-! ## The reply -/

/-- R78, R83: the Lift Coordinator after the echo and the answer of a group's reply. -/
def groupAnswered (n : Nat) (c : Carried) (echo : LandingMask) (clean : Bool) (b : Option AnswerBlock) (s : State) : LAcc :=
  LAcc.answerTo s.lenv n c b (LAcc.echo n echo clean ⟨s.lc, []⟩)

theorem groupAnswered_seated (n : Nat) (c : Carried) (echo : LandingMask) (clean : Bool) (b : Option AnswerBlock)
    (s : State) : (LAcc.echo n echo clean ⟨s.lc, []⟩).st.Seated (groupAnswered n c echo clean b s).st :=
  LAcc.answerTo_seated ..

theorem groupAnswered_group {n : Nat} {c : Carried} {echo : LandingMask} {clean : Bool} {b : Option AnswerBlock}
    {s : State} {g : Group} (hg : findGroup s.lc n = some g) :
    (findGroup (groupAnswered n c echo clean b s).st n).map Group.seat = some (n, g.map, some echo) := by
  rw [(groupAnswered_seated n c echo clean b s).findGroup, LAcc.findGroup_echo hg, Option.map_some,
    ← findGroup_number hg]
  rfl

theorem groupAnswered_inPlace {n : Nat} {c : Carried} {echo : LandingMask} {clean : Bool} {b : Option AnswerBlock}
    {s : State} {g : Group} {p : Nat} {car : Car} (hg : findGroup s.lc n = some g) (hcars : s.CarsDistinct)
    (hcar : carAt s.lc n p = some car) : (groupAnswered n c echo clean b s).st.InPlace s.cs.fallback n p car.number
      (n, g.map, some echo) (fun _ => True) := by
  have hsame := LAcc.echo_cars n echo clean ⟨s.lc, []⟩
  have hecho : (LAcc.echo n echo clean ⟨s.lc, []⟩).st.InPlace s.cs.fallback n p car.number
      (g.number, g.map, some echo) (fun _ => True) := by
    refine ⟨LC.Numbered.of_numbers hcars (by rw [hsame]), by rw [LAcc.findGroup_echo hg]; rfl, car, ?_, rfl, trivial⟩
    rw [carAt, hsame]
    exact hcar
  exact findGroup_number hg ▸ hecho.seated (groupAnswered_seated ..)

/-- R76: the state entries come after them. -/
theorem replyDelivered_group (k : Fin 4) (sl : Slot) (echo : LandingMask) (b : Option AnswerBlock) (es : List CarEntry)
    (s : State) : ∃ clean, (replyDelivered (.g k) sl (.group echo b es) s).lc =
      ((groupAnswered k.val sl.carried echo clean b s).entries s.lenv k.val es).st :=
  ⟨_, liftLc_lc ..⟩

/-- R96: the supervision of a group's reply leaves the cars and groups seated. -/
theorem replySupervised_group (k : Fin 4) (sl : Slot) (r : FieldReply) (s : State) :
    s.lc.Seated (replySupervised (.g k) sl r s).lc := by
  obtain h | ⟨u, hu, h⟩ := replySupervised_cases (.g k) sl r s
  · rw [h.lc]
    exact .refl _
  · have told : (tellUp (.g k) sl.address u).lc = (LAcc.nodeUp u.lenv k.val ⟨u.lc, []⟩).st := liftLc_lc ..
    rw [h.lc, told, ← hu.lc]
    exact LAcc.nodeUp_seated u.lenv k.val ⟨u.lc, []⟩

/-- R76, R78, R151: a group's reply delivered: the echo, and the cache of the car of the last entry of a place. -/
theorem groupStatusDelivers (s : State) (k : Fin 4) (a c : Byte) (p : List Byte) (sl : Slot) (echo : LandingMask)
    (b : Option AnswerBlock) (es : List CarEntry) (g : Group) (hpower : s.powered = true)
    (hvalid : ValidReply s ⟨.g k, a, 0x44#8, c, p⟩ sl (.group echo b es)) (hg : findGroup s.lc k.val = some g)
    (hcars : s.CarsDistinct) :
    ∃ t g', exec (.groupStatus (.g k) a c p) s = .next t ∧ findGroup t.lc k.val = some g' ∧ g'.echo = some echo ∧
      ∀ (before after : List CarEntry) (e : CarEntry) (car : Car), es = before ++ e :: after →
        (∀ x ∈ after, x.place ≠ e.place) →
        s.lc.cars.find? (fun x => x.group = k.val && x.place = e.place) = some car →
        ∃ car', findCar t.lc car.number = some car' ∧ car'.group = k.val ∧ car'.place = e.place ∧
          car'.cache = some (entryCache g.map e) := by
  have hend := finish_orderLift_endsIn s.sp.reports.length
    (replySupervised (.g k) sl (.group echo b es) (replyDelivered (.g k) sl (.group echo b es) s.cleared))
  have supervised := replySupervised_group k sl (.group echo b es) (replyDelivered (.g k) sl (.group echo b es) s.cleared)
  obtain ⟨clean, hlc⟩ := replyDelivered_group k sl echo b es s.cleared
  have hseat : (findGroup (replySupervised (.g k) sl (.group echo b es)
      (replyDelivered (.g k) sl (.group echo b es) s.cleared)).lc k.val).map Group.seat =
      some (k.val, g.map, some echo) := by
    rw [supervised.findGroup, hlc, findGroup_seat, LAcc.entries_groups, ← findGroup_seat]
    exact groupAnswered_group hg
  obtain ⟨g', hg', hsame⟩ := Option.map_eq_some_iff.mp hseat
  refine ⟨_, g', hvalid.exec_eq (i := .groupStatus (.g k) a c p) rfl hpower, by rw [hend.lc]; exact hg',
    congrArg (fun e => e.2.2) hsame, ?_⟩
  rintro before after e car rfl hafter hcar
  have answered : (groupAnswered k.val sl.carried echo clean b s.cleared).st.InPlace s.cleared.lenv.fallback k.val e.place
      car.number (k.val, g.map, some echo) (fun _ => True) := groupAnswered_inPlace hg hcars hcar
  have placed := (LAcc.entries_inPlace (before := before) hafter answered).seated (hlc ▸ supervised)
  obtain ⟨car', hcar', hnumber, hcache⟩ := placed.car
  obtain ⟨hmem, hgroup, hplace⟩ := carAt_mem hcar'
  refine ⟨car', ?_, hgroup, hplace, hcache⟩
  rw [hend.lc, ← hnumber]
  exact findCar_of_mem placed.numbered.1 hmem

end Sys2Proof.Machine
end

section
/-!
MODULE_STATUS (R106, R151): the sensed states written into the points of the module, and left standing by what follows.
-/

namespace Sys2Proof.Machine

@[simp] theorem liftDs_ds (f : DAcc → DAcc) (s : State) : (s.liftDs f).ds = (f ⟨s.ds, []⟩).st := by
  rw [State.liftDs_eq, applyEffs_ds]

@[simp] theorem DAcc.tellIf_st (b : Bool) (e : Eff) (a : DAcc) : (a.tellIf b e).st = a.st := Acc.emitIf_st b e a

/-- Which door point it is, where it is wired, and its sensed state. -/
def Door.spot (d : Door) : Nat × Line × Nat × Nat × Sensed := (d.index, d.loop, d.address, d.point, d.sensed)

theorem afterAgreement_spot (dwell : Nat) (d : Door) : (afterAgreement dwell d).spot = d.spot := by
  unfold afterAgreement
  split
  · split <;> rfl
  · split <;> rfl
  · split
    · split <;> rfl
    · rfl
  · rfl

theorem afterHeldOpen_spot (level : Level) (limit : Nat) (d : Door) : (afterHeldOpen level limit d).spot = d.spot := by
  unfold afterHeldOpen
  split
  · split <;> rfl
  all_goals rfl

/-- A point put in the place of itself. -/
theorem DAcc.put_spots {d : Door} {a : DAcc} {l : List Door} (hkeys : (l.map (·.index)).Nodup)
    (hl : a.st.doors.map Door.spot = l.map Door.spot) (hd : ∃ e ∈ l, d.spot = e.spot) :
    (a.put d).st.doors.map Door.spot = l.map Door.spot := by
  obtain ⟨e, he, hspot⟩ := hd
  rw [← hl, DAcc.put_doors, mapIf, List.map_map]
  refine List.map_congr_left fun x hx => ?_
  by_cases hindex : x.index = d.index
  · obtain ⟨y, hy, hsame⟩ : ∃ y ∈ l, y.spot = x.spot := by
      obtain ⟨y, hy, hsame⟩ := List.mem_map.mp (hl ▸ List.mem_map_of_mem (f := Door.spot) hx)
      exact ⟨y, hy, hsame⟩
    have hkey : y.index = e.index :=
      (congrArg Prod.fst hsame).trans (hindex.trans (congrArg Prod.fst hspot))
    have hye := List.inj_on_of_nodup_map hkeys hy he hkey
    simp [hindex, hspot, ← hsame, hye]
  · simp [hindex]

/-- R106: the test of a point leaves the sensed states. -/
theorem DAcc.testPoint_spots {env : DEnv} {a : DAcc} {d : Door} {l : List Door} (hkeys : (l.map (·.index)).Nodup)
    (hl : a.st.doors.map Door.spot = l.map Door.spot) (hd : d ∈ l) :
    (a.testPoint env d).st.doors.map Door.spot = l.map Door.spot := by
  unfold DAcc.testPoint
  split
  · simp only [DAcc.tellIf_st]
    exact DAcc.put_spots hkeys hl ⟨d, hd, (afterHeldOpen_spot ..).trans (afterAgreement_spot ..)⟩
  · exact hl

theorem DAcc.modDoors_spots {p : Door → Bool} {f : Door → Door} (h : ∀ d, (f d).spot = d.spot) (a : DAcc) :
    (a.ds (DS.modDoors p f)).st.doors.map Door.spot = a.st.doors.map Door.spot := map_mapIf _ _ _ h _

/-- R106, R109: after a reply the points' sensed states are those written. -/
theorem DAcc.moduleReply_spots (env : DEnv) (loop : Line) (address : Nat) (sensed : List Sensed) (answered : Bool)
    {a : DAcc} (hkeys : (a.st.doors.map (·.index)).Nodup) :
    (a.moduleReply env loop address sensed answered).st.doors.map Door.spot =
      (writeSensed loop address sensed a.st.doors).map Door.spot := by
  have written : ((writeSensed loop address sensed a.st.doors).map (·.index)).Nodup := by
    rw [writeSensed, map_mapIf]
    · exact hkeys
    · exact fun _ => rfl
  have tested : ((pointsOf (writeSensed loop address sensed a.st.doors) loop address).foldl (DAcc.testPoint env)
      (a.ds (fun x => { x with doors := writeSensed loop address sensed x.doors }))).st.doors.map Door.spot =
      (writeSensed loop address sensed a.st.doors).map Door.spot := by
    refine List.foldlRecOn _ _ (motive := fun b : DAcc =>
      b.st.doors.map Door.spot = (writeSensed loop address sensed a.st.doors).map Door.spot) rfl fun b hb d hd => ?_
    exact DAcc.testPoint_spots written hb (List.mem_of_mem_filter ((sortBy_perm _ _).mem_iff.mp hd))
  unfold DAcc.moduleReply
  dsimp only
  split
  · refine (DAcc.modDoors_spots ?_ _).trans tested
    exact fun _ => rfl
  · exact tested

/-- R116: NODE_UP leaves the points' sensed states. -/
theorem DAcc.moduleUp_spots (loop : Line) (address : Nat) (a : DAcc) :
    (a.moduleUp loop address).st.doors.map Door.spot = a.st.doors.map Door.spot := by
  unfold DAcc.moduleUp
  dsimp only
  refine List.foldlRecOn _ _ (motive := fun b : DAcc => b.st.doors.map Door.spot = a.st.doors.map Door.spot) ?_
    fun b hb _ _ => hb
  rw [DAcc.syncModule_doors]
  refine DAcc.modDoors_spots (fun d => ?_) _
  split <;> rfl

/-- R106: a point of the module has the state that the reply lists for it. -/
theorem writeSensed_spot {loop : Line} {address : Nat} {sensed : List Sensed} {doors : List Door} {d : Door} {x : Sensed}
    (hd : d.spot ∈ (writeSensed loop address sensed doors).map Door.spot) (hloop : d.loop = loop)
    (haddress : d.address = address) (hx : sensed[d.point]? = some x) : d.sensed = x := by
  obtain ⟨e, he, hspot⟩ := List.mem_map.mp hd
  obtain ⟨y, -, rfl⟩ := List.mem_map.mp he
  by_cases hmodule : y.onModule loop address = true
  · rw [if_pos hmodule] at hspot
    have hpoint : y.point = d.point := congrArg (fun k => k.2.2.2.1) hspot
    have hsensed : (sensed[y.point]?).getD y.sensed = d.sensed := congrArg (fun k => k.2.2.2.2) hspot
    rw [← hsensed, hpoint, hx, Option.getD_some]
  · rw [if_neg hmodule] at hspot
    have hl : y.loop = d.loop := congrArg (fun k => k.2.1) hspot
    have ha : y.address = d.address := congrArg (fun k => k.2.2.1) hspot
    exact absurd (by simp [Door.onModule, hl, ha, hloop, haddress]) hmodule

theorem replySupervised_module (k : Fin 2) (sl : Slot) (r : FieldReply) (s : State) :
    (replySupervised (.d k) sl r s).ds.doors.map Door.spot = s.ds.doors.map Door.spot := by
  obtain h | ⟨u, hu, h⟩ := replySupervised_cases (.d k) sl r s
  · rw [h.ds]
  · have told : (tellUp (.d k) sl.address u).ds = (DAcc.moduleUp (.d k) sl.address ⟨u.ds, []⟩).st := liftDs_ds ..
    rw [h.ds, told, DAcc.moduleUp_spots, ← hu.ds]

/-- R106, R151: a module's reply delivered. -/
theorem moduleStatusDelivers (s : State) (k : Fin 2) (a c : Byte) (p : List Byte) (sl : Slot) (sensed : List Sensed)
    (hpower : s.powered = true) (hvalid : ValidReply s ⟨.d k, a, 0x45#8, c, p⟩ sl (.module sensed))
    (hkeys : s.KeysDistinct) :
    ∃ t, exec (.moduleStatus (.d k) a c p) s = .next t ∧
      ∀ d ∈ t.ds.doors, d.loop = .d k → d.address = sl.address → ∀ x, sensed[d.point]? = some x → d.sensed = x := by
  have hend := finish_orderLift_endsIn s.sp.reports.length
    (replySupervised (.d k) sl (.module sensed) (replyDelivered (.d k) sl (.module sensed) s.cleared))
  have hds : (replyDelivered (.d k) sl (.module sensed) s.cleared).ds =
      (DAcc.moduleReply (slotAnswered (.d k) sl s.cleared).denv (.d k) sl.address sensed
        (decide (sl.carried = .image .outputs)) ⟨s.ds, []⟩).st := liftDs_ds ..
  refine ⟨_, hvalid.exec_eq (i := .moduleStatus (.d k) a c p) rfl hpower, ?_⟩
  rw [hend.ds]
  intro d hd hloop haddress x hx
  have hmem := List.mem_map_of_mem (f := Door.spot) hd
  rw [replySupervised_module, hds, DAcc.moduleReply_spots _ _ _ _ _ hkeys.2] at hmem
  exact writeSensed_spot hmem hloop haddress hx

end Sys2Proof.Machine
end

section
/-!
The answer to a car command in a GROUP_STATUS (R83, R85): what becomes of the car whose command stands as SENT.
-/

namespace Sys2Proof.Machine

/-! ## One car's record replaced -/

section Answered

variable {c : Car} {a : LAcc} (hc : c ∈ a.st.cars)
include hc

theorem LAcc.findCar_replaceCar {env : LEnv} {c' : Car} (hn : c'.number = c.number) :
    findCar (a.replaceCar env c c').st c.number = some c' := by
  rw [LAcc.replaceCar_st]
  exact LAcc.findCar_putCar hc hn

theorem LAcc.findCar_command {env : LEnv} {g : Group} {service : Service} {cmd : Command} :
    findCar (a.command env g service cmd c).st c.number = some (commanded service cmd c) := by
  rw [LAcc.command_st]
  exact LAcc.findCar_putCar hc rfl

theorem LAcc.findCar_uncommand {env : LEnv} {g : Group} {service : Service} :
    findCar (a.uncommand env g service c).st c.number =
      some { c with service := service, image := none, cmdState := .none, attempts := 0, retry := none } := by
  rw [LAcc.uncommand_st]
  exact LAcc.findCar_putCar hc rfl

/-- R85: a failed car. -/
theorem LAcc.findCar_fail {env : LEnv} {g : Group} : findCar (a.fail env g c).st c.number =
    some { c with service := .recallFailed, cmdState := .failed, retry := none } := by
  rw [LAcc.fail_st]
  exact LAcc.findCar_putCar hc rfl

/-- R83: a deferral that leaves attempts. -/
theorem LAcc.findCar_defer {env : LEnv} {g : Group} (h : c.attempts + 1 < 8) :
    findCar (a.defer env g c).st c.number =
      some { c with cmdState := .deferred, attempts := c.attempts + 1, retry := some a.st.retryInterval } := by
  have hdefer : a.defer env g c = a.putCar
      { c with cmdState := .deferred, attempts := c.attempts + 1, retry := some a.st.retryInterval } :=
    if_neg (Nat.not_le.mpr h)
  rw [hdefer]
  exact LAcc.findCar_putCar hc rfl

/-- R83, R85: the deferral that makes eight attempts. -/
theorem LAcc.findCar_defer_last {env : LEnv} {g : Group} (h : 8 ≤ c.attempts + 1) :
    findCar (a.defer env g c).st c.number = some { c with
      service := .recallFailed, cmdState := .failed, attempts := c.attempts + 1, retry := none } := by
  have hdefer : a.defer env g c = (a.putCar { c with cmdState := .deferred, attempts := c.attempts + 1 }).fail env g
      { c with cmdState := .deferred, attempts := c.attempts + 1 } := if_pos h
  rw [hdefer]
  exact LAcc.findCar_fail (c := { c with cmdState := .deferred, attempts := c.attempts + 1 }) (LAcc.putCar_mem hc rfl)

/-- R83: an accepted recall. -/
theorem LAcc.findCar_accept_recall {env : LEnv} {g : Group} {l : Nat} (h : c.image = some (.recall l)) :
    findCar (a.accept env g c).st c.number = some { c with cmdState := .accepted } := by
  have haccept : a.accept env g c = a.putCar { c with cmdState := .accepted } := by simp [LAcc.accept, h]
  rw [haccept]
  exact LAcc.findCar_putCar hc rfl

/-- R83: fire service, accepted. -/
theorem LAcc.findCar_accept_fireOn {env : LEnv} {g : Group} (h : c.image = some .fireOn) :
    findCar (a.accept env g c).st c.number = some { c with service := .fireService, cmdState := .accepted } := by
  have haccept : a.accept env g c = a.replaceCar env c { c with service := .fireService, cmdState := .accepted } := by
    simp [LAcc.accept, h]
  rw [haccept]
  exact LAcc.findCar_replaceCar hc rfl

/-- R83: an accepted release, and an accepted end of fire service without a recall. -/
theorem LAcc.findCar_accept_auto {env : LEnv} {g : Group}
    (h : c.image = some .release ∨ c.image = some .fireOff ∧ g.active = false) :
    findCar (a.accept env g c).st c.number =
      some { c with service := .auto, image := none, cmdState := .none, attempts := 0, retry := none } := by
  have haccept : a.accept env g c = a.uncommand env g .auto c := by
    obtain h | ⟨h, hactive⟩ := h
    · simp [LAcc.accept, h]
    · simp [LAcc.accept, h, hactive]
  rw [haccept]
  exact LAcc.findCar_uncommand hc

/-- R83, R81: an accepted end of fire service in a recall brings the recall step. -/
theorem LAcc.accept_fireOff {env : LEnv} {g : Group} (h : c.image = some .fireOff) (hactive : g.active = true) :
    a.accept env g c = (a.putCar { c with cmdState := .accepted }).recallCar env c.number ∧
      findCar (a.putCar { c with cmdState := .accepted }).st c.number = some { c with cmdState := .accepted } :=
  ⟨by simp [LAcc.accept, h, hactive], LAcc.findCar_putCar hc rfl⟩

end Answered

/-! ## The recall step (R81) -/

theorem LAcc.recallCar_untargeted {env : LEnv} {a : LAcc} {c : Car} {g : Group} (hc : findCar a.st c.number = some c)
    (hg : findGroup a.st c.group = some g) (ht : g.target = none) :
    findCar (a.recallCar env c.number).st c.number = some (commanded .hold (.recall 0) c) := by
  have hstep : a.recallCar env c.number = a.command env g .hold (.recall 0) c := by
    simp [LAcc.recallCar, hc, hg, ht]
  rw [hstep]
  exact LAcc.findCar_command (findCar_mem hc).1

theorem LAcc.recallCar_targeted {env : LEnv} {a : LAcc} {c : Car} {g : Group} {x : Target}
    (hc : findCar a.st c.number = some c) (hg : findGroup a.st c.group = some g) (hd : g.down = false)
    (ht : g.target = some x) :
    findCar (a.recallCar env c.number).st c.number = some { c with
      service := if parkedAt c.cache (targetLanding g x) then .recalled else .recalling
      image := some (.recall (targetLanding g x))
      cmdState := if parkedAt c.cache (targetLanding g x) then .accepted else .sent
      attempts := 0
      retry := none } := by
  have hmem := (findCar_mem hc).1
  by_cases hpark : parkedAt c.cache (targetLanding g x) = true
  · have hstep : a.recallCar env c.number = a.replaceCar env c { c with
        service := .recalled, image := some (.recall (targetLanding g x)), cmdState := .accepted, attempts := 0
        retry := none } := by
      simp [LAcc.recallCar, hc, hg, ht, hd, hpark]
    rw [hstep, if_pos hpark, if_pos hpark]
    exact LAcc.findCar_replaceCar hmem rfl
  · have hstep : a.recallCar env c.number = a.command env g .recalling (.recall (targetLanding g x)) c := by
      simp [LAcc.recallCar, hc, hg, ht, hd, hpark]
    rw [hstep, LAcc.findCar_command hmem, if_neg hpark, if_neg hpark]
    rfl

/-! ## The answer -/

/-- R83: an answer for another command than the one that stands as SENT is stale. -/
theorem LAcc.answer_stale {env : LEnv} {n : Nat} {b : AnswerBlock} {a : LAcc} {c : Car}
    (hc : carAt a.st n b.place = some c) (h : ¬ (c.cmdState = .sent ∧ c.image = some b.kind)) :
    a.answer env n b = a := by
  rw [carAt] at hc
  unfold LAcc.answer
  split
  case h_1 => rfl
  case h_2 g _ =>
    rw [hc]
    refine if_neg fun hsent => h ?_
    simp only [Bool.and_eq_true, decide_eq_true_eq] at hsent
    exact ⟨hsent.1.2, hsent.2⟩

/-- R83: an answer for the command that stands as SENT, while the group is not down. -/
theorem LAcc.answer_sent {env : LEnv} {n : Nat} {b : AnswerBlock} {a : LAcc} {c : Car} {g : Group}
    (hg : findGroup a.st n = some g) (hd : g.down = false) (hc : carAt a.st n b.place = some c)
    (hs : c.cmdState = .sent) (hi : c.image = some b.kind) :
    a.answer env n b =
      match b.answer with
      | .accept => a.accept env g c
      | .defer => a.defer env g c
      | .reject => a.fail env g c := by
  rw [carAt] at hc
  unfold LAcc.answer
  rw [hg]
  dsimp only
  rw [hc]
  exact if_pos (by simp [hd, hs, hi])

theorem deliverGroup_steady (n : Nat) (c : Carried) (echo : LandingMask) (b : Option AnswerBlock) (es : List CarEntry)
    (s : State) : Steady s (deliverGroup n c echo b es s) := by
  unfold deliverGroup
  exact liftLc_steady _ s

theorem LAcc.echo_retryInterval (n : Nat) (echo : LandingMask) (clean : Bool) (a : LAcc) :
    (a.echo n echo clean).st.retryInterval = a.st.retryInterval := by
  unfold LAcc.echo
  split
  · rfl
  · rw [LAcc.tellIf_st]
    rfl

/-- R83, R151: a group's reply without state entries whose answer block answers the command that the slot carried. -/
theorem replyDelivered_answer {k : Fin 4} {sl : Slot} {echo : LandingMask} {b : AnswerBlock} {m : Nat} {s : State}
    {g : Group} (hcarried : sl.carried = .image (.carCommand m)) (hg : findGroup s.lc k.val = some g) :
    ∃ a : LAcc, (replyDelivered (.g k) sl (.group echo (some b) []) s).lc = (a.answer s.lenv k.val b).st ∧
      a.st.cars = s.lc.cars ∧ a.st.retryInterval = s.lc.retryInterval ∧
      findGroup a.st k.val = some { g with echo := some echo } := by
  obtain ⟨clean, hlc⟩ := replyDelivered_group k sl echo (some b) [] s
  refine ⟨LAcc.echo k.val echo clean ⟨s.lc, []⟩, ?_, LAcc.echo_cars .., LAcc.echo_retryInterval .., LAcc.findGroup_echo hg⟩
  rw [hlc, groupAnswered, hcarried]
  rfl

/-- R83, R85: the car of an answer block, by the answer and by the command that it had. -/
theorem answerDelivers (s : State) (k : Fin 4) (a c : Byte) (p : List Byte) (sl : Slot) (echo : LandingMask)
    (b : AnswerBlock) (m : Nat) (nd : Node) (g : Group) (car : Car) (hpower : s.powered = true)
    (hvalid : ValidReply s ⟨.g k, a, 0x44#8, c, p⟩ sl (.group echo (some b) []))
    (hcarried : sl.carried = .image (.carCommand m)) (hn : findNode s.flc.nodes (.g k) sl.address = some nd)
    (hl : nd.link = .live) (hg : findGroup s.lc k.val = some g) (hdown : g.down = false)
    (hcar : carAt s.lc k.val b.place = some car) :
    ∃ t, exec (.groupStatus (.g k) a c p) s = .next t ∧
      (¬(car.cmdState = .sent ∧ car.image = some b.kind) → t.lc.cars = s.lc.cars) ∧
      (car.cmdState = .sent → car.image = some b.kind →
        (b.answer = .reject → findCar t.lc car.number =
          some { car with service := .recallFailed, cmdState := .failed, retry := none }) ∧
        (b.answer = .defer → car.attempts + 1 < 8 → findCar t.lc car.number =
          some { car with cmdState := .deferred, attempts := car.attempts + 1, retry := some s.lc.retryInterval }) ∧
        (b.answer = .defer → 8 ≤ car.attempts + 1 → findCar t.lc car.number = some { car with
          service := .recallFailed, cmdState := .failed, attempts := car.attempts + 1, retry := none }) ∧
        (b.answer = .accept →
          (∀ l, b.kind = .recall l → findCar t.lc car.number = some { car with cmdState := .accepted }) ∧
          (b.kind = .fireOn → findCar t.lc car.number =
            some { car with service := .fireService, cmdState := .accepted }) ∧
          ((b.kind = .release ∨ b.kind = .fireOff ∧ g.active = false) → findCar t.lc car.number = some { car with
            service := .auto, image := none, cmdState := .none, attempts := 0, retry := none }) ∧
          (b.kind = .fireOff → g.active = true →
            (g.target = none → findCar t.lc car.number = some (commanded .hold (.recall 0) car)) ∧
            ∀ x, g.target = some x → findCar t.lc car.number = some { car with
              service := if parkedAt car.cache (targetLanding g x) then .recalled else .recalling
              image := some (.recall (targetLanding g x))
              cmdState := if parkedAt car.cache (targetLanding g x) then .accepted else .sent
              attempts := 0
              retry := none }))) := by
  have hend := finish_orderLift_endsIn s.sp.reports.length
    (replySupervised (.g k) sl (.group echo (some b) []) (replyDelivered (.g k) sl (.group echo (some b) []) s.cleared))
  obtain ⟨x, hx, hcars, hretry, hgx⟩ := replyDelivered_answer (s := s.cleared) (echo := echo) (b := b) hcarried hg
  have hsteady : Steady s.cleared (replyDelivered (.g k) sl (.group echo (some b) []) s.cleared) :=
    (slotAnswered_steady (.g k) sl s.cleared).trans (deliverGroup_steady ..)
  obtain ⟨n', hn', hl'⟩ := hsteady.live hn hl
  obtain ⟨y, hy⟩ := replySupervised_live (.group echo (some b) []) hn' hl'
  refine ⟨_, hvalid.exec_eq (i := .groupStatus (.g k) a c p) rfl hpower, ?_⟩
  have hmem : car ∈ x.st.cars := hcars ▸ (carAt_mem hcar).1
  have hat : carAt x.st k.val b.place = some car := by
    rw [carAt, hcars]
    exact hcar
  rw [hend.lc, hy]
  dsimp only
  rw [hx]
  refine ⟨fun hstale => by rw [LAcc.answer_stale hat hstale, hcars], fun hs hi => ?_⟩
  rw [LAcc.answer_sent hgx hdown hat hs hi]
  refine ⟨fun h => ?_, fun h hlt => ?_, fun h hle => ?_, fun h => ⟨fun l hk => ?_, fun hk => ?_, fun hk => ?_,
    fun hk hactive => ?_⟩⟩
  all_goals rw [h]; dsimp only
  · exact LAcc.findCar_fail hmem
  · rw [LAcc.findCar_defer hmem hlt, hretry]
  · exact LAcc.findCar_defer_last hmem hle
  · exact LAcc.findCar_accept_recall hmem (hi.trans (congrArg some hk))
  · exact LAcc.findCar_accept_fireOn hmem (hi.trans (congrArg some hk))
  · refine LAcc.findCar_accept_auto hmem ?_
    exact hk.imp (fun hk => hi.trans (congrArg some hk)) (fun hk => ⟨hi.trans (congrArg some hk.1), hk.2⟩)
  · obtain ⟨haccept, hput⟩ := LAcc.accept_fireOff (env := s.cleared.lenv) (g := { g with echo := some echo }) hmem
      (hi.trans (congrArg some hk)) hactive
    have hgroup : findGroup (x.putCar { car with cmdState := .accepted }).st car.group =
        some { g with echo := some echo } := by
      rw [(carAt_mem hcar).2.1]
      exact hgx
    rw [haccept]
    refine ⟨fun ht => ?_, fun target ht => ?_⟩
    · exact LAcc.recallCar_untargeted (c := { car with cmdState := .accepted }) hput hgroup ht
    · exact LAcc.recallCar_targeted (c := { car with cmdState := .accepted }) (g := { g with echo := some echo }) hput hgroup
        hdown ht

end Sys2Proof.Machine
end

section
/-!
The Announcement Router where no record is made (R122, R130, R142): the last seen marks stay, and a record of an id that is gone
does not come back.
-/

namespace Sys2Proof.Machine

@[simp] theorem liftAr_ar (f : AAcc → AAcc) (s : State) : (s.liftAr f).ar = (f ⟨⟨s.ar, s.ev⟩, []⟩).st.ar := by
  rw [State.liftAr_eq, applyEffs_ar]

/-- The channels keep their last seen marks, and every record has the id of one that was there. -/
structure AR.Tended (x y : AR) : Prop where
  seen : y.channels.map (·.lastSeen) = x.channels.map (·.lastSeen)
  ids : ∀ r ∈ y.records, ∃ q ∈ x.records, q.id = r.id

theorem AR.Tended.refl (x : AR) : x.Tended x := ⟨rfl, fun r hr => ⟨r, hr, rfl⟩⟩

theorem AR.Tended.trans {x y z : AR} (h : x.Tended y) (k : y.Tended z) : x.Tended z := by
  refine ⟨k.seen.trans h.seen, fun r hr => ?_⟩
  obtain ⟨q, hq, hqr⟩ := k.ids r hr
  obtain ⟨p, hp, hpq⟩ := h.ids q hq
  exact ⟨p, hp, hpq.trans hqr⟩

/-- A change of neither channels nor records. -/
theorem AR.Tended.of_eq {x y : AR} (hc : y.channels = x.channels) (hr : y.records = x.records) : x.Tended y :=
  ⟨by rw [hc], fun r h => ⟨r, hr ▸ h, rfl⟩⟩

theorem AR.Tended.channel {x y : AR} (h : x.Tended y) {n : Nat} {c : Channel} (hc : y.channels[n]? = some c) :
    ∃ d, x.channels[n]? = some d ∧ c.lastSeen = d.lastSeen := by
  have hseen : (x.channels[n]?).map (·.lastSeen) = some c.lastSeen := by
    rw [← List.getElem?_map, ← h.seen, List.getElem?_map, hc, Option.map_some]
  obtain ⟨d, hd, hlast⟩ := Option.map_eq_some_iff.mp hseen
  exact ⟨d, hd, hlast.symm⟩

theorem AR.Tended.gone {x y : AR} (h : x.Tended y) {id : Nat} (hx : findRec x id = none) : findRec y id = none := by
  refine List.find?_eq_none.mpr fun r hr hid => ?_
  obtain ⟨q, hq, hqr⟩ := h.ids r hr
  exact List.find?_eq_none.mp hx q hq (by simpa [hqr] using hid)

/-- The Announcement Router after a step is tended. -/
abbrev AAcc.Tended (a b : AAcc) : Prop := a.st.ar.Tended b.st.ar

theorem AAcc.foldl_tended {α : Type} {op : AAcc → α → AAcc} (h : ∀ (a : AAcc) x, a.Tended (op a x)) (l : List α)
    (a : AAcc) : a.Tended (l.foldl op a) :=
  foldl_keeps (P := fun b : AAcc => a.Tended b) (fun b x hb => hb.trans (h b x)) l a (.refl _)

/-! ## Records and channels -/

theorem AAcc.report_st (cause : AnnCause) (id : Nat) (a : AAcc) (floors : Option FloorSet) :
    (a.report cause id floors).st = a.st := by
  unfold AAcc.report
  split <;> rfl

theorem AAcc.report_tended (cause : AnnCause) (id : Nat) (a : AAcc) (floors : Option FloorSet) :
    a.Tended (a.report cause id floors) := by
  rw [AAcc.Tended, AAcc.report_st]
  exact .refl _

theorem AAcc.modRec_tended {id : Nat} {f : Rec → Rec} (hf : ∀ r, (f r).id = r.id) (a : AAcc) :
    a.Tended (a.modRec id f) := by
  refine ⟨rfl, fun r hr => ?_⟩
  obtain ⟨q, hq, rfl⟩ := List.mem_map.mp hr
  refine ⟨q, hq, ?_⟩
  split
  · exact (hf q).symm
  · rfl

/-- R132: the Announcement Router after a channel is changed; a channel that is not fitted is none. -/
theorem AAcc.modChannel_st (env : AEnv) (n : Nat) (f : Channel → Channel) (a : AAcc) :
    (a.modChannel env n f).st = { a.st with ar := { a.st.ar with channels := a.st.ar.channels.modify n f } } := by
  unfold AAcc.modChannel
  split
  case h_1 hnone =>
    have hsame : a.st.ar.channels.modify n f = a.st.ar.channels :=
      List.modify_eq_self (by simpa using hnone)
    rw [hsame]
  case h_2 =>
    dsimp only
    rw [Acc.emitIf_st]
    rfl

theorem AAcc.modChannel_tended {env : AEnv} {n : Nat} {f : Channel → Channel} (hf : ∀ c, (f c).lastSeen = c.lastSeen)
    (a : AAcc) : a.Tended (a.modChannel env n f) := by
  rw [AAcc.Tended, AAcc.modChannel_st]
  refine ⟨?_, fun r hr => ⟨r, hr, rfl⟩⟩
  refine List.ext_getElem? fun i => ?_
  simp only [List.getElem?_map, List.getElem?_modify]
  cases a.st.ar.channels[i]? with
  | none => rfl
  | some c =>
    by_cases hi : n = i
    · simp [hi, hf]
    · simp [hi]

theorem AAcc.grant_tended (env : AEnv) (id n : Nat) (a : AAcc) : a.Tended (a.grant env id n) := by
  unfold AAcc.grant
  split
  case h_1 => exact .refl _
  case h_2 r _ =>
    refine AR.Tended.trans ?_ (AAcc.report_tended ..)
    have granted : a.Tended (a.modChannel env n (fun c =>
        { c with
          holder := some id
          routing := r.owned
          programme := programmeOf r
          generation := raiseGeneration c.generation
          playTimer := startedTimer a.st.ar (programmeOf r) })) := by
      refine AAcc.modChannel_tended ?_ a
      exact fun _ => rfl
    refine granted.trans (AR.Tended.trans (y := (AAcc.modRec id (fun r => { r with channel := some n, state := .playing })
      (a.modChannel env n _)).st.ar) ?_ (.of_eq rfl rfl))
    refine AAcc.modRec_tended ?_ _
    exact fun _ => rfl

theorem AAcc.releaseOf_tended (env : AEnv) (id : Nat) (a : AAcc) : a.Tended (a.releaseOf env id) := by
  unfold AAcc.releaseOf
  split
  case h_1 => exact .refl _
  case h_2 n _ =>
    refine AR.Tended.trans (y := (a.modChannel env n releaseChannel).st.ar) ?_ ?_
    · refine AAcc.modChannel_tended ?_ a
      exact fun _ => rfl
    · refine AAcc.modRec_tended ?_ _
      exact fun _ => rfl

/-! ## Claims and the wait list -/

theorem AAcc.setClaims_tended (f : Nat) (c : Claims) (a : AAcc) : a.Tended (a.setClaims f c) := .of_eq rfl rfl

theorem AAcc.enterWaiting_tended (id : Nat) (a : AAcc) : a.Tended (a.enterWaiting id) := by
  have waiting : a.Tended (a.modRec id (fun r => { r with state := .waiting })) := by
    refine AAcc.modRec_tended ?_ a
    exact fun _ => rfl
  unfold AAcc.enterWaiting
  dsimp only
  split
  · exact waiting
  · exact waiting.trans (.of_eq rfl rfl)

theorem AAcc.gain_tended (id f : Nat) (a : AAcc) : a.Tended (a.gain id f) := by
  unfold AAcc.gain
  split
  case h_1 => exact .refl _
  case h_2 r _ =>
    have owned : a.Tended (a.modRec id (fun r => { r with owned := addBit r.owned f })) := by
      refine AAcc.modRec_tended ?_ a
      exact fun _ => rfl
    have entered := owned.trans (AAcc.enterWaiting_tended id _)
    dsimp only
    split
    · split
      · exact entered.trans (.of_eq rfl rfl)
      · exact entered.trans (AAcc.report_tended ..)
    · exact owned

theorem AAcc.promote_tended (env : AEnv) (f : Nat) (a : AAcc) : a.Tended (a.promote env f) := by
  unfold AAcc.promote
  dsimp only
  split
  · exact AAcc.setClaims_tended ..
  · exact (AAcc.setClaims_tended ..).trans (AAcc.gain_tended ..)

theorem AAcc.endClaimOfEnded_tended (env : AEnv) (id : Nat) (a : AAcc) (f : Nat) :
    a.Tended (a.endClaimOfEnded env id f) := by
  unfold AAcc.endClaimOfEnded
  dsimp only
  split
  · exact (AAcc.setClaims_tended ..).trans (AAcc.promote_tended ..)
  · split
    · exact AAcc.setClaims_tended ..
    · exact .refl _

theorem AAcc.flushDisplaced_tended (id : Nat) (a : AAcc) : a.Tended (a.flushDisplaced id) := by
  unfold AAcc.flushDisplaced
  split
  · exact .refl _
  · exact (AAcc.report_tended ..).trans (.of_eq rfl rfl)

theorem AAcc.yieldChannel_tended (env : AEnv) (id : Nat) (a : AAcc) : a.Tended (a.yieldChannel env id) :=
  ((AAcc.releaseOf_tended env id a).trans (AAcc.enterWaiting_tended ..)).trans (AAcc.report_tended ..)

/-! ## The end of a record (R122) -/

/-- R122: the record ended, and its claims gone. -/
def AAcc.unclaimed (env : AEnv) (id : Nat) (a : AAcc) : AAcc :=
  let a := a.modRec id (fun r => { r with state := .ended, owned := 0 })
  (List.range a.st.ar.claims.length).foldl (AAcc.endClaimOfEnded env id) a

/-- R122: the claims, the wait list entry and the channel of an ended record gone; what follows takes the record itself. -/
def AAcc.withdrawn (env : AEnv) (id : Nat) (a : AAcc) : AAcc :=
  (((a.flushDisplaced id).unclaimed env id).ar (fun x => { x with waitList := x.waitList.erase id })).releaseOf env id

theorem AAcc.unclaimed_tended (env : AEnv) (id : Nat) (a : AAcc) : a.Tended (a.unclaimed env id) := by
  refine AR.Tended.trans ?_ (AAcc.foldl_tended (AAcc.endClaimOfEnded_tended env id) _ _)
  refine AAcc.modRec_tended ?_ a
  exact fun _ => rfl

theorem AAcc.withdrawn_tended (env : AEnv) (id : Nat) (a : AAcc) : a.Tended (a.withdrawn env id) := by
  have unlisted : a.Tended (((a.flushDisplaced id).unclaimed env id).ar
      (fun x => { x with waitList := x.waitList.erase id })) :=
    ((AAcc.flushDisplaced_tended id a).trans (AAcc.unclaimed_tended ..)).trans (.of_eq rfl rfl)
  exact unlisted.trans (AAcc.releaseOf_tended ..)

theorem AAcc.endRecord_ar {env : AEnv} {cause : AnnCause} {id : Nat} {a : AAcc} {r : Rec}
    (h : findRec a.st.ar id = some r) : (a.endRecord env cause id).st.ar = { (a.withdrawn env id).st.ar with
      records := (a.withdrawn env id).st.ar.records.filter (fun r => r.id != id) } := by
  have hreport := congrArg ArCtx.ar (AAcc.report_st cause id (a.withdrawn env id) none)
  unfold AAcc.endRecord
  rw [h, ← hreport]
  rfl

theorem AAcc.endRecord_tended (env : AEnv) (cause : AnnCause) (id : Nat) (a : AAcc) :
    a.Tended (a.endRecord env cause id) := by
  cases h : findRec a.st.ar id with
  | none =>
    have hsame : a.endRecord env cause id = a := by rw [AAcc.endRecord, h]
    rw [hsame]
    exact .refl _
  | some r =>
    rw [AAcc.Tended, AAcc.endRecord_ar h]
    exact (AAcc.withdrawn_tended env id a).trans ⟨rfl, fun r hr => ⟨r, List.mem_of_mem_filter hr, rfl⟩⟩

/-- R122: an ended record's slot is free. -/
theorem AAcc.endRecord_gone {env : AEnv} {cause : AnnCause} {id : Nat} {a : AAcc} {r : Rec}
    (h : findRec a.st.ar id = some r) : findRec (a.endRecord env cause id).st.ar id = none := by
  rw [AAcc.endRecord_ar h]
  refine List.find?_eq_none.mpr fun r hr => ?_
  simpa using (List.mem_filter.mp hr).2

/-! ## The settlement (R130) -/

theorem AAcc.serve_tended (env : AEnv) (id : Nat) (a : AAcc) : a.Tended (a.serve env id) := by
  unfold AAcc.serve
  split
  · exact .refl _
  · dsimp only
    split
    · split
      · split
        · exact AAcc.grant_tended ..
        · exact .refl _
      · exact .refl _
    · split
      · exact AAcc.grant_tended ..
      · split
        · exact .refl _
        · split
          · exact .refl _
          · split
            · exact .refl _
            · split
              · exact (AAcc.endRecord_tended ..).trans (AAcc.grant_tended ..)
              · exact (AAcc.yieldChannel_tended ..).trans (AAcc.grant_tended ..)

theorem AAcc.servePass_tended (env : AEnv) (n : Nat) (met : List Nat) (a : AAcc) :
    a.Tended (AAcc.servePass env n met a) := by
  induction n generalizing met a with
  | zero => exact .refl _
  | succ n ih =>
    unfold AAcc.servePass
    split
    · exact .refl _
    · exact (AAcc.serve_tended ..).trans (ih _ _)

theorem AAcc.routeHeld_tended (env : AEnv) (a : AAcc) : a.Tended (a.routeHeld env) := by
  refine AAcc.foldl_tended (fun b r => ?_) _ a
  split
  · refine AAcc.modChannel_tended ?_ b
    exact fun _ => rfl
  · exact .refl _

theorem AAcc.reportNoChannel_tended (a : AAcc) : a.Tended a.reportNoChannel := by
  unfold AAcc.reportNoChannel
  split
  · split
    · exact AAcc.report_tended ..
    · exact .refl _
  · exact .refl _

/-- R130: a settlement of the pool. -/
theorem AAcc.settle_tended (env : AEnv) (a : AAcc) : a.Tended (a.settle env) := by
  have flushed : a.Tended a.flushAllDisplaced := AAcc.foldl_tended (fun b id => AAcc.flushDisplaced_tended id b) _ a
  have released := flushed.trans (AAcc.foldl_tended (fun b (r : Rec) => AAcc.releaseOf_tended env r.id b)
    (a.flushAllDisplaced.st.ar.records.filter (fun r => r.channel.isSome &&
      (r.owned = 0 || !(r.state = .playing || r.state = .ending)))) _)
  have served := (released.trans (AAcc.routeHeld_tended env _)).trans (AAcc.servePass_tended env 64 [] _)
  exact (served.trans (AAcc.routeHeld_tended env _)).trans (AAcc.reportNoChannel_tended _)

/-- R130: what an event's end leaves of the Announcement Router. -/
theorem finish_orderLift_tended (n : Nat) (s : State) : s.ar.Tended (finish (orderLift n s)).ar := by
  rw [finish_eq]
  change s.ar.Tended (settled (orderLift n s)).ar
  unfold settled
  split
  · rw [liftAr_ar]
    exact AAcc.settle_tended _ ⟨⟨s.ar, s.ev⟩, []⟩
  · exact .refl _

/-! ## The matrix node up (R142) -/

theorem AAcc.matrixUp_tended (env : AEnv) (a : AAcc) : a.Tended (a.matrixUp env) := by
  refine AR.Tended.trans (y := (a.ar (fun x => { x with up := true })).st.ar) (.of_eq rfl rfl) ?_
  refine AAcc.foldl_tended (fun b n => ?_) _ _
  refine AAcc.modChannel_tended (fun c => ?_) b
  split <;> rfl

theorem replySupervised_matrix (sl : Slot) (r : FieldReply) (s : State) : s.ar.Tended (replySupervised .a sl r s).ar := by
  obtain h | ⟨u, hu, h⟩ := replySupervised_cases .a sl r s
  · rw [h.ar]
    exact .refl _
  · have told : (tellUp .a sl.address u).ar = (AAcc.matrixUp u.aenv ⟨⟨u.ar, u.ev⟩, []⟩).st.ar := liftAr_ar ..
    rw [h.ar, told, ← hu.ar]
    exact AAcc.matrixUp_tended u.aenv ⟨⟨u.ar, u.ev⟩, []⟩

end Sys2Proof.Machine
end

section
/-!
MATRIX_STATUS (R133, R151): the marks of a reply written into the fitted channels, and the plays that they count.
-/

namespace Sys2Proof.Machine

/-! ## One mark -/

theorem mem_indexedFrom {α : Type} {l : List α} {n i : Nat} {x : α} :
    (i, x) ∈ indexedFrom n l ↔ n ≤ i ∧ l[i - n]? = some x := by
  induction l generalizing n with
  | nil => simp [indexedFrom]
  | cons y l ih =>
    rw [indexedFrom, List.mem_cons, ih, Prod.mk.injEq]
    obtain hlt | rfl | hgt := Nat.lt_trichotomy i n
    · omega
    · simp [eq_comm]
    · obtain ⟨j, rfl⟩ : ∃ j, i = n + 1 + j := ⟨i - (n + 1), by omega⟩
      have hsub : n + 1 + j - n = j + 1 := by omega
      rw [hsub, List.getElem?_cons_succ, Nat.add_sub_cancel_left]
      constructor
      · rintro (⟨h, -⟩ | ⟨-, h⟩)
        · omega
        · exact ⟨by omega, h⟩
      · rintro ⟨-, h⟩
        exact .inr ⟨by omega, h⟩

/-- R133: the last seen mark of one channel written. -/
def AAcc.see (nm : Nat × Nat) (a : AAcc) : AAcc :=
  a.ar (fun x => { x with channels := x.channels.modify nm.1 (fun c => { c with lastSeen := some nm.2 }) })

/-- A channel that has the mark already, or is not fitted. -/
theorem AAcc.see_self {nm : Nat × Nat} {a : AAcc}
    (h : ∀ c, a.st.ar.channels[nm.1]? = some c → c.lastSeen = some nm.2) : a.see nm = a := by
  have hchannels : a.st.ar.channels.modify nm.1 (fun c => { c with lastSeen := some nm.2 }) = a.st.ar.channels := by
    refine List.ext_getElem? fun i => ?_
    rw [List.getElem?_modify]
    cases hc : a.st.ar.channels[i]? with
    | none => rfl
    | some c =>
      by_cases hi : nm.1 = i
      · have hlast := h c (hi ▸ hc)
        simp [hi, ← hlast]
      · simp [hi]
  change ({ a with st := { a.st with ar := { a.st.ar with channels := _ } } } : AAcc) = a
  rw [hchannels]

/-- R133: the plays that a mark counts leave the last seen marks. -/
theorem AAcc.countPlay_tended (env : AEnv) (n : Nat) (a : AAcc) : a.Tended (a.countPlay env n) := by
  unfold AAcc.countPlay
  split
  case h_1 => exact .refl _
  case h_2 id _ =>
    have counted : a.Tended (a.modRec id (fun r => { r with plays := min 255 (r.plays + 1) })) := by
      refine AAcc.modRec_tended ?_ a
      exact fun _ => rfl
    have stopped (b : AAcc) : b.Tended (b.modChannel env n (fun c => { c with playTimer := none })) := by
      refine AAcc.modChannel_tended ?_ b
      exact fun _ => rfl
    have played := counted.trans (stopped _)
    dsimp only
    split
    · exact played
    · split
      · exact played.trans (AAcc.endRecord_tended ..)
      · split
        · refine played.trans (AAcc.modChannel_tended ?_ _)
          exact fun _ => rfl
        · exact played.trans (AAcc.endRecord_tended ..)

theorem AAcc.takeMark_see (env : AEnv) (a : AAcc) (nm : Nat × Nat) : (a.see nm).Tended (a.takeMark env nm) := by
  unfold AAcc.takeMark
  split
  case h_1 hnone =>
    rw [AAcc.see_self (by simp [hnone])]
    exact .refl _
  case h_2 c _ =>
    dsimp only
    split
    · exact AAcc.countPlay_tended ..
    · exact .refl _

/-- R133: a mark that a channel has already counts nothing. -/
theorem AAcc.takeMark_self {env : AEnv} {a : AAcc} {nm : Nat × Nat}
    (h : ∀ c, a.st.ar.channels[nm.1]? = some c → c.lastSeen = some nm.2) : a.takeMark env nm = a := by
  unfold AAcc.takeMark
  split
  case h_1 => rfl
  case h_2 c hc =>
    have hcounts : ¬ markCounts a.st.ar c nm.2 = true := by simp [markCounts, h c hc]
    exact (if_neg hcounts).trans (AAcc.see_self h)

/-- The last seen mark of a channel after one mark is taken. -/
theorem AAcc.takeMark_seen {env : AEnv} {a : AAcc} {nm : Nat × Nat} {j : Nat} {c : Channel}
    (hc : (a.takeMark env nm).st.ar.channels[j]? = some c) : ∃ d, a.st.ar.channels[j]? = some d ∧
      c.lastSeen = if nm.1 = j then some nm.2 else d.lastSeen := by
  obtain ⟨e, he, hlast⟩ := (AAcc.takeMark_see env a nm).channel hc
  have hsee : (a.see nm).st.ar.channels = a.st.ar.channels.modify nm.1 (fun c => { c with lastSeen := some nm.2 }) := rfl
  rw [hsee, List.getElem?_modify] at he
  obtain ⟨d, hd, rfl⟩ := Option.map_eq_some_iff.mp he
  refine ⟨d, hd, hlast.trans ?_⟩
  split <;> rfl

/-- R133: the marks of a reply, those of channels not fitted not read. -/
theorem AAcc.takeMarks_seen {env : AEnv} {a : AAcc} {marks : List Nat} {n m : Nat} (hm : marks[n]? = some m) :
    ∀ c, (a.takeMarks env marks).st.ar.channels[n]? = some c → c.lastSeen = some m := by
  have hlisted : ∀ nm ∈ indexedFrom 0 marks, nm.1 = n → nm.2 = m := by
    rintro ⟨i, x⟩ hnm rfl
    obtain ⟨-, hx⟩ := mem_indexedFrom.mp hnm
    exact Option.some.inj (hx.symm.trans hm)
  refine foldl_reaches (P := fun _ : AAcc => True)
    (Q := fun b : AAcc => ∀ c, b.st.ar.channels[n]? = some c → c.lastSeen = some m)
    (hit := fun nm : Nat × Nat => nm.1 = n) ?_ (fun _ _ _ _ _ => trivial) ?_
    ⟨(n, m), mem_indexedFrom.mpr ⟨Nat.zero_le _, hm⟩, rfl⟩ trivial
  · intro b nm hnm hn _ c hc
    obtain ⟨d, -, hlast⟩ := AAcc.takeMark_seen hc
    rw [hlast, if_pos hn, hlisted nm hnm hn]
  · intro b nm hnm hb c hc
    obtain ⟨d, hd, hlast⟩ := AAcc.takeMark_seen hc
    rw [hlast]
    split
    case isTrue hn => rw [hlisted nm hnm hn]
    case isFalse => exact hb d hd

/-- R133, R151: the Announcement Router after the marks of a reply. -/
theorem replyDelivered_matrix (sl : Slot) (marks : List Nat) (s : State) :
    ∃ env, (replyDelivered .a sl (.matrix marks) s).ar = (AAcc.takeMarks env marks ⟨⟨s.ar, s.ev⟩, []⟩).st.ar ∧
      (replyDelivered .a sl (.matrix marks) s).ev = (AAcc.takeMarks env marks ⟨⟨s.ar, s.ev⟩, []⟩).st.ev := by
  refine ⟨(slotAnswered .a sl s).aenv, liftAr_ar .., ?_⟩
  exact applyEffs_ev ..

/-- R133, R151: the marks of a reply delivered. -/
theorem matrixStatusDelivers (s : State) (a c : Byte) (p : List Byte) (sl : Slot) (marks : List Nat)
    (hpower : s.powered = true) (hvalid : ValidReply s ⟨.a, a, 0x46#8, c, p⟩ sl (.matrix marks)) :
    ∃ t, exec (.matrixStatus .a a c p) s = .next t ∧
      ∀ (n : Nat) (ch : Channel) (m : Nat), t.ar.channels[n]? = some ch → marks[n]? = some m → ch.lastSeen = some m := by
  obtain ⟨env, har, -⟩ := replyDelivered_matrix sl marks s.cleared
  have tended := (replySupervised_matrix sl (.matrix marks) (replyDelivered .a sl (.matrix marks) s.cleared)).trans
    (finish_orderLift_tended s.sp.reports.length _)
  refine ⟨_, hvalid.exec_eq (i := .matrixStatus .a a c p) rfl hpower, fun n ch m hch hm => ?_⟩
  obtain ⟨d, hd, hlast⟩ := tended.channel hch
  rw [har] at hd
  exact hlast.trans (AAcc.takeMarks_seen hm d hd)

end Sys2Proof.Machine
end

section
/-!
A play counted by a mark (R133): the record of the channel goes on with the next play, or is ended.
-/

namespace Sys2Proof.Machine

/-! ## A reply with one new mark -/

/-- R133: of the marks of a reply in which one alone is new, that one is taken. -/
theorem AAcc.takeMarks_single {env : AEnv} {a : AAcc} {marks : List Nat} {n m : Nat} (hm : marks[n]? = some m)
    (hothers : ∀ j x, j ≠ n → a.st.ar.channels[j]? = some x → x.lastSeen = marks[j]?) :
    a.takeMarks env marks = a.takeMark env (n, m) := by
  refine foldl_reaches (P := fun b : AAcc => b = a) (Q := fun b : AAcc => b = a.takeMark env (n, m))
    (hit := fun nm : Nat × Nat => nm.1 = n) ?_ ?_ ?_ ⟨(n, m), mem_indexedFrom.mpr ⟨Nat.zero_le _, hm⟩, rfl⟩ rfl
  · rintro b ⟨i, x⟩ hnm rfl rfl
    obtain rfl : x = m := Option.some.inj ((mem_indexedFrom.mp hnm).2.symm.trans hm)
    rfl
  · rintro b ⟨i, x⟩ hnm hne rfl
    refine AAcc.takeMark_self fun c hc => ?_
    rw [hothers i c hne hc]
    exact (mem_indexedFrom.mp hnm).2
  · rintro b ⟨i, x⟩ hnm rfl
    refine AAcc.takeMark_self fun c hc => ?_
    have hx : marks[i]? = some x := (mem_indexedFrom.mp hnm).2
    obtain ⟨d, hd, hlast⟩ := AAcc.takeMark_seen hc
    rw [hlast]
    by_cases hi : n = i
    · subst hi
      rw [if_pos rfl]
      exact hm.symm.trans hx
    · rw [if_neg hi, hothers i d (Ne.symm hi) hd]
      exact hx

/-! ## The play counted -/

theorem AAcc.findRec_modRec {id : Nat} {f : Rec → Rec} (hf : ∀ r, (f r).id = r.id) {a : AAcc} {r : Rec}
    (h : findRec a.st.ar id = some r) : findRec (a.modRec id f).st.ar id = some (f r) := by
  have hrecords : (a.modRec id f).st.ar.records = a.st.ar.records.map (fun r => if r.id = id then f r else r) := by
    simp only [AAcc.modRec, mapIf, decide_eq_true_eq]
    rfl
  have hkey : (fun r : Rec => decide (r.id = id)) ∘ (fun r => if r.id = id then f r else r) =
      fun r => decide (r.id = id) := by
    funext r
    by_cases hr : r.id = id <;> simp [hr, hf]
  have hid : r.id = id := by simpa using List.find?_some h
  rw [findRec, hrecords, List.find?_map, hkey, ← findRec, h, Option.map_some, if_pos hid]

/-- R133: one more play of a record, at most 255. -/
def Rec.played (r : Rec) : Rec := { r with plays := min 255 (r.plays + 1) }

/-- R133: the play counted, and the play timer stopped. -/
def AAcc.counted (env : AEnv) (n id : Nat) (a : AAcc) : AAcc :=
  (a.modRec id Rec.played).modChannel env n (fun c => { c with playTimer := none })

theorem AAcc.counted_ar (env : AEnv) (n id : Nat) (a : AAcc) : (a.counted env n id).st.ar =
    { (a.modRec id Rec.played).st.ar with
      channels := a.st.ar.channels.modify n (fun c => { c with playTimer := none }) } := by
  rw [AAcc.counted, AAcc.modChannel_st]
  rfl

theorem AAcc.findRec_counted (env : AEnv) (n : Nat) {id : Nat} {a : AAcc} {r : Rec} (h : findRec a.st.ar id = some r) :
    findRec (a.counted env n id).st.ar id = some r.played := by
  rw [AAcc.counted_ar]
  refine AAcc.findRec_modRec ?_ h
  exact fun _ => rfl

section Counted

variable {env : AEnv} {n id : Nat} {a : AAcc} {r : Rec} {ch : Channel} (hch : a.st.ar.channels[n]? = some ch)
  (hholder : ch.holder = some id) (hr : findRec a.st.ar id = some r)
include hch hholder hr

/-- R133: what becomes of the record of a channel on which a play is counted. -/
theorem AAcc.countPlay_eq : a.countPlay env n =
    if r.state = .ending then (a.counted env n id).endRecord env .cancelled id
    else if r.repeats = 0 || r.played.plays < r.repeats then
      (a.counted env n id).modChannel env n (fun c =>
        { c with
          generation := raiseGeneration c.generation
          playTimer := startedTimer (a.counted env n id).st.ar c.programme })
    else (a.counted env n id).endRecord env .completed id := by
  have hfound := AAcc.findRec_counted env n hr
  unfold AAcc.countPlay
  rw [hch, Option.bind_some, hholder]
  change (match findRec (a.counted env n id).st.ar id with
    | none => a.counted env n id
    | some r => _) = _
  rw [hfound]
  rfl

/-- R133: a PLAYING record whose repeats are not used up plays again, with the next generation. -/
theorem AAcc.countPlay_again (hs : r.state = .playing) (hrepeat : r.repeats = 0 ∨ r.plays + 1 < r.repeats) :
    (a.countPlay env n).st.ev = a.st.ev ∧ findRec (a.countPlay env n).st.ar id = some r.played ∧
      ∃ c, (a.countPlay env n).st.ar.channels[n]? = some c ∧ c.generation = raiseGeneration ch.generation ∧
        c.holder = some id ∧ c.programme = ch.programme := by
  have hgoes : (r.repeats = 0 || r.played.plays < r.repeats) = true := by
    have hplays : r.played.plays ≤ r.plays + 1 := Nat.min_le_right ..
    simp only [Bool.or_eq_true, decide_eq_true_eq]
    omega
  rw [AAcc.countPlay_eq hch hholder hr, if_neg (by rw [hs]; decide), if_pos hgoes, AAcc.modChannel_st]
  refine ⟨?_, AAcc.findRec_counted env n hr, ?_⟩
  · rw [AAcc.counted, AAcc.modChannel_st]
    rfl
  · dsimp only
    rw [List.getElem?_modify_eq, AAcc.counted_ar, List.getElem?_modify_eq, hch]
    exact ⟨_, rfl, rfl, hholder, rfl⟩

/-- R133, R122: an ENDING record, or one whose repeats are used up, is ended. -/
theorem AAcc.countPlay_ends
    (hs : r.state = .ending ∨ r.state = .playing ∧ r.repeats ≠ 0 ∧ r.repeats ≤ min 255 (r.plays + 1)) :
    findRec (a.countPlay env n).st.ar id = none := by
  have hfound := AAcc.findRec_counted env n hr
  rw [AAcc.countPlay_eq hch hholder hr]
  obtain hs | ⟨hs, hrepeats, hused⟩ := hs
  · rw [if_pos hs]
    exact AAcc.endRecord_gone hfound
  · have hover : ¬ (r.repeats = 0 || r.played.plays < r.repeats) = true := by
      have hplays : r.played.plays = min 255 (r.plays + 1) := rfl
      simp only [Bool.or_eq_true, decide_eq_true_eq]
      omega
    rw [if_neg (by rw [hs]; decide), if_neg hover]
    exact AAcc.endRecord_gone hfound

end Counted

theorem deliverMatrix_steady (sl : Slot) (marks : List Nat) (s : State) :
    Steady s (replyDelivered .a sl (.matrix marks) s) := by
  refine (slotAnswered_steady .a sl s).trans ?_
  unfold replyDelivered deliver
  exact liftAr_steady _ _

/-- R133, R151: a play counted by the one new mark of a LIVE matrix node's reply. -/
theorem markDelivers (s : State) (a c : Byte) (p : List Byte) (sl : Slot) (marks : List Nat) (nd : Node)
    (n id m : Nat) (ch : Channel) (r : Rec) (hpower : s.powered = true)
    (hvalid : ValidReply s ⟨.a, a, 0x46#8, c, p⟩ sl (.matrix marks))
    (hn : findNode s.flc.nodes .a sl.address = some nd) (hl : nd.link = .live) (hup : s.ar.up = true)
    (hch : s.ar.channels[n]? = some ch) (hholder : ch.holder = some id) (hprogramme : ch.programme = .message m)
    (hr : findRec s.ar id = some r) (hm : marks[n]? = some ch.generation) (hnew : ch.lastSeen ≠ some ch.generation)
    (hothers : ∀ j x, j ≠ n → s.ar.channels[j]? = some x → x.lastSeen = marks[j]?) :
    ∃ t, exec (.matrixStatus .a a c p) s = .next t ∧
      (r.state = .playing → (r.repeats = 0 ∨ r.plays + 1 < r.repeats) →
        findRec t.ar id = some r.played ∧ ∃ ch', t.ar.channels[n]? = some ch' ∧
          ch'.generation = raiseGeneration ch.generation ∧ ch'.holder = some id ∧ ch'.programme = ch.programme) ∧
      ((r.state = .ending ∨ r.state = .playing ∧ r.repeats ≠ 0 ∧ r.repeats ≤ min 255 (r.plays + 1)) →
        findRec t.ar id = none) := by
  obtain ⟨env, har, hev⟩ := replyDelivered_matrix sl marks s.cleared
  obtain ⟨n', hn', hl'⟩ := (deliverMatrix_steady sl marks s.cleared).live hn hl
  obtain ⟨y, hy⟩ := replySupervised_live (.matrix marks) hn' hl'
  have hend := finish_orderLift_endsIn s.sp.reports.length
    (replySupervised .a sl (.matrix marks) (replyDelivered .a sl (.matrix marks) s.cleared))
  have tended := finish_orderLift_tended s.sp.reports.length
    (replySupervised .a sl (.matrix marks) (replyDelivered .a sl (.matrix marks) s.cleared))
  have hcounts : markCounts s.ar ch ch.generation = true := by simp [markCounts, hup, hnew, hholder, hprogramme]
  have hmark : AAcc.takeMarks env marks ⟨⟨s.cleared.ar, s.cleared.ev⟩, []⟩ =
      (AAcc.see (n, ch.generation) ⟨⟨s.ar, Scratch.clear⟩, []⟩).countPlay env n := by
    rw [AAcc.takeMarks_single (a := ⟨⟨s.cleared.ar, s.cleared.ev⟩, []⟩) hm hothers, AAcc.takeMark, hch]
    exact if_pos hcounts
  have hseen : (AAcc.see (n, ch.generation) ⟨⟨s.ar, Scratch.clear⟩, []⟩).st.ar.channels[n]? =
      some { ch with lastSeen := some ch.generation } := by
    have hsee : (AAcc.see (n, ch.generation) ⟨⟨s.ar, Scratch.clear⟩, []⟩).st.ar.channels =
        s.ar.channels.modify n (fun c => { c with lastSeen := some ch.generation }) := rfl
    rw [hsee, List.getElem?_modify_eq, hch]
    rfl
  rw [hmark] at har hev
  refine ⟨_, hvalid.exec_eq (i := .matrixStatus .a a c p) rfl hpower, fun hs hrepeat => ?_, fun hs => ?_⟩
  · obtain ⟨hclear, hplayed, hagain⟩ := AAcc.countPlay_again (env := env) hseen hholder hr hs hrepeat
    have hsame := (hend.flc_ar (by rw [hy]; exact congrArg Scratch.arTouched (hev.trans hclear))).2
    rw [hsame, hy]
    dsimp only
    rw [har]
    exact ⟨hplayed, hagain⟩
  · refine tended.gone ?_
    rw [hy]
    dsimp only
    rw [har]
    exact AAcc.countPlay_ends hseen hholder hr hs

end Sys2Proof.Machine
end

section
/-!
What the replies deliver: the parts put together.
-/

namespace Sys2Proof.Machine

/-- Settles O53: a kind of reply at a time, then the answers and the plays. -/
theorem repliesDeliver : Obligations.RepliesDeliver := by
  refine ⟨snapshotDelivers, groupStatusDelivers, moduleStatusDelivers, matrixStatusDelivers, ?_, markDelivers⟩
  intro s k a c p sl echo b m nd g car hpower hvalid hcarried hn hl hg hdown _ hcar
  exact answerDelivers s k a c p sl echo b m nd g car hpower hvalid hcarried hn hl hg hdown hcar

end Sys2Proof.Machine
end

section
/-!
What an event can do to the ranges of R57, R61, R154 and R158: each change of a node record or of a stair record keeps them, and
every operation is composed of such changes and of changes elsewhere.
-/

namespace Sys2Proof.Machine

/-! ## The ranges -/

/-- R154, R158: the ranges of one node record. -/
def Node.Bounded (n : Node) : Prop := n.good ≤ 255 ∧ n.miss ≤ 15 ∧ n.actions.length ≤ 4

/-- R57, R61: the ranges of one stair record. -/
def Stair.Bounded (st : Stair) : Prop := st.load ≤ 65535 ∧ st.credit ≤ 5

theorem nodesBounded_iff (s : State) : s.NodesBounded ↔ ∀ n ∈ s.flc.nodes, n.Bounded := .rfl

theorem stairsBounded_iff (s : State) : s.StairsBounded ↔ ∀ st ∈ s.es.stairs, st.Bounded := .rfl

/-- Each of the two families of ranges, where it holds before, holds after. -/
structure KeepsRanges (s t : State) : Prop where
  nodes : s.NodesBounded → t.NodesBounded
  stairs : s.StairsBounded → t.StairsBounded

theorem KeepsRanges.refl (s : State) : KeepsRanges s s := ⟨id, id⟩

theorem KeepsRanges.trans {a b c : State} (h : KeepsRanges a b) (k : KeepsRanges b c) : KeepsRanges a c :=
  ⟨k.nodes ∘ h.nodes, k.stairs ∘ h.stairs⟩

theorem KeepsRanges.ite {c : Prop} [Decidable c] {s a b : State} (h : KeepsRanges s a) (k : KeepsRanges s b) :
    KeepsRanges s (if c then a else b) := by
  split
  · exact h
  · exact k

theorem KeepsRanges.foldl {α : Type} {op : State → α → State} (h : ∀ s a, KeepsRanges s (op s a)) (l : List α)
    (s : State) : KeepsRanges s (l.foldl op s) :=
  foldl_keeps (P := KeepsRanges s) (fun b a hb => hb.trans (h b a)) l s (.refl s)

/-- A change elsewhere. -/
theorem KeepsRanges.of_same {s t : State} (hn : t.flc.nodes = s.flc.nodes) (hs : t.es.stairs = s.es.stairs) :
    KeepsRanges s t where
  nodes h := by rwa [nodesBounded_iff, hn]
  stairs h := by rwa [stairsBounded_iff, hs]

/-! ## The node records (R154, R158) -/

theorem countGood_bounded (n : Node) (h : n.Bounded) : (countGood n).Bounded :=
  ⟨Nat.min_le_left .., Nat.zero_le _, h.2.2⟩

theorem countMiss_bounded (n : Node) (h : n.Bounded) : (countMiss n).Bounded :=
  ⟨Nat.zero_le _, Nat.min_le_left .., h.2.2⟩

theorem fallTo_bounded (l : LinkState) (n : Node) (h : n.Bounded) : (n.fallTo l).Bounded :=
  ⟨h.1, h.2.1, Nat.zero_le _⟩

theorem warmNode_bounded (n : Node) : (warmNode n).Bounded := ⟨Nat.zero_le _, Nat.zero_le _, Nat.zero_le _⟩

/-- R151: an answered action leaves the queue shorter, an answered image leaves it. -/
theorem answeredNode_bounded (c : Carried) (n : Node) (h : n.Bounded) : (answeredNode c n).Bounded := by
  cases c with
  | poll => exact h
  | action a => exact ⟨h.1, h.2.1, by simpa [answeredNode] using h.2.2.trans (Nat.le_succ 4)⟩
  | image name => exact h

theorem missedNode_bounded (c : Carried) (n : Node) (h : n.Bounded) : (missedNode c n).Bounded := by
  cases c <;> exact h

theorem sequenceNode_bounded (c : Carried) (r : FieldReply) (n : Node) (h : n.Bounded) : (sequenceNode c r n).Bounded := by
  unfold sequenceNode
  split <;> exact h

theorem restRotation_bounded (n : Node) (h : n.Bounded) : (restRotation n).Bounded := by
  unfold restRotation
  split <;> exact h

theorem sentFrom_bounded (n : Node) (h : n.Bounded) : (sentFrom n).Bounded := by
  unfold sentFrom
  split <;> exact h

/-- A node record changed by what keeps its ranges. -/
theorem FLC.modNode_bounded {port : Line} {address : Nat} {f : Node → Node} (hf : ∀ n, n.Bounded → (f n).Bounded)
    {x : FLC} (h : ∀ n ∈ x.nodes, n.Bounded) : ∀ n ∈ (x.modNode port address f).nodes, n.Bounded := by
  intro n hn
  obtain ⟨m, hm, rfl⟩ := List.mem_map.mp hn
  split
  · exact hf m (h m hm)
  · exact h m hm

/-- The marks or the list of a node's images changed. -/
theorem FLC.modNode_images_bounded (port : Line) (address : Nat) (f : Node → List ImageMark) {x : FLC}
    (h : ∀ n ∈ x.nodes, n.Bounded) :
    ∀ n ∈ (x.modNode port address (fun n => { n with images := f n })).nodes, n.Bounded :=
  FLC.modNode_bounded (f := fun n => { n with images := f n }) (fun _ hn => hn) h

/-- R154: an action joins a queue with room alone. -/
theorem FLC.pushAction_bounded (port : Line) (address : Nat) (a : Action) {x : FLC} (h : ∀ n ∈ x.nodes, n.Bounded) :
    ∀ n ∈ (x.pushAction port address a).nodes, n.Bounded := by
  refine FLC.modNode_bounded (fun n hn => ?_) h
  split
  case isTrue hroom => exact ⟨hn.1, hn.2.1, by simpa [Config.actionCap] using hroom⟩
  case isFalse => exact hn

theorem modFlc_ranges {f : FLC → FLC} {s : State}
    (h : (∀ n ∈ s.flc.nodes, n.Bounded) → ∀ n ∈ (f s.flc).nodes, n.Bounded) : KeepsRanges s (s.modFlc f) := ⟨h, id⟩

theorem modNodeAt_ranges {f : Node → Node} (hf : ∀ n, n.Bounded → (f n).Bounded) (port : Line) (address : Nat)
    (s : State) : KeepsRanges s (modNodeAt port address f s) := modFlc_ranges (FLC.modNode_bounded hf)

/-! ## The shared operations -/

theorem modSp_ranges (f : SP → SP) (s : State) : KeepsRanges s (s.modSp f) := .of_same rfl rfl

theorem modZe_ranges (f : ZE → ZE) (s : State) : KeepsRanges s (s.modZe f) := .of_same rfl rfl

theorem modRc_ranges (f : RC → RC) (s : State) : KeepsRanges s (s.modRc f) := .of_same rfl rfl

theorem modCs_ranges (f : CS → CS) (s : State) : KeepsRanges s (s.modCs f) := .of_same rfl rfl

theorem offer_ranges (cls : Cls) (body : Body) (s : State) : KeepsRanges s (offer cls body s) :=
  .of_same (by simp) (by simp)

theorem troubleMove_ranges (src : Source) (rise : Bool) (s : State) : KeepsRanges s (troubleMove src rise s) :=
  .of_same (by simp) (by simp)

theorem applyEff_ranges (s : State) (e : Eff) : KeepsRanges s (applyEff s e) := by
  cases e with
  | report cls body => exact offer_ranges cls body s
  | trouble src rise => exact troubleMove_ranges src rise s
  | dirty port address name => exact modFlc_ranges (FLC.modNode_images_bounded port address _)
  | withdraw port address name => exact modFlc_ranges (FLC.modNode_images_bounded port address _)
  | addImage port address name => exact modFlc_ranges (FLC.modNode_images_bounded port address _)
  | broadcast loop => exact .of_same (askBroadcast_nodes loop s.flc) rfl

theorem applyEffs_ranges (l : List Eff) (s : State) : KeepsRanges s (applyEffs l s) :=
  KeepsRanges.foldl applyEff_ranges l s

theorem liftLc_ranges (f : Acc LC → Acc LC) (s : State) : KeepsRanges s (s.liftLc f) :=
  .trans (b := { s with lc := (f ⟨s.lc, []⟩).st }) (.of_same rfl rfl) (applyEffs_ranges _ _)

theorem liftDs_ranges (f : Acc DS → Acc DS) (s : State) : KeepsRanges s (s.liftDs f) :=
  .trans (b := { s with ds := (f ⟨s.ds, []⟩).st }) (.of_same rfl rfl) (applyEffs_ranges _ _)

theorem liftAr_ranges (f : Acc ArCtx → Acc ArCtx) (s : State) : KeepsRanges s (s.liftAr f) :=
  .trans (b := { s with ar := (f ⟨⟨s.ar, s.ev⟩, []⟩).st.ar, ev := (f ⟨⟨s.ar, s.ev⟩, []⟩).st.ev }) (.of_same rfl rfl)
    (applyEffs_ranges _ _)

/-! ## The stair records (R57, R61) -/

/-- R57: an addition saturates. -/
theorem loadedStair_bounded (share : Nat) (st : Stair) (h : st.Bounded) : (loadedStair share st).Bounded :=
  ⟨Nat.min_le_left .., h.2⟩

/-- R61: a drain takes from the load, and leaves a remainder of a division by 6. -/
theorem drainedStair_bounded (st : Stair) (h : st.Bounded) : (drainedStair st).Bounded := by
  refine ⟨(Nat.sub_le ..).trans h.1, ?_⟩
  unfold drainedStair
  dsimp only
  split
  · exact Nat.zero_le 5
  · exact Nat.le_of_lt_succ (Nat.mod_lt _ (by decide))

theorem reopenedStair_bounded (st : Stair) (h : st.Bounded) : (reopenedStair st).Bounded := h

theorem clearedStair_bounded (st : Stair) : (clearedStair st).Bounded := ⟨Nat.zero_le _, Nat.zero_le _⟩

theorem modStair_ranges {f : Stair → Stair} (hf : ∀ st, st.Bounded → (f st).Bounded) (i : Nat) (s : State) :
    KeepsRanges s (s.modEs (ES.modStair i f)) := ⟨id, forall_mem_modify hf⟩

/-- The pending list and the advance timer changed. -/
theorem modEs_ranges {f : ES → ES} {s : State} (h : (f s.es).stairs = s.es.stairs) : KeepsRanges s (s.modEs f) :=
  .of_same rfl h

theorem reportFloor_ranges (cls : Cls) (cause : FloorCause) (f : Nat) (s : State) :
    KeepsRanges s (reportFloor cls cause f s) := by
  unfold reportFloor
  split
  · exact offer_ranges ..
  · exact .refl s

theorem reportStair_ranges (cause : StairCause) (i : Nat) (floor : Option (Nat × Label)) (s : State) :
    KeepsRanges s (reportStair cause i floor s) := by
  unfold reportStair
  split
  · exact offer_ranges ..
  · exact .refl s

theorem admitFloor_ranges (kind : AdmKind) (shares : Option (List (Nat × Nat))) (told : Bool) (f : Nat) (s : State) :
    KeepsRanges s (admitFloor kind shares told f s) := by
  refine .ite (.trans ?_ ((liftDs_ranges ..).trans (liftAr_ranges ..))) (.refl s)
  exact .ite ((modRc_ranges ..).trans (reportFloor_ranges ..)) (modRc_ranges ..)

theorem addShare_ranges (s : State) (e : Nat × Nat) : KeepsRanges s (addShare s e) := by
  unfold addShare
  split
  · exact .refl s
  · rename_i st _
    have added := modStair_ranges (loadedStair_bounded e.2) e.1 s
    have told := KeepsRanges.ite (c := (loadedStair e.2 st).cond = st.cond) added
      (added.trans (reportStair_ranges .congested e.1 none _))
    exact .ite (.refl s) (.ite told (told.trans (reportStair_ranges ..)))

theorem admitStep_ranges (kind : AdmKind) (f : Nat) (s : State) : KeepsRanges s (admitStep kind f s) := by
  have off : KeepsRanges s (s.modEs (fun x => { x with waiting := x.waiting.erase f })) := modEs_ranges rfl
  unfold admitStep
  split
  · exact off
  · refine .ite ?_ off
    dsimp only
    split
    · exact (off.trans (admitFloor_ranges ..)).trans (reportStair_ranges ..)
    · exact (off.trans (admitFloor_ranges ..)).trans (KeepsRanges.foldl addShare_ranges _ _)

theorem restartAdvance_ranges (s : State) : KeepsRanges s (restartAdvance s) := modEs_ranges rfl

theorem stopAdvance_ranges (s : State) : KeepsRanges s (stopAdvance s) := modEs_ranges rfl

theorem attemptRounds_ranges (n : Nat) (s : State) : KeepsRanges s (attemptRounds n s) := by
  induction n generalizing s with
  | zero => exact .refl s
  | succ n ih =>
    have round (f : Nat) : KeepsRanges s (attemptRounds n (restartAdvance (admitStep .ordered f s))) :=
      ((admitStep_ranges ..).trans (restartAdvance_ranges _)).trans (ih _)
    unfold attemptRounds
    split
    · exact .refl s
    · split
      · exact round _
      · exact .ite (.refl s) (round _)

theorem attempt_ranges (s : State) : KeepsRanges s (attempt s) := attemptRounds_ranges _ s

theorem regimeStart_ranges (o : Nat) (s : State) : KeepsRanges s (regimeStart o s) := by
  have built : KeepsRanges s (s.modEs (fun x => { x with waiting := buildList o s })) := modEs_ranges rfl
  exact .trans (.ite (built.trans (admitStep_ranges ..)) built) ((restartAdvance_ranges _).trans (attempt_ranges _))

theorem newOrigin_ranges (o : Nat) (s : State) : KeepsRanges s (newOrigin o s) := by
  have promoted : KeepsRanges s ((if s.es.waiting.contains o then admitStep .origin o s else s).modEs
      (fun x => { x with waiting := promoteNeighbours o x.waiting })) :=
    .trans (.ite (admitStep_ranges ..) (.refl s)) (modEs_ranges rfl)
  exact .ite promoted (promoted.trans (attempt_ranges _))

theorem evacuateFloor_ranges (s : State) (f : Nat) : KeepsRanges s (evacuateFloor s f) :=
  .ite (admitStep_ranges ..) (.ite (admitFloor_ranges ..) (.refl s))

theorem evacuateSpan_ranges (floors : List Nat) (s : State) : KeepsRanges s (evacuateSpan floors s) := by
  have span := KeepsRanges.foldl evacuateFloor_ranges floors s
  unfold evacuateSpan
  dsimp only
  exact .ite (.trans (.ite (span.trans (restartAdvance_ranges _)) span) (attempt_ranges _))
    (.ite (span.trans (restartAdvance_ranges _)) span)

theorem drainExpired_ranges (i : Nat) (s : State) : KeepsRanges s (drainExpired i s) := by
  unfold drainExpired
  split
  · exact .refl s
  · have drained := modStair_ranges (f := fun x => reopenedStair (drainedStair x))
      (fun st h => reopenedStair_bounded _ (drainedStair_bounded st h)) i s
    exact .ite (.ite drained (drained.trans ((reportStair_ranges ..).trans (attempt_ranges _)))) (.refl s)

theorem advanceExpired_ranges (s : State) : KeepsRanges s (advanceExpired s) := by
  refine .ite ?_ (.refl s)
  split
  · exact stopAdvance_ranges s
  · exact ((admitStep_ranges ..).trans (restartAdvance_ranges _)).trans (attempt_ranges _)

theorem compromise_ranges (i : Nat) (s : State) : KeepsRanges s (compromise i s) := by
  have marked := modStair_ranges (f := fun x => { x with compromised := true }) (fun _ h => h) i s
  unfold compromise
  split
  · exact .refl s
  · exact .ite (.refl s) ((marked.trans (reportStair_ranges ..)).trans (attempt_ranges _))

theorem bulkAdmission_ranges (s : State) : KeepsRanges s (bulkAdmission s) :=
  (KeepsRanges.foldl (op := fun b f => admitStep .general f b) (fun b f => admitStep_ranges .general f b) _ s).trans
    (stopAdvance_ranges _)

theorem clearEgress_ranges (s : State) : KeepsRanges s (clearEgress s) where
  nodes := id
  stairs _ st hst := by
    obtain ⟨x, -, rfl⟩ := List.mem_map.mp hst
    exact clearedStair_bounded x

end Sys2Proof.Machine
end

section
/-!
The ranges of R57, R61, R154 and R158 along the Regime Core, the zones, the field lines, the restarts and the store: each
operation keeps them.
-/

namespace Sys2Proof.Machine

/-! ## The Regime Core (chapter 01) -/

theorem changeLevel_ranges (new : Level) (cause : RegimeCause) (s : State) : KeepsRanges s (changeLevel new cause s) :=
  (modRc_ranges ..).trans (offer_ranges ..)

theorem abortSession_ranges (s : State) : KeepsRanges s (abortSession s) :=
  .ite ((modCs_ranges _ s).trans (offer_ranges ..)) (.refl s)

theorem enterRegime_ranges (level : Level) (cause : RegimeCause) (s : State) :
    KeepsRanges s (enterRegime level cause s) :=
  ((changeLevel_ranges ..).trans (modRc_ranges ..)).trans (((liftAr_ranges ..).trans (liftDs_ranges ..)).trans
    ((liftLc_ranges ..).trans (abortSession_ranges _)))

theorem admitQuietly_ranges (kind : AdmKind) (floors : List Nat) (s : State) :
    KeepsRanges s (admitQuietly kind floors s) :=
  KeepsRanges.foldl (fun b f => admitFloor_ranges kind none false f b) _ s

theorem enterPhased_ranges (origin : Nat) (s : State) : KeepsRanges s (enterPhased origin s) :=
  (enterRegime_ranges ..).trans ((admitQuietly_ranges ..).trans (regimeStart_ranges ..))

theorem generalSteps_ranges (s : State) : KeepsRanges s (generalSteps s) :=
  ((bulkAdmission_ranges s).trans (admitQuietly_ranges ..)).trans ((liftLc_ranges ..).trans (liftDs_ranges ..))

theorem enterGeneral_ranges (cause : RegimeCause) (s : State) : KeepsRanges s (enterGeneral cause s) := by
  unfold enterGeneral
  split
  · exact .refl s
  · exact (changeLevel_ranges ..).trans (generalSteps_ranges _)
  · exact (enterRegime_ranges ..).trans (generalSteps_ranges _)

theorem recordOrigin_ranges (o : Nat) (s : State) : KeepsRanges s (recordOrigin o s) :=
  .ite (modRc_ranges ..) (.refl s)

theorem originAt_ranges (o : Nat) (s : State) : KeepsRanges s (originAt o s) := by
  have entry : KeepsRanges s (match (recordOrigin o s).rc.level with
      | .normal => enterPhased o (recordOrigin o s)
      | .phased => if takesOrigin s.rc.origins o then newOrigin o (recordOrigin o s) else recordOrigin o s
      | .general => recordOrigin o s) := by
    refine (recordOrigin_ranges o s).trans ?_
    split
    · exact enterPhased_ranges ..
    · exact .ite (newOrigin_ranges ..) (.refl _)
    · exact .refl _
  exact .ite (entry.trans (enterGeneral_ranges ..)) entry

theorem recallByZone_ranges (z : Zone) (s : State) : KeepsRanges s (recallByZone z s) := liftLc_ranges _ s

theorem confirmation_ranges (z : Zone) (s : State) : KeepsRanges s (confirmation z s) := by
  refine .ite ((recordOrigin_ranges 0 s).trans (enterGeneral_ranges ..)) ?_
  cases z.kind with
  | smoke | heat | manualCall | sprinklerFlow => exact originAt_ranges ..
  | liftLobby | hoistway | machineRoom => exact (originAt_ranges ..).trans (recallByZone_ranges z _)
  | stairSmoke =>
    cases z.stair with
    | none => exact originAt_ranges ..
    | some i => exact (compromise_ranges ..).trans (originAt_ranges ..)
  | generalKey => exact enterGeneral_ranges ..
  | recallKey => exact recallByZone_ranges z s

theorem clearance_ranges (z : Zone) (s : State) : KeepsRanges s (clearance z s) := .ite (.refl s) (liftLc_ranges _ s)

theorem moveAlarmCount_ranges (change : Nat → Nat) (f : Nat) (s : State) :
    KeepsRanges s (moveAlarmCount change f s) := by
  unfold moveAlarmCount
  split
  · exact .refl s
  · exact .ite (modRc_ranges ..) (((modRc_ranges ..).trans (liftLc_ranges ..)).trans (reportFloor_ranges ..))

theorem reportRegime_ranges (cause : RegimeCause) (s : State) : KeepsRanges s (reportRegime cause s) := offer_ranges ..

theorem abandonReset_ranges (s : State) : KeepsRanges s (abandonReset s) :=
  .ite (((modRc_ranges ..).trans (modZe_ranges ..)).trans (reportRegime_ranges ..)) (.refl s)

theorem completeReset_ranges (s : State) : KeepsRanges s (completeReset s) :=
  (((modRc_ranges ..).trans (changeLevel_ranges ..)).trans ((modRc_ranges ..).trans (clearEgress_ranges _))).trans
    (((liftLc_ranges ..).trans (liftDs_ranges ..)).trans (liftAr_ranges ..))

theorem testCompletion_ranges (s : State) : KeepsRanges s (testCompletion s) := .ite (completeReset_ranges s) (.refl s)

theorem riseNotice_ranges (f : Nat) (s : State) : KeepsRanges s (riseNotice f s) :=
  ((abandonReset_ranges s).trans (moveAlarmCount_ranges ..)).trans (abortSession_ranges _)

theorem fallNotice_ranges (f : Nat) (s : State) : KeepsRanges s (fallNotice f s) :=
  (moveAlarmCount_ranges ..).trans (testCompletion_ranges _)

/-! ## The Zone Engine (chapter 02) -/

/-- R154: an action offered for a panel node. -/
theorem queueAction_ranges (link : Line) (a : Action) (s : State) : KeepsRanges s (queueAction link a s) := by
  unfold queueAction
  split
  · exact modFlc_ranges (FLC.pushAction_bounded _ _ a)
  · exact .refl s

theorem offerReset_ranges (z : Zone) (s : State) : KeepsRanges s (offerReset z s) :=
  .ite (queueAction_ranges ..) (.refl s)

theorem offerSnapshot_ranges (link : Line) (s : State) : KeepsRanges s (offerSnapshot link s) :=
  (queueAction_ranges ..).trans (modZe_ranges _ _)

theorem zoneTrouble_ranges (old new : Zone) (s : State) : KeepsRanges s (zoneTrouble old new s) :=
  .ite (.refl s) (troubleMove_ranges ..)

theorem zoneNotices_ranges (old new : Zone) (s : State) : KeepsRanges s (zoneNotices old new s) := by
  unfold zoneNotices
  split
  · exact .refl s
  · exact .refl s
  · exact riseNotice_ranges ..
  · exact confirmation_ranges ..
  · exact (riseNotice_ranges ..).trans (confirmation_ranges ..)
  · exact (clearance_ranges ..).trans (fallNotice_ranges ..)
  · exact fallNotice_ranges ..
  · exact .refl s

theorem changeZone_ranges (cls : Cls) (cause : ZoneCause) (old new : Zone) (s : State) :
    KeepsRanges s (changeZone cls cause old new s) :=
  ((modZe_ranges _ s).trans (offer_ranges ..)).trans ((zoneNotices_ranges ..).trans (zoneTrouble_ranges ..))

theorem corroborateZone_ranges (s : State) (z : Zone) : KeepsRanges s (corroborateZone s z) := by
  unfold corroborateZone
  split
  · exact .ite (changeZone_ranges ..) (.refl s)
  · exact .refl s

theorem corroborate_ranges (z : Zone) (s : State) : KeepsRanges s (corroborate z s) :=
  (changeZone_ranges ..).trans (KeepsRanges.foldl corroborateZone_ranges _ _)

theorem takeAlarm_ranges (z : Zone) (s : State) : KeepsRanges s (takeAlarm z s) := by
  have fresh : KeepsRanges s (if corroborated s.ze.zones z then corroborate z s else if z.verify then startWindow z s
      else changeZone .alarm .arrival z z.confirm s) :=
    .ite (corroborate_ranges ..) (.ite ((changeZone_ranges ..).trans (offerReset_ranges ..)) (changeZone_ranges ..))
  unfold takeAlarm
  cases z.state with
  | normal | unknown | trouble => exact fresh
  | verifying => exact .ite (changeZone_ranges ..) (.refl s)
  | confirmed | disabled => exact .refl s

theorem takeNormal_ranges (z : Zone) (s : State) : KeepsRanges s (takeNormal z s) := by
  unfold takeNormal
  cases z.state with
  | unknown | trouble => exact changeZone_ranges ..
  | verifying => exact modZe_ranges _ s
  | confirmed => exact .ite (changeZone_ranges ..) (.refl s)
  | normal | disabled => exact .refl s

theorem takeFault_ranges (cause : ZoneCause) (z : Zone) (s : State) : KeepsRanges s (takeFault cause z s) := by
  unfold takeFault
  cases z.state with
  | normal | unknown => exact changeZone_ranges ..
  | trouble | verifying | confirmed | disabled => exact .refl s

theorem takeInput_ranges (cause : ZoneCause) (input : Input) (z : Zone) (s : State) :
    KeepsRanges s (takeInput cause input z s) := by
  refine (modZe_ranges (ZE.putZone { z with lastInput := some input }) s).trans ?_
  cases input with
  | alarm => exact takeAlarm_ranges ..
  | normal => exact takeNormal_ranges ..
  | fault => exact takeFault_ranges ..

theorem confirmWithoutRecord_ranges (link : Line) (number : Nat) (s : State) :
    KeepsRanges s (confirmWithoutRecord link number s) := by
  unfold confirmWithoutRecord
  exact .trans (offer_ranges ..) (confirmation_ranges ..)

theorem arrive_ranges (listed : Bool) (cause : ZoneCause) (link : Line) (number : Nat) (input : Input) (s : State) :
    KeepsRanges s (arrive listed cause link number input s) := by
  unfold arrive
  split
  · exact .ite (.refl s) (takeInput_ranges ..)
  · refine .ite (.ite ?_ (.ite (confirmWithoutRecord_ranges ..) (.refl s))) (.refl s)
    exact ((modZe_ranges _ s).trans (troubleMove_ranges ..)).trans (takeInput_ranges ..)

theorem windowExpired_ranges (link : Line) (number : Nat) (s : State) : KeepsRanges s (windowExpired link number s) := by
  unfold windowExpired
  split
  · exact .refl s
  · split
    · exact .refl s
    · refine .ite (.refl s) (.ite (changeZone_ranges ..) ?_)
      split <;> exact changeZone_ranges ..

theorem takeChanges_ranges (link : Line) (entries : List (Nat × Input)) (s : State) :
    KeepsRanges s (takeChanges link entries s) :=
  KeepsRanges.foldl (fun b (e : Nat × Input) => arrive_ranges true .arrival link e.1 e.2 b) entries s

theorem takeSnapshot_ranges (link : Line) (entries : List (Nat × Input)) (s : State) :
    KeepsRanges s (takeSnapshot link entries s) :=
  ((modZe_ranges _ s).trans
    (KeepsRanges.foldl (fun b (e : Nat × Input) => arrive_ranges false .arrival link e.1 e.2 b) entries _)).trans
    (KeepsRanges.foldl (fun b (z : Zone) => arrive_ranges false .snapshotMissing link z.number .fault b) _ _)

theorem zonesDown_ranges (link : Line) (s : State) : KeepsRanges s (zonesDown link s) :=
  ((modZe_ranges _ s).trans (offer_ranges ..)).trans (KeepsRanges.foldl (fun b _ => troubleMove_ranges .zones true b) _ _)

theorem resetZone_ranges (s : State) (z : Zone) : KeepsRanges s (resetZone s z) := by
  unfold resetZone
  split
  · exact .refl s
  · split
    · exact .ite (((modZe_ranges _ s).trans (clearance_ranges ..)).trans (moveAlarmCount_ranges ..)) (modZe_ranges _ s)
    · exact ((modZe_ranges _ s).trans (moveAlarmCount_ranges ..)).trans (offerReset_ranges ..)
    · exact .refl s

theorem startReset_ranges (s : State) : KeepsRanges s (startReset s) :=
  ((modRc_ranges _ s).trans (reportRegime_ranges ..)).trans
    ((KeepsRanges.foldl resetZone_ranges _ _).trans (testCompletion_ranges _))

theorem enableZone_ranges (z : Zone) (s : State) : KeepsRanges s (enableZone z s) := by
  unfold enableZone
  split
  · exact .ite ((changeZone_ranges ..).trans (takeInput_ranges ..)) (changeZone_ranges ..)
  · exact changeZone_ranges ..

theorem debounced_ranges (n : Nat) (s : State) : KeepsRanges s (debounced n s) := by
  unfold debounced
  split
  · exact .refl s
  · exact .ite (.ite (modZe_ranges ..) ((modZe_ranges ..).trans (arrive_ranges ..))) (.refl s)

/-! ## The field lines (chapter 07) -/

theorem startSlot_ranges (port : Line) (s : State) : KeepsRanges s (startSlot port s) := by
  unfold startSlot
  split
  · exact .refl s
  · split
    · exact modFlc_ranges (FLC.modNode_bounded sentFrom_bounded)
    · exact .refl s

theorem endSlot_ranges (port : Line) (s : State) : KeepsRanges s (s.modFlc (endSlot port)) := .of_same rfl rfl

theorem tellUp_ranges (port : Line) (address : Nat) (s : State) : KeepsRanges s (tellUp port address s) := by
  cases port with
  | p i => exact modZe_ranges _ s
  | g i => exact liftLc_ranges _ s
  | d i => exact liftDs_ranges _ s
  | a => exact liftAr_ranges _ s
  | l => exact .refl s

theorem tellDown_ranges (port : Line) (address : Nat) (s : State) : KeepsRanges s (tellDown port address s) := by
  cases port with
  | p i => exact zonesDown_ranges _ s
  | g i => exact liftLc_ranges _ s
  | d i => exact liftDs_ranges _ s
  | a => exact liftAr_ranges _ s
  | l => exact .refl s

/-- R159: a link state entered. -/
theorem enter_ranges (l : LinkState) (port : Line) (address : Nat) (s : State) :
    KeepsRanges s (modNodeAt port address (Node.enter l) s) :=
  modNodeAt_ranges (f := Node.enter l) (fun _ h => h) port address s

theorem fallTo_ranges (l : LinkState) (port : Line) (address : Nat) (s : State) :
    KeepsRanges s (modNodeAt port address (Node.fallTo l) s) := modNodeAt_ranges (fallTo_bounded l) port address s

theorem reportNode_ranges (cls : Cls) (cause : NodeCause) (port : Line) (address : Nat) (s : State) :
    KeepsRanges s (reportNode cls cause port address s) := by
  unfold reportNode
  split
  · exact offer_ranges ..
  · exact .refl s

theorem enterLive_ranges (port : Line) (address : Nat) (s : State) : KeepsRanges s (enterLive port address s) := by
  have live := modNodeAt_ranges (f := Node.goLive) (fun _ h => h) port address s
  have asked := KeepsRanges.ite (c := port.isPanel = true) (live.trans (offerSnapshot_ranges port _)) live
  exact ((asked.trans (reportNode_ranges ..)).trans (tellUp_ranges ..)).trans (troubleMove_ranges ..)

theorem enterLost_ranges (port : Line) (address : Nat) (s : State) : KeepsRanges s (enterLost port address s) :=
  ((fallTo_ranges ..).trans (reportNode_ranges ..)).trans ((tellDown_ranges ..).trans (troubleMove_ranges ..))

theorem stateAfterReply_ranges (port : Line) (address : Nat) (n : Node) (s : State) :
    KeepsRanges s (stateAfterReply port address n s) := by
  unfold stateAfterReply
  cases n.link with
  | offline | lost => exact enter_ranges ..
  | training => exact .ite (enterLive_ranges ..) (.refl s)
  | live => exact .refl s
  | suspect => exact (enter_ranges ..).trans (reportNode_ranges ..)

theorem stateAfterMiss_ranges (port : Line) (address : Nat) (n : Node) (s : State) :
    KeepsRanges s (stateAfterMiss port address n s) := by
  unfold stateAfterMiss
  cases n.link with
  | offline | lost => exact .refl s
  | training => exact (fallTo_ranges ..).trans (tellDown_ranges ..)
  | live => exact .ite ((enter_ranges ..).trans (reportNode_ranges ..)) (.refl s)
  | suspect => exact .ite (enterLost_ranges ..) (.refl s)

theorem supervise_ranges (valid : Bool) (port : Line) (address : Nat) (s : State) :
    KeepsRanges s (supervise valid port address s) := by
  have counted : KeepsRanges s (modNodeAt port address (if valid then countGood else countMiss) s) := by
    cases valid
    · exact modNodeAt_ranges countMiss_bounded port address s
    · exact modNodeAt_ranges countGood_bounded port address s
  unfold supervise
  dsimp only
  split
  · exact counted
  · exact counted.trans (.ite (stateAfterReply_ranges ..) (stateAfterMiss_ranges ..))

theorem offerAgain_ranges (port : Line) (s : State) : KeepsRanges s (offerAgain port s) :=
  .ite (offerSnapshot_ranges ..) (.refl s)

theorem deliverGroup_ranges (n : Nat) (c : Carried) (echo : LandingMask) (answer : Option AnswerBlock)
    (entries : List CarEntry) (s : State) : KeepsRanges s (deliverGroup n c echo answer entries s) := by
  unfold deliverGroup
  exact liftLc_ranges _ s

theorem deliver_ranges (port : Line) (address : Nat) (c : Carried) (r : FieldReply) (s : State) :
    KeepsRanges s (deliver port address c r s) := by
  cases r with
  | quiet => exact offerAgain_ranges ..
  | changes es => exact (takeChanges_ranges ..).trans (offerAgain_ranges ..)
  | snapshot es => exact (takeSnapshot_ranges ..).trans (offerAgain_ranges ..)
  | group echo answer es =>
    cases port with
    | g i => exact deliverGroup_ranges ..
    | _ => exact .refl s
  | module sensed => exact liftDs_ranges _ s
  | matrix marks => exact liftAr_ranges _ s

theorem takeReply_ranges (port : Line) (sl : Slot) (r : FieldReply) (s : State) :
    KeepsRanges s (takeReply port sl r s) := by
  have answered := (endSlot_ranges port s).trans (modNodeAt_ranges (answeredNode_bounded sl.carried) port sl.address _)
  have delivered := answered.trans (deliver_ranges port sl.address sl.carried r _)
  exact (delivered.trans (modNodeAt_ranges (sequenceNode_bounded sl.carried r) ..)).trans
    ((supervise_ranges ..).trans (modNodeAt_ranges restRotation_bounded ..))

theorem receiveReply_ranges (kind : Byte) (port : Line) (address control : Byte) (payload : List Byte) (s : State) :
    KeepsRanges s (receiveReply kind port address control payload s) := by
  unfold receiveReply
  split
  · exact .refl s
  · split
    · exact .refl s
    · exact .ite (takeReply_ranges ..) (.refl s)

theorem missSlot_ranges (port : Line) (s : State) : KeepsRanges s (missSlot port s) := by
  unfold missSlot
  split
  · exact .refl s
  · rename_i sl _
    have ended := (endSlot_ranges port s).trans (modNodeAt_ranges (missedNode_bounded sl.carried) port sl.address _)
    dsimp only
    refine KeepsRanges.trans ?_ (supervise_ranges ..)
    split
    · exact ended.trans (liftLc_ranges ..)
    · exact ended

/-! ## Restarts and the store (chapters 08 and 09) -/

theorem bootFLC_bounded (tb : Tables) : ∀ n ∈ (bootFLC tb).nodes, n.Bounded := by
  intro n hn
  obtain ⟨-, hgood, hmiss, hactions, -⟩ := bootNodes_offline tb n hn
  simp [Node.Bounded, hgood, hmiss, hactions]

theorem bootES_bounded (tb : Tables) : ∀ st ∈ (bootES tb).stairs, st.Bounded := by
  intro st hst
  obtain ⟨hload, hcredit, -⟩ := bootStairs_clear tb st hst
  simp [Stair.Bounded, hload, hcredit]

/-- R74, R162: every block built afresh. -/
theorem BuiltFrom.ranges {tb : Tables} {t : State} (h : BuiltFrom tb t) (s : State) : KeepsRanges s t where
  nodes _ := by
    rw [nodesBounded_iff, h.flc]
    exact bootFLC_bounded tb
  stairs _ := by
    rw [stairsBounded_iff, h.es]
    exact bootES_bounded tb

theorem interruptWrite_ranges (s : State) : KeepsRanges s (interruptWrite s) := .ite (.of_same rfl rfl) (.refl s)

theorem losePower_ranges (s : State) : KeepsRanges s (losePower s) := (interruptWrite_ranges s).trans (.of_same rfl rfl)

theorem warmDown_ranges (s : State) (n : Node) : KeepsRanges s (warmDown s n) :=
  .ite (tellDown_ranges ..) ((tellDown_ranges ..).trans (troubleMove_ranges ..))

theorem warmNodes_ranges (s : State) :
    KeepsRanges s (s.modFlc (fun x => { x with nodes := x.nodes.map warmNode, ports := warmPorts x })) := by
  refine modFlc_ranges fun _ n hn => ?_
  obtain ⟨m, -, rfl⟩ := List.mem_map.mp hn
  exact warmNode_bounded m

theorem restartWarm_ranges (s : State) : KeepsRanges s (restartWarm s) :=
  ((modSp_ranges _ s).trans (offer_ranges ..)).trans ((warmNodes_ranges _).trans (KeepsRanges.foldl warmDown_ranges _ _))

theorem writeComplete_ranges (readBackEqual : Bool) (s : State) : KeepsRanges s (writeComplete readBackEqual s) := by
  unfold writeComplete
  split
  · exact .ite ((coldBoot_builtFrom ..).ranges s) (.of_same (by simp) (by simp))
  · exact .refl s

end Sys2Proof.Machine
end

section
/-!
Every command keeps the ranges of R57, R61, R154 and R158: the requests, the receiver, the end of an event, the step.
-/

namespace Sys2Proof.Machine

/-! ## Requests (R165) -/

/-- A request turned away leaves the part as it stands. -/
theorem KeepsRanges.guard {c : Prop} [Decidable c] {a : Answer} {s : State} {p : Answer × State}
    (h : KeepsRanges s p.2) : KeepsRanges s (if c then (a, s) else p).2 := by
  split
  · exact .refl s
  · exact h

theorem resetRegime_ranges (s : State) : KeepsRanges s (resetRegime s).2 := .guard (.guard (startReset_ranges s))

theorem startGeneral_ranges (s : State) : KeepsRanges s (startGeneral s).2 :=
  (abandonReset_ranges s).trans (enterGeneral_ranges ..)

theorem evacuateFloors_ranges (lo hi : Nat) (s : State) : KeepsRanges s (evacuateFloors lo hi s).2 := by
  refine .guard ?_
  split
  · exact .refl s
  · exact .ite (.refl s) (evacuateSpan_ranges ..)

theorem setOccupancy_ranges (f value : Nat) (s : State) : KeepsRanges s (setOccupancy f value s).2 := by
  unfold setOccupancy
  split
  · exact .refl s
  · exact .guard (modRc_ranges ..)

theorem disableRequest_ranges (link : Line) (number : Nat) (s : State) :
    KeepsRanges s (disableRequest link number s).2 := by
  unfold disableRequest
  split
  · exact .refl s
  · rename_i z _
    cases z.state with
    | confirmed | disabled => exact .refl s
    | verifying | normal | trouble | unknown => exact changeZone_ranges ..

theorem enableRequest_ranges (link : Line) (number : Nat) (s : State) :
    KeepsRanges s (enableRequest link number s).2 := by
  unfold enableRequest
  split
  · exact .refl s
  · exact .ite (enableZone_ranges ..) (.refl s)

theorem recallGroup_ranges (n : Nat) (s : State) : KeepsRanges s (recallGroup n s).2 := by
  unfold recallGroup
  split
  · exact .refl s
  · exact liftLc_ranges _ s

theorem releaseGroup_ranges (n : Nat) (s : State) : KeepsRanges s (releaseGroup n s).2 := by
  unfold releaseGroup
  split
  · exact .refl s
  · refine .guard ?_
    split
    · exact liftLc_ranges _ s
    · exact .refl s

theorem fireService_ranges (n : Nat) (on : Bool) (s : State) : KeepsRanges s (fireService n on s).2 := by
  unfold fireService
  split
  · exact .refl s
  · cases on with
    | false => exact liftLc_ranges _ s
    | true =>
      rw [if_pos rfl]
      split
      · exact liftLc_ranges _ s
      · exact .refl s

theorem manualRequest_ranges (add : Bool) (lo hi : Nat) (stairs : QuadSet) (s : State) :
    KeepsRanges s (manualRequest add lo hi stairs s).2 := by
  unfold manualRequest
  split
  · exact .refl s
  · exact .ite (.refl s) (liftDs_ranges _ s)

theorem announce_ranges (message lo hi repeats : Nat) (s : State) :
    KeepsRanges s (announce message lo hi repeats s).2 := by
  unfold announce
  split
  · exact .refl s
  · refine .guard (.guard ?_)
    split
    · exact .refl s
    · exact .guard (.guard (.guard (liftAr_ranges _ s)))

theorem cancelAnnouncement_ranges (id : Nat) (s : State) : KeepsRanges s (cancelAnnouncement id s).2 := by
  unfold cancelAnnouncement
  split
  · exact .refl s
  · split
    · exact .refl s
    · split <;> exact liftAr_ranges _ s

theorem beginLive_ranges (lo hi : Nat) (s : State) : KeepsRanges s (beginLive lo hi s).2 := by
  unfold beginLive
  split
  · exact .refl s
  · exact .guard (.guard (.guard (liftAr_ranges _ s)))

theorem endLive_ranges (s : State) : KeepsRanges s (endLive s).2 := .guard (liftAr_ranges _ s)

theorem requestRestart_ranges (form : RestartForm) (s : State) : KeepsRanges s (requestRestart form s).2 :=
  .guard (.guard (.of_same rfl rfl))

theorem beginCommission_ranges (s : State) : KeepsRanges s (beginCommission s).2 :=
  .guard (.guard (.guard ((modCs_ranges _ s).trans (offer_ranges ..))))

theorem writeConfig_ranges (index : Nat) (r : ConfigRecord) (s : State) : KeepsRanges s (writeConfig index r s).2 := by
  refine .guard ?_
  split
  · exact .refl s
  · exact .guard (.of_same rfl rfl)

theorem commitConfig_ranges (s : State) : KeepsRanges s (commitConfig s).2 := by
  refine .guard ?_
  split
  · exact .refl s
  · dsimp only
    split
    · exact .refl s
    · exact .of_same rfl rfl

theorem abandonCommission_ranges (s : State) : KeepsRanges s (abandonCommission s).2 :=
  .guard (.guard ((modCs_ranges _ s).trans (offer_ranges ..)))

/-! ## Frames (R163, R164, R172) -/

theorem superviseHost_ranges (s : State) : KeepsRanges s (superviseHost s) :=
  .ite (((modSp_ranges _ s).trans (offer_ranges ..)).trans (troubleMove_ranges ..)) (modSp_ranges _ s)

theorem hostSilence_ranges (s : State) : KeepsRanges s (hostSilence s) :=
  .ite (((modSp_ranges _ s).trans (offer_ranges ..)).trans (troubleMove_ranges ..)) (.refl s)

theorem answerFrame_ranges {ρ : Type} {lengthOk : Bool} {operands : Option ρ} {handle : ρ → State → Answer × State}
    (h : ∀ q s, KeepsRanges s (handle q s).2) (s : State) :
    KeepsRanges s (answerFrame lengthOk operands handle s).2 := by
  unfold answerFrame
  split
  · split
    · exact .refl s
    · exact .guard (h _ s)
  · exact .refl s

/-- R164, R165: a frame does no more to the ranges than its owner's handling of it. -/
theorem takeFrame_ranges {ρ : Type} {handle : ρ → State → Answer × State} (h : ∀ q s, KeepsRanges s (handle q s).2)
    (kind tag : Byte) (lengthOk : Bool) (operands : Option ρ) (s : State) :
    KeepsRanges s (takeFrame kind tag lengthOk operands handle s) :=
  (superviseHost_ranges s).trans (.ite (.refl _) ((answerFrame_ranges h _).trans (modSp_ranges _ _)))

theorem takeUnknown_ranges (kind tag : Byte) (s : State) : KeepsRanges s (takeUnknown kind tag s) :=
  (superviseHost_ranges s).trans (.ite (.refl _) (modSp_ranges _ _))

/-- R190: a frame operation made of its owner's handler. -/
theorem frameOperation_ranges {ρ : Type} {handle : ρ → State → Answer × State} {f : Byte → List Byte → State → State}
    {kind : Byte} {lengthOk : List Byte → Bool} {operands : List Byte → Option ρ}
    (hf : ∀ tag p, f tag p = takeFrame kind tag (lengthOk p) (operands p) handle)
    (h : ∀ q s, KeepsRanges s (handle q s).2) (tag : Byte) (p : List Byte) (s : State) : KeepsRanges s (f tag p s) :=
  hf tag p ▸ takeFrame_ranges h ..

/-- R190: the frame operation of every request kind. -/
theorem frameTable_ranges : ∀ f ∈ frameTable, ∀ tag p s, KeepsRanges s (f tag p s) := by
  simp only [frameTable, List.forall_mem_cons, List.not_mem_nil, false_imp_iff, implies_true, and_true]
  refine ⟨?_, ?_, ?_, ?_, ?_, ?_, ?_, ?_, ?acting⟩
  case acting =>
    exact ⟨frameOperation_ranges (fun _ _ => rfl) (fun _ => resetRegime_ranges),
      frameOperation_ranges (fun _ _ => rfl) (fun _ => startGeneral_ranges),
      frameOperation_ranges (fun _ _ => rfl) (fun q => evacuateFloors_ranges q.1 q.2),
      frameOperation_ranges (fun _ _ => rfl) (fun q => setOccupancy_ranges q.1 q.2),
      frameOperation_ranges (fun _ _ => rfl) (fun q => disableRequest_ranges q.1 q.2),
      frameOperation_ranges (fun _ _ => rfl) (fun q => enableRequest_ranges q.1 q.2),
      frameOperation_ranges (fun _ _ => rfl) recallGroup_ranges,
      frameOperation_ranges (fun _ _ => rfl) releaseGroup_ranges,
      frameOperation_ranges (fun _ _ => rfl) (fun q => fireService_ranges q.1 q.2),
      frameOperation_ranges (fun _ _ => rfl) (fun q => manualRequest_ranges true q.1 q.2.1 q.2.2),
      frameOperation_ranges (fun _ _ => rfl) (fun q => manualRequest_ranges false q.1 q.2.1 q.2.2),
      frameOperation_ranges (fun _ _ => rfl) (fun q => announce_ranges q.message q.lo q.hi q.repeats),
      frameOperation_ranges (fun _ _ => rfl) cancelAnnouncement_ranges,
      frameOperation_ranges (fun _ _ => rfl) (fun q => beginLive_ranges q.1 q.2),
      frameOperation_ranges (fun _ _ => rfl) (fun _ => endLive_ranges),
      frameOperation_ranges (fun _ _ => rfl) requestRestart_ranges,
      frameOperation_ranges (fun _ _ => rfl) (fun _ => beginCommission_ranges),
      frameOperation_ranges (fun _ _ => rfl) (fun q => writeConfig_ranges q.1 q.2),
      frameOperation_ranges (fun _ _ => rfl) (fun _ => commitConfig_ranges),
      frameOperation_ranges (fun _ _ => rfl) (fun _ => abandonCommission_ranges)⟩
  all_goals exact frameOperation_ranges (fun _ _ => rfl) (fun _ => .refl)

theorem dispatchFrame_ranges (kind tag : Byte) (p : List Byte) (s : State) :
    KeepsRanges s (dispatchFrame kind tag p s) := by
  unfold dispatchFrame
  split
  · exact takeUnknown_ranges ..
  · split
    · rename_i f hf
      exact frameTable_ranges f (List.mem_of_getElem? hf) tag p s
    · exact takeUnknown_ranges ..

theorem hunt_ranges (s : State) : KeepsRanges s s.hunt := modSp_ranges _ s

theorem testFrame_ranges (r : Receiver) (low high : Byte) (s : State) : KeepsRanges s (testFrame r low high s) := by
  refine .ite ?_ (hunt_ranges s)
  split
  · exact (hunt_ranges s).trans (dispatchFrame_ranges ..)
  · exact hunt_ranges s

theorem receiveByte_ranges (b : Byte) (s : State) : KeepsRanges s (receiveByte b s) := by
  unfold receiveByte
  dsimp only
  split
  · exact .ite (modSp_ranges _ s) (.refl s)
  · exact .ite (modSp_ranges _ s) (hunt_ranges s)
  · exact modSp_ranges _ s
  · split
    · exact modSp_ranges _ s
    · exact testFrame_ranges ..

theorem endSending_ranges (s : State) : KeepsRanges s (endSending s) := by
  unfold endSending
  split
  · exact .refl s
  · exact modSp_ranges _ s

/-! ## Events -/

theorem finish_ranges (s : State) : KeepsRanges s (finish s) :=
  .trans (.ite (liftAr_ranges _ s) (.refl s)) (.of_same rfl rfl)

/-- An event keeps the ranges where its own change keeps them. -/
theorem event_ranges {f : State → State} (h : ∀ s, KeepsRanges s (f s)) {s t : State} (ht : event f s = .next t) :
    KeepsRanges s t := by
  obtain rfl := Host.Outcome.next.inj ht
  have changed : KeepsRanges s (f { s with ev := Scratch.clear }) :=
    .trans (b := { s with ev := Scratch.clear }) (.of_same rfl rfl) (h _)
  exact .ite ((changed.trans (modSp_ranges _ _)).trans (finish_ranges _)) (.refl s)

theorem received_ranges {f : State → State} (h : ∀ s, KeepsRanges s (f s)) {s t : State} (ht : received f s = .next t) :
    KeepsRanges s t := event_ranges (f := fun s => f s.hunt) (fun s => (hunt_ranges s).trans (h _)) ht

/-- Every command keeps the ranges. -/
theorem exec_ranges {c : Instr} {s t : State} (ht : exec c s = .next t) : KeepsRanges s t := by
  cases c
  case powerOn =>
    obtain rfl := Host.Outcome.next.inj ht
    exact ((powerUp_builtFrom s).ranges s).trans (finish_ranges _)
  case secondCountTick => exact event_ranges (fun s => modRc_ranges _ s) ht
  case unknownKind kind tag p => exact received_ranges (dispatchFrame_ranges kind tag p) ht
  case supervisoryFrameDiscarded =>
    rw [exec, execSupervisoryFrameDiscarded] at ht
    refine event_ranges (fun s => ?_) ht
    cases s.sp.rx.state with
    | length | check => exact hunt_ranges s
    | hunting | body => exact .refl s
  case receiveTimeout =>
    rw [exec, execReceiveTimeout] at ht
    refine event_ranges (fun s => ?_) ht
    cases s.sp.rx.state with
    | length | body | check => exact hunt_ranges s
    | hunting => exact .refl s
  case hostSilent => exact event_ranges hostSilence_ranges ht
  case frameSent => exact event_ranges endSending_ranges ht
  case warmRestart => exact event_ranges (fun s => .ite (restartWarm_ranges s) (.refl s)) ht
  case coldRestart => exact event_ranges (fun s => .ite ((coldBoot_builtFrom ..).ranges s) (.refl s)) ht
  case storeWriteComplete b => exact event_ranges (writeComplete_ranges b) ht
  case localLineChange line level => exact event_ranges (fun s => modZe_ranges _ s) ht
  case debounceExpiry line => exact event_ranges (debounced_ranges line.val) ht
  case windowExpiry link zone => exact event_ranges (windowExpired_ranges link zone) ht
  case drainExpiry stair => exact event_ranges (drainExpired_ranges stair) ht
  case forcedAdvance => exact event_ranges advanceExpired_ranges ht
  case retryExpiry car => exact event_ranges (fun s => liftLc_ranges _ s) ht
  case dwellExpired point => exact event_ranges (fun s => liftDs_ranges _ s) ht
  case heldOpenExpiry point => exact event_ranges (fun s => liftDs_ranges _ s) ht
  case playOverrun channel => exact event_ranges (fun s => liftAr_ranges _ s) ht
  case slotStart port => exact event_ranges (startSlot_ranges port) ht
  case quiet port a c p => exact event_ranges (receiveReply_ranges _ port a c p) ht
  case changes port a c p => exact event_ranges (receiveReply_ranges _ port a c p) ht
  case snapshot port a c p => exact event_ranges (receiveReply_ranges _ port a c p) ht
  case groupStatus port a c p => exact event_ranges (receiveReply_ranges _ port a c p) ht
  case moduleStatus port a c p => exact event_ranges (receiveReply_ranges _ port a c p) ht
  case matrixStatus port a c p => exact event_ranges (receiveReply_ranges _ port a c p) ht
  case fieldFrameDiscarded port => exact event_ranges .refl ht
  case replyWindowMiss port => exact event_ranges (missSlot_ranges port) ht
  case byteReceived b => exact event_ranges (receiveByte_ranges b) ht
  case lossOfPower =>
    obtain rfl := Host.Outcome.next.inj ht
    exact .ite (losePower_ranges s) (.refl s)
  all_goals exact received_ranges (frameTable_ranges _ (by simp [frameTable]) _ _) ht

/-- R60, R67: a second of the timers moves no load and no credit. -/
theorem idleSecond_ranges (s : State) : KeepsRanges s (idleSecond s) := by
  refine .ite ⟨id, fun h st hst => ?_⟩ (.refl s)
  obtain ⟨x, hx, rfl⟩ := List.mem_map.mp hst
  exact h x hx

theorem step_ranges {s t : State} (ht : step s = .next t) : KeepsRanges s t := by
  unfold step at ht
  split at ht
  · rename_i rest _
    exact .trans (b := { s with pending := rest }) (.of_same rfl rfl) (exec_ranges ht)
  · obtain rfl := Host.Outcome.next.inj ht
    exact idleSecond_ranges s

/-- Settles O11: by the inversion of a step for the ranges. -/
theorem rangesKept : Obligations.RangesKept :=
  ⟨fun _ _ hs ht => (step_ranges ht).nodes hs, fun _ _ hs ht => (step_ranges ht).stairs hs⟩

end Sys2Proof.Machine
end

section
/-!
The Egress Scheduler's two expiries (R60 to R68): what an admission step leaves of the scheduler, what the rounds behind an
admission leave of it, and the rules of DRAIN_EXPIRY and FORCED_ADVANCE.
-/

namespace Sys2Proof.Machine

/-! ## An admission step (R59) -/

/-- R57: an addition changes the stairs alone. -/
theorem addShare_es (s : State) (e : Nat × Nat) : ∃ stairs, (addShare s e).es = { s.es with stairs := stairs } := by
  unfold addShare
  split
  · exact ⟨_, rfl⟩
  · split
    · exact ⟨_, rfl⟩
    · refine ⟨s.es.stairs.modify e.1 (loadedStair e.2), ?_⟩
      dsimp only
      split <;> split <;> simp [ES.modStair]

theorem foldl_addShare_es (l : List (Nat × Nat)) (s : State) :
    ∃ stairs, (l.foldl addShare s).es = { s.es with stairs := stairs } :=
  foldl_keeps (P := fun t : State => ∃ stairs, t.es = { s.es with stairs := stairs }) (fun t e ⟨_, h⟩ => by
    obtain ⟨stairs, he⟩ := addShare_es t e
    exact ⟨stairs, by rw [he, h]⟩) l s ⟨_, rfl⟩

/-- R59: an admission step changes the stairs and takes its floor off the list. -/
theorem admitStep_es (kind : AdmKind) (f : Nat) (s : State) :
    ∃ stairs, (admitStep kind f s).es = { s.es with stairs := stairs, waiting := s.es.waiting.erase f } := by
  unfold admitStep
  split
  · exact ⟨_, rfl⟩
  · dsimp only
    split
    · split
      · exact ⟨s.es.stairs, by simp⟩
      · obtain ⟨stairs, h⟩ := foldl_addShare_es (sharesOf s.es.stairs _) (admitFloor kind _ true f _)
        exact ⟨stairs, h.trans (by rw [admitFloor_es]; rfl)⟩
    · exact ⟨_, rfl⟩

/-- R58, R59: the floor of an admission step, where it is in ALERT, is in EVAC with its shares. -/
theorem admitStep_floor {kind : AdmKind} {f : Nat} {s : State} {fl : Floor} (hfl : s.rc.floors[f]? = some fl)
    (ha : fl.state = .alert) : (admitStep kind f s).rc.floors[f]? =
      some (admittedFloor kind (some (shareList s.es.stairs fl)) s.rc.secondCount fl) := by
  simp only [admitStep, hfl, ha, if_true]
  split
  · rw [reportStair_rc]
    exact admitFloor_floor hfl ha
  · rw [(foldl_addShare_rc_waiting _ _).1]
    exact admitFloor_floor hfl ha

/-! ## The rounds behind it (R65, R67) -/

/-- R67: the advance timer stands at its limit `n`. -/
structure ES.AdvanceAt (x : ES) (n : Nat) : Prop where
  limit : x.advanceLimit = n
  timer : x.advanceTimer = some n

theorem restartAdvance_admitStep_advanceAt (kind : AdmKind) (f : Nat) (s : State) :
    (restartAdvance (admitStep kind f s)).es.AdvanceAt s.es.advanceLimit := by
  obtain ⟨stairs, h⟩ := admitStep_es kind f s
  constructor <;> simp [restartAdvance, h]

/-- R65, R67: every round of an attempt starts the timer again. -/
theorem attemptRounds_advanceAt (k : Nat) {n : Nat} {s : State} (h : s.es.AdvanceAt n) :
    (attemptRounds k s).es.AdvanceAt n := by
  induction k generalizing s with
  | zero => exact h
  | succ k ih =>
    have round (f : Nat) : (attemptRounds k (restartAdvance (admitStep .ordered f s))).es.AdvanceAt n :=
      ih (h.limit ▸ restartAdvance_admitStep_advanceAt .ordered f s)
    unfold attemptRounds
    split
    · exact h
    · split
      · exact round _
      · split
        · exact h
        · exact round _

/-- An admission step of floor `f`, the timer started again and rounds of an attempt behind it. -/
def admittedThen (rounds : Nat) (kind : AdmKind) (f : Nat) (s : State) : State :=
  attemptRounds rounds (restartAdvance (admitStep kind f s))

theorem admittedThen_timer (rounds : Nat) (kind : AdmKind) (f : Nat) (s : State) :
    (admittedThen rounds kind f s).es.advanceTimer = some s.es.advanceLimit :=
  (attemptRounds_advanceAt rounds (restartAdvance_admitStep_advanceAt kind f s)).timer

/-- R6, R59: an ALERT floor that is admitted keeps its admission through the rounds. -/
theorem admittedThen_floor (rounds : Nat) {kind : AdmKind} {f : Nat} {s : State} {fl : Floor}
    (hfl : s.rc.floors[f]? = some fl) (ha : fl.state = .alert) :
    ∃ fl', (admittedThen rounds kind f s).rc.floors[f]? = some fl' ∧ fl'.state = .evac ∧
      fl'.admission = some ⟨kind, some (shareList s.es.stairs fl), s.rc.secondCount⟩ := by
  obtain ⟨fl', hfl', held⟩ :=
    ((restartAdvance_admits _).trans (attemptRounds_admits rounds _)).floors.held f _ (admitStep_floor hfl ha)
  obtain ⟨hevac, hadmission⟩ := held.evac rfl
  exact ⟨fl', hfl', hevac, hadmission⟩

/-! ## An attempt (R65) -/

theorem attempt_empty {s : State} (h : s.es.waiting = []) : attempt s = s := by simp [attempt, attemptRounds, h]

theorem attempt_heldBack {s : State} {f : Nat} {rest : List Nat} {fl : Floor} (hw : s.es.waiting = f :: rest)
    (hfl : s.rc.floors[f]? = some fl) (hh : heldBack s.es.stairs (sharesOf s.es.stairs fl) = true) : attempt s = s := by
  simp [attempt, attemptRounds, hw, hfl, hh]

theorem attempt_takes {s : State} {f : Nat} {rest : List Nat} {fl : Floor} (hw : s.es.waiting = f :: rest)
    (hfl : s.rc.floors[f]? = some fl) (hh : heldBack s.es.stairs (sharesOf s.es.stairs fl) = false) :
    attempt s = admittedThen rest.length .ordered f s := by
  simp [attempt, attemptRounds, admittedThen, hw, hfl, hh]

/-- R65: where an event ends in an attempt: the scheduler and the regime stay on an empty list and at a head floor that is held
back, else the head floor is admitted with kind ORDERED. -/
theorem EndsIn.of_attempt {s u t : State} {x : ES} (hend : EndsIn (attempt u) t) (hes : u.es = x) (hrc : u.rc = s.rc) :
    (x.waiting = [] → t.es = x ∧ SameRegime s t) ∧
    (∀ f rest fl, x.waiting = f :: rest → s.rc.floors[f]? = some fl →
      (heldBack x.stairs (sharesOf x.stairs fl) = true → t.es = x ∧ SameRegime s t) ∧
      (heldBack x.stairs (sharesOf x.stairs fl) = false → t.es.advanceTimer = some x.advanceLimit ∧
        (fl.state = .alert → ∃ fl', t.rc.floors[f]? = some fl' ∧ fl'.state = .evac ∧
          fl'.admission = some ⟨.ordered, some (shareList x.stairs fl), s.rc.secondCount⟩))) := by
  subst hes
  have untaken (h : attempt u = u) : t.es = u.es ∧ SameRegime s t := by
    rw [h] at hend
    exact ⟨hend.es, hend.sameRegime_of hrc⟩
  refine ⟨fun hw => untaken (attempt_empty hw), fun f rest fl hw hfl => ?_⟩
  rw [← hrc] at hfl ⊢
  refine ⟨fun hh => untaken (attempt_heldBack hw hfl hh), fun hh => ?_⟩
  rw [attempt_takes hw hfl hh] at hend
  rw [hend.es, hend.floorTable]
  exact ⟨admittedThen_timer .., admittedThen_floor rest.length hfl⟩

/-! ## DRAIN_EXPIRY (R60, R61, R63) -/

/-- R60: a drain timer that does not stand at 0 leaves the part as it stands. -/
theorem drainExpired_notDue {s : State} {i : Nat} {st : Stair} (hst : s.es.stairs[i]? = some st)
    (h : st.drainTimer ≠ some 0) : drainExpired i s = s := by
  simp [drainExpired, hst, h]

/-- R61, R63: the stair table after the drain of one stair. -/
def drainedStairs (i : Nat) (st : Stair) (x : ES) : ES :=
  { x with stairs := x.stairs.set i (reopenedStair (drainedStair st)) }

theorem modStair_drained {x : ES} {i : Nat} {st : Stair} (hst : x.stairs[i]? = some st) :
    x.modStair i (fun y => reopenedStair (drainedStair y)) = drainedStairs i st x := by
  simp [ES.modStair, drainedStairs, List.modify_eq_set, hst]

/-- R63: a drain brings its stair back: it is CONGESTED and its load comes down to the low watermark. -/
def Reopens (st : Stair) : Prop := st.cond = .congested ∧ st.load - (st.credit + st.flow) / 6 ≤ st.low

theorem reopenedStair_of_reopens {st : Stair} (h : Reopens st) :
    reopenedStair (drainedStair st) = { drainedStair st with cond := .available } := by
  have hdrained : (drainedStair st).cond = .congested ∧ (drainedStair st).load ≤ (drainedStair st).low := h
  rw [reopenedStair, if_pos hdrained]

theorem reopenedStair_of_stays {st : Stair} (h : ¬ Reopens st) : reopenedStair (drainedStair st) = drainedStair st := by
  have hdrained : ¬((drainedStair st).cond = .congested ∧ (drainedStair st).load ≤ (drainedStair st).low) := h
  rw [reopenedStair, if_neg hdrained]

/-- R60, R61: a drain without a change of the condition. -/
theorem drainExpired_stays {s : State} {i : Nat} {st : Stair} (hst : s.es.stairs[i]? = some st)
    (hd : st.drainTimer = some 0) (h : ¬ Reopens st) : drainExpired i s = s.modEs (drainedStairs i st) := by
  have hcond : (reopenedStair (drainedStair st)).cond = st.cond := by rw [reopenedStair_of_stays h]; rfl
  simp only [drainExpired, hst, hd, if_true, if_pos hcond, State.modEs, modStair_drained hst]

/-- R63: a drain that opens its stair again: the report and the attempt follow. -/
theorem drainExpired_reopens {s : State} {i : Nat} {st : Stair} (hst : s.es.stairs[i]? = some st)
    (hd : st.drainTimer = some 0) (h : Reopens st) :
    drainExpired i s = attempt (reportStair .available i none (s.modEs (drainedStairs i st))) := by
  have hcond : (reopenedStair (drainedStair st)).cond ≠ st.cond := by simp [reopenedStair_of_reopens h, h.1]
  simp only [drainExpired, hst, hd, if_true, if_neg hcond, State.modEs, modStair_drained hst]

/-- Settles O36: the drain by its two cases, and behind the second the attempt by its three. -/
theorem drainRule : Obligations.DrainRule := by
  intro s i st hpower hst
  obtain ⟨t, ht, hend⟩ := event_endsIn (drainExpired i) hpower
  have hkeeps := drainExpired_admits i { s with ev := Scratch.clear }
  refine ⟨fun hd => ⟨t, ht, ?_⟩, fun hd => ⟨t, ht, hend.cs.trans hkeeps.cs, hend.ze.trans hkeeps.ze,
    hend.lc.trans hkeeps.lc, fun hstays => ?_, ?_⟩⟩
  · rw [drainExpired_notDue (s := { s with ev := Scratch.clear }) hst hd] at hend
    exact hend.of_clear
  · rw [drainExpired_stays (s := { s with ev := Scratch.clear }) hst hd hstays] at hend
    have hes : t.es = drainedStairs i st s.es := hend.es
    refine ⟨?_, fun j hj => ?_, by rw [hes]; rfl, hend.sameRegime_of rfl⟩
    · rw [hes, drainedStairs, reopenedStair_of_stays hstays, List.getElem?_set_self (List.getElem?_eq_some_iff.mp hst).1]
      rfl
    · rw [hes, drainedStairs, List.getElem?_set_ne hj.symm]
  · intro hcongested hlow opened hopened
    have hset : drainedStairs i st s.es = { s.es with stairs := opened } := by
      rw [drainedStairs, reopenedStair_of_reopens ⟨hcongested, hlow⟩, hopened]
      rfl
    rw [drainExpired_reopens (s := { s with ev := Scratch.clear }) hst hd ⟨hcongested, hlow⟩] at hend
    exact hend.of_attempt ((reportStair_es ..).trans hset) (reportStair_rc ..)

/-! ## FORCED_ADVANCE (R67, R68) -/

theorem advanceExpired_notDue {s : State} (h : s.es.advanceTimer ≠ some 0) : advanceExpired s = s := if_neg h

theorem advanceExpired_empty {s : State} (h : s.es.advanceTimer = some 0) (hw : s.es.waiting = []) :
    advanceExpired s = stopAdvance s := by simp [advanceExpired, h, hw]

theorem advanceExpired_takes {s : State} {f : Nat} {rest : List Nat} (h : s.es.advanceTimer = some 0)
    (hw : s.es.waiting = f :: rest) : ∃ rounds, advanceExpired s = admittedThen rounds .forced f s :=
  ⟨_, by simp only [advanceExpired, h, hw, if_true]; rfl⟩

/-- Settles O37: the expiry on an empty list, the forced admission of the head floor, and the expiry that is not due. -/
theorem forcedAdvanceRule : Obligations.ForcedAdvanceRule := by
  refine ⟨fun s hpower hdue => ?_, fun s hpower hdue => ?_⟩
  all_goals obtain ⟨t, ht, hend⟩ := event_endsIn advanceExpired hpower
  · have hkeeps := advanceExpired_admits { s with ev := Scratch.clear }
    refine ⟨t, ht, hend.level.trans hkeeps.level, hend.origins.trans hkeeps.origins, hend.ze.trans hkeeps.ze,
      hend.cs.trans hkeeps.cs, fun hw => ?_, fun f rest fl hw hfl => ?_⟩
    · rw [advanceExpired_empty (s := { s with ev := Scratch.clear }) hdue hw] at hend
      exact ⟨hend.es, hend.sameRegime_of rfl⟩
    · obtain ⟨rounds, htakes⟩ := advanceExpired_takes (s := { s with ev := Scratch.clear }) hdue hw
      rw [htakes] at hend
      refine ⟨by rw [hend.es, admittedThen_timer], fun ha => ?_⟩
      obtain ⟨fl', hfl', hevac, hadmission⟩ :=
        admittedThen_floor rounds (kind := .forced) (s := { s with ev := Scratch.clear }) hfl ha
      exact ⟨fl', _, by rw [hend.floorTable, hfl'], hevac, hadmission, rfl, rfl⟩
  · rw [advanceExpired_notDue (s := { s with ev := Scratch.clear }) hdue] at hend
    exact ⟨t, ht, hend.of_clear⟩

end Sys2Proof.Machine
end

section
/-!
Clamping (R49, R182): the clamping of each table brings every record into its range and leaves a record in its range alone; that
one pass settles an image follows.
-/

namespace Sys2Proof.Machine

/-! ## One number -/

theorem clampTo_mem {lo hi : Nat} (h : lo ≤ hi) (n : Nat) : lo ≤ clampTo lo hi n ∧ clampTo lo hi n ≤ hi := by
  unfold clampTo
  omega

theorem clampTo_le (hi n : Nat) : clampTo 0 hi n ≤ hi := (clampTo_mem (Nat.zero_le hi) n).2

theorem clampTo_fixed {lo hi n : Nat} (h : lo ≤ n ∧ n ≤ hi) : clampTo lo hi n = n := by
  unfold clampTo
  omega

theorem clampTo_zero_fixed {hi n : Nat} (h : n ≤ hi) : clampTo 0 hi n = n := clampTo_fixed ⟨Nat.zero_le n, h⟩

/-- R182: a number is set to the nearer end of its range. -/
theorem clampTo_eq_nearest {lo hi : Nat} (h : lo ≤ hi) (n : Nat) : clampTo lo hi n = nearest lo hi n := by
  unfold clampTo nearest
  split
  · omega
  · split <;> omega

/-- A number that may be absent. -/
theorem map_clampTo_mem {lo hi : Nat} (h : lo ≤ hi) {o : Option Nat} {x : Nat} (hx : o.map (clampTo lo hi) = some x) :
    lo ≤ x ∧ x ≤ hi := by
  obtain ⟨n, -, rfl⟩ := Option.map_eq_some_iff.mp hx
  exact clampTo_mem h n

theorem map_clampTo_fixed {lo hi : Nat} {o : Option Nat} (h : ∀ x, o = some x → lo ≤ x ∧ x ≤ hi) :
    o.map (clampTo lo hi) = o := by
  cases o with
  | none => rfl
  | some x => exact congrArg some (clampTo_fixed (h x rfl))

/-! ## One table -/

/-- `clamp` brings every record into the range `P` and leaves a record in the range alone. -/
structure Clamps {α : Type} (P : α → Prop) (clamp : α → α) : Prop where
  mem : ∀ r, P (clamp r)
  fixed : ∀ r, P r → clamp r = r

theorem Clamps.map_mem {α : Type} {P : α → Prop} {clamp : α → α} (h : Clamps P clamp) (l : List α) :
    ∀ r ∈ l.map clamp, P r := by
  intro r hr
  obtain ⟨x, -, rfl⟩ := List.mem_map.mp hr
  exact h.mem x

theorem Clamps.map_fixed {α : Type} {P : α → Prop} {clamp : α → α} (h : Clamps P clamp) {l : List α}
    (hl : ∀ r ∈ l, P r) : l.map clamp = l :=
  (List.map_congr_left fun r hr => h.fixed r (hl r hr)).trans (List.map_id l)

theorem clampGeneral_clamps : Clamps generalInRange clampGeneral where
  mem r := ⟨clampTo_mem (by decide) _, clampTo_mem (by decide) _, clampTo_mem (by decide) _, clampTo_mem (by decide) _,
    clampTo_mem (by decide) _, clampTo_mem (by decide) _, clampTo_mem (by decide) _, clampTo_mem (by decide) _,
    clampTo_mem (by decide) _, clampTo_le 4 _⟩
  fixed r := by
    rintro ⟨hfloors, hwindow, hadvance, horigins, hretry, hdwell, hheld, hreply, hchannels, hreserve⟩
    simp only [clampGeneral, clampTo_fixed hfloors, clampTo_fixed hwindow, clampTo_fixed hadvance, clampTo_fixed horigins,
      clampTo_fixed hretry, clampTo_fixed hdwell, clampTo_fixed hheld, clampTo_fixed hreply, clampTo_fixed hchannels,
      clampTo_zero_fixed hreserve]

/-- R182: a secondary stair that stands is in its range and not the primary. -/
theorem clampSecondary_mem {primary : Nat} {o : Option Nat} {x : Nat} (h : clampSecondary primary o = some x) :
    x ≤ 3 ∧ x ≠ primary := by
  obtain ⟨hx, hne⟩ := Option.filter_eq_some_iff.mp h
  exact ⟨(map_clampTo_mem (Nat.zero_le 3) hx).2, by simpa using hne⟩

theorem clampSecondary_fixed {primary : Nat} {o : Option Nat} (h : ∀ x, o = some x → x ≤ 3 ∧ x ≠ primary) :
    clampSecondary primary o = o := by
  cases o with
  | none => rfl
  | some x =>
    obtain ⟨hx, hne⟩ := h x rfl
    simp [clampSecondary, clampTo_zero_fixed hx, hne]

theorem clampFloor_clamps : Clamps floorInRange clampFloor where
  mem r := by
    refine ⟨clampTo_le 3 _, fun s hs => clampSecondary_mem hs, ?_, fun hnone => ?_, ?_, fun he => ?_⟩
    · dsimp only [clampFloor]
      split
      · decide
      · exact clampTo_mem (by decide) _
    · exact if_pos (Option.isNone_iff_eq_none.mpr hnone)
    · dsimp only [clampFloor]
      split
      · decide
      · exact clampTo_le 2000 _
    · exact if_pos he
  fixed r := by
    rintro ⟨hprimary, hsecondary, hweight, halone, hdesign, hnone⟩
    have hw : (if r.secondary.isNone then 100 else clampTo 1 100 r.weight) = r.weight := by
      split
      case isTrue h => exact (halone (Option.isNone_iff_eq_none.mp h)).symm
      case isFalse => exact clampTo_fixed hweight
    have hd : (if r.egress = .none then 0 else clampTo 0 2000 r.design) = r.design := by
      split
      case isTrue h => exact (hnone h).symm
      case isFalse => exact clampTo_zero_fixed hdesign
    simp only [clampFloor, clampTo_zero_fixed hprimary, clampSecondary_fixed hsecondary, hw, hd]

/-- R49: the two watermarks of a fitted stair are held apart. -/
theorem clampStair_clamps : Clamps stairInRange clampStair where
  mem r := by
    have hhigh := clampTo_mem (by decide : 1 ≤ 65535) r.high
    have hlow := clampTo_le 65534 r.low
    refine ⟨clampTo_mem (by decide) _, hhigh, ?_, fun hfitted => ?_⟩
    · dsimp only [clampStair]
      split
      · omega
      · exact hlow
    · have hfitted' : r.fitted = true := hfitted
      simp only [clampStair, hfitted', true_and]
      split <;> omega
  fixed r := by
    rintro ⟨hflow, hhigh, hlow, hapart⟩
    have hheld : ¬(r.fitted = true ∧ r.high ≤ r.low) := fun ⟨hfitted, hle⟩ => absurd (hapart hfitted) (Nat.not_lt.mpr hle)
    simp only [clampStair, clampTo_fixed hflow, clampTo_fixed hhigh, clampTo_zero_fixed hlow, if_neg hheld]

theorem takesGroups_iff (k : ZoneKind) :
    takesGroups k = true ↔ k = .liftLobby ∨ k = .hoistway ∨ k = .machineRoom ∨ k = .recallKey := by
  cases k <;> simp [takesGroups]

/-- R182: a panel zone has no polarity and a zone of L has one. -/
theorem clampPolarity_mem (link : Line) (p : Option Polarity) :
    (link.isPanel = true → clampPolarity link p = none) ∧ (link = .l → (clampPolarity link p).isSome = true) := by
  refine ⟨fun h => if_pos h, ?_⟩
  rintro rfl
  rfl

theorem clampPolarity_fixed {link : Line} {p : Option Polarity} (hpanel : link.isPanel = true → p = none)
    (hlocal : link = .l → p.isSome = true) : clampPolarity link p = p := by
  unfold clampPolarity
  split
  case isTrue h => exact (hpanel h).symm
  case isFalse =>
    split
    case isTrue h =>
      obtain ⟨x, rfl⟩ := Option.isSome_iff_exists.mp (hlocal h)
      rfl
    case isFalse => rfl

theorem clampZone_clamps : Clamps zoneInRange clampZone where
  mem r := by
    obtain ⟨hpanel, hlocal⟩ := clampPolarity_mem r.link r.polarity
    refine ⟨clampTo_le 255 _, clampTo_le 63 _, fun hv => ?_, ?_, fun x hx => ?_, hpanel, hlocal⟩
    · have hverify : (r.verify && decide (r.kind = .smoke)) = true := hv
      rw [Bool.and_eq_true, decide_eq_true_eq] at hverify
      exact hverify.2
    · by_cases hk : takesGroups r.kind = true
      · exact .inr ((takesGroups_iff _).mp hk)
      · exact .inl (if_neg hk)
    · have hstair : (if r.kind = .stairSmoke then r.stair.map (clampTo 0 3) else none) = some x := hx
      split at hstair
      case isTrue hk => exact ⟨hk, (map_clampTo_mem (Nat.zero_le 3) hstair).2⟩
      case isFalse => cases hstair
  fixed r := by
    rintro ⟨hnumber, hfloor, hverify, hgroups, hstair, hpanel, hlocal⟩
    have hv : (r.verify && decide (r.kind = .smoke)) = r.verify := by
      cases h : r.verify
      · rfl
      · simp [hverify h]
    have hg : (if takesGroups r.kind then r.groups else 0) = r.groups := by
      split
      case isTrue => rfl
      case isFalse h => exact (hgroups.resolve_right fun hk => h ((takesGroups_iff _).mpr hk)).symm
    have hs : (if r.kind = .stairSmoke then r.stair.map (clampTo 0 3) else none) = r.stair := by
      split
      case isTrue => exact map_clampTo_fixed fun x hx => ⟨Nat.zero_le x, (hstair x hx).2⟩
      case isFalse h => exact (Option.eq_none_iff_forall_ne_some.mpr fun x hx => h (hstair x hx).1).symm
    simp only [clampZone, clampTo_zero_fixed hnumber, clampTo_zero_fixed hfloor, hv, hg, hs,
      clampPolarity_fixed hpanel hlocal]

theorem clampNode_clamps : Clamps (fun r : NodeRec => 1 ≤ r.address ∧ r.address ≤ 31) clampNode where
  mem r := clampTo_mem (by decide) _
  fixed r h := by simp only [clampNode, clampTo_fixed h]

/-- A place of a table with its index. -/
theorem getElem?_indexedFrom {α : Type} (l : List α) (n k : Nat) :
    (indexedFrom n l)[k]? = (l[k]?).map (fun x => (n + k, x)) := by
  induction l generalizing n k with
  | nil => rfl
  | cons x l ih =>
    cases k with
    | zero => rfl
    | succ k => simpa [indexedFrom, Nat.add_assoc, Nat.add_comm 1 k] using ih (n + 1) k

/-- R182: the landing of one floor. -/
theorem getElem?_clampMap (n : Nat) (map : List (Option Nat)) (f : Nat) :
    (clampMap n map)[f]? = (map[f]?).map (fun o => if n ≤ f then none else o.map (clampTo 1 127)) := by
  simp [clampMap, getElem?_indexedFrom, Function.comp_def]

theorem clampMap_length (n : Nat) (map : List (Option Nat)) : (clampMap n map).length = map.length := by
  have length_indexedFrom (l : List (Option Nat)) (k : Nat) : (indexedFrom k l).length = l.length := by
    induction l generalizing k with
    | nil => rfl
    | cons x l ih => exact congrArg (· + 1) (ih (k + 1))
  rw [clampMap, List.length_map, length_indexedFrom]

/-- R182: a landing stands at a configured floor alone, and in its range. -/
theorem clampMap_mem {n f l : Nat} {map : List (Option Nat)} (h : (clampMap n map)[f]? = some (some l)) :
    f < n ∧ 1 ≤ l ∧ l ≤ 127 := by
  rw [getElem?_clampMap] at h
  obtain ⟨o, -, ho⟩ := Option.map_eq_some_iff.mp h
  split at ho
  case isTrue => cases ho
  case isFalse hn => exact ⟨Nat.lt_of_not_le hn, map_clampTo_mem (by decide) ho⟩

theorem clampMap_fixed {n : Nat} {map : List (Option Nat)}
    (h : ∀ f l : Nat, map[f]? = some (some l) → f < n ∧ 1 ≤ l ∧ l ≤ 127) : clampMap n map = map := by
  refine List.ext_getElem? fun f => ?_
  rw [getElem?_clampMap]
  cases ho : map[f]? with
  | none => rfl
  | some o =>
    cases o with
    | none => simp
    | some l =>
      obtain ⟨hf, hl⟩ := h f l ho
      simp [Nat.not_le.mpr hf, clampTo_fixed hl]

theorem clampGroup_clamps (n : Nat) : Clamps (groupInRange n) (clampGroup n) where
  mem r := ⟨clampTo_mem (by decide) _, clampTo_le 63 _, clampTo_le 63 _, fun _ _ => clampMap_mem⟩
  fixed r := by
    rintro ⟨haddress, hprimary, halternate, hmap⟩
    simp only [clampGroup, clampTo_fixed haddress, clampTo_zero_fixed hprimary, clampTo_zero_fixed halternate,
      clampMap_fixed hmap]

theorem clampCar_clamps : Clamps (fun r : CarRec => r.group ≤ 3 ∧ r.place ≤ 15) clampCar where
  mem r := ⟨clampTo_le 3 _, clampTo_le 15 _⟩
  fixed r h := by simp only [clampCar, clampTo_zero_fixed h.1, clampTo_zero_fixed h.2]

theorem clampDoor_clamps : Clamps
    (fun r : DoorRec => (1 ≤ r.address ∧ r.address ≤ 31) ∧ r.point ≤ 7 ∧ r.floor ≤ 63 ∧ r.stair ≤ 3) clampDoor where
  mem r := ⟨clampTo_mem (by decide) _, clampTo_le 7 _, clampTo_le 63 _, clampTo_le 3 _⟩
  fixed r := by
    rintro ⟨haddress, hpoint, hfloor, hstair⟩
    simp only [clampDoor, clampTo_fixed haddress, clampTo_zero_fixed hpoint, clampTo_zero_fixed hfloor,
      clampTo_zero_fixed hstair]

theorem clampMessage_clamps : Clamps (fun r : MsgRec => 1 ≤ r.length ∧ r.length ≤ 600) clampMessage where
  mem r := clampTo_mem (by decide) _
  fixed r h := by simp only [clampMessage, clampTo_fixed h]

theorem clampRegimeMsgs_clamps : Clamps
    (fun r : RegimeMsgRec => r.evac ≤ 63 ∧ r.alert ≤ 63 ∧ ∀ m, r.allClear = some m → m ≤ 63) clampRegimeMsgs where
  mem r := ⟨clampTo_le 63 _, clampTo_le 63 _, fun _ hm => (map_clampTo_mem (Nat.zero_le 63) hm).2⟩
  fixed r := by
    rintro ⟨hevac, halert, hclear⟩
    simp only [clampRegimeMsgs, clampTo_zero_fixed hevac, clampTo_zero_fixed halert,
      map_clampTo_fixed fun x hx => ⟨Nat.zero_le x, hclear x hx⟩]

/-! ## The image -/

theorem clampImage_clamps : Clamps ImageInRange clampImage where
  mem i :=
    { general := clampGeneral_clamps.mem _
      floors := clampFloor_clamps.map_mem _
      stairs := clampStair_clamps.map_mem _
      zones := clampZone_clamps.map_mem _
      nodes := clampNode_clamps.map_mem _
      groups := (clampGroup_clamps _).map_mem _
      cars := clampCar_clamps.map_mem _
      doors := clampDoor_clamps.map_mem _
      messages := clampMessage_clamps.map_mem _
      regimeMsgs := clampRegimeMsgs_clamps.mem _ }
  fixed i h := by
    simp only [clampImage, clampGeneral_clamps.fixed _ h.general, clampFloor_clamps.map_fixed h.floors,
      clampStair_clamps.map_fixed h.stairs, clampZone_clamps.map_fixed h.zones, clampNode_clamps.map_fixed h.nodes,
      (clampGroup_clamps _).map_fixed h.groups, clampCar_clamps.map_fixed h.cars, clampDoor_clamps.map_fixed h.doors,
      clampMessage_clamps.map_fixed h.messages, clampRegimeMsgs_clamps.fixed _ h.regimeMsgs]

theorem clampImage_shaped {i : Image} (h : ImageShaped i) : ImageShaped (clampImage i) where
  floors := (List.length_map _).trans h.floors
  stairs := (List.length_map _).trans h.stairs
  zones := (List.length_map _).trans h.zones
  nodes := (List.length_map _).trans h.nodes
  groups := (List.length_map _).trans h.groups
  cars := (List.length_map _).trans h.cars
  doors := (List.length_map _).trans h.doors
  messages := (List.length_map _).trans h.messages
  labels r hr := by
    obtain ⟨x, hx, rfl⟩ := List.mem_map.mp hr
    exact h.labels x hx
  maps r hr := by
    obtain ⟨x, hx, rfl⟩ := List.mem_map.mp hr
    exact (clampMap_length _ x.map).trans (h.maps x hx)

theorem clampGeneral_nearest (r : GeneralRec) : clampGeneral r =
    ⟨nearest 2 64 r.floorCount, nearest 10 120 r.window, nearest 60 900 r.advanceLimit, nearest 1 8 r.originLimit,
      nearest 1 15 r.retryInterval, nearest 2 30 r.dwell, nearest 30 600 r.heldOpenLimit, nearest 20 200 r.replyTimeout,
      nearest 1 8 r.channels, nearest 0 4 r.reserve⟩ := by
  simp [clampGeneral, clampTo_eq_nearest]

/-! ## The clamped values -/

theorem eq_of_mem_zip_self {α : Type} {l : List α} {e : α × α} (h : e ∈ l.zip l) : e.1 = e.2 := by
  induction l with
  | nil => cases h
  | cons x l ih =>
    obtain rfl | h := List.mem_cons.mp h
    · rfl
    · exact ih h

/-- A table whose records do not differ from themselves has no clamped values against itself. -/
theorem diffTable_self {α : Type} {diff : α → α → List Nat} (h : ∀ r, diff r r = []) (table : Nat) (l : List α) :
    diffTable table diff l l = [] := by
  refine List.flatMap_eq_nil_iff.mpr fun e he => ?_
  have hsame := eq_of_mem_zip_self (List.mem_of_getElem? (mem_indexedFrom.mp he).2)
  rw [hsame, h, List.map_nil]

/-- R182: no landing of a map differs from itself. -/
theorem diffGroup_self (r : GroupRec) : diffGroup r r = [] := by
  have hmap : (r.map.zip r.map).filter (fun e => e.1 != e.2) = [] :=
    List.filter_eq_nil_iff.mpr fun e he => by simp [eq_of_mem_zip_self he]
  rw [diffGroup, hmap]
  simp [changedFields, indexedFrom]

/-- R182: no record differs from itself, so no table of an image has clamped values against itself. -/
theorem clampedValues_self (i : Image) : clampedValues i i = [] := by
  simp [clampedValues, diffTable_self, diffGeneral, diffFloor, diffStair, diffZone, diffNode, diffGroup_self, diffCar,
    diffDoor, diffMessage, diffRegimeMsgs, changedFields, indexedFrom]

/-- Settles O56: clamping settles every table, and so the image. -/
theorem clampSettles : Obligations.ClampSettles := by
  intro i
  have settled {j : Image} (hj : ImageInRange j) : clampImage j = j ∧ clampedValues j (clampImage j) = [] := by
    rw [clampImage_clamps.fixed j hj]
    exact ⟨rfl, clampedValues_self j⟩
  exact ⟨clampImage_clamps.mem i, settled, clampGeneral_nearest _, clampImage_shaped, settled (clampImage_clamps.mem i)⟩

end Sys2Proof.Machine
end

section
/-!
What an event is made of. Each block changes its record by the operations of its chapter, read in the state as it stands; what
else an event does is elsewhere. `Part` lists these changes, `Parts` chains them, and `step_parts` says that a step is such a
chain: a property that every part keeps is then kept by every step.
-/

namespace Sys2Proof.Machine

/-! ## The operations of the blocks -/

/-- The operations of the Lift Coordinator (chapter 04). -/
inductive LiftOp (env : LEnv) : (LAcc → LAcc) → Prop where
  | rebuildLockouts : LiftOp env (LAcc.rebuildLockouts env)
  | lockoutChange (f : Nat) : LiftOp env (LAcc.lockoutChange env f)
  | triggers (name : TriggerName) (zone : Option TriggerZone) (numbers : LC → List Nat) :
      LiftOp env (fun a => (numbers a.st).foldl (LAcc.trigger env name zone) a)
  | clearances (link : Line) (number : Nat) : LiftOp env (LAcc.clearances env link number)
  | recallRequest (n : Nat) : LiftOp env (LAcc.recallRequest env n)
  | endRecall (cause : EndOrigin) (n : Nat) : LiftOp env (LAcc.endRecall env cause n)
  | regimeEnded : LiftOp env (LAcc.regimeEnded env)
  | reply (n : Nat) (echo : LandingMask) (clean : Bool) (c : Carried) (answer : Option AnswerBlock)
      (entries : List CarEntry) :
      LiftOp env (fun a => ((a.echo n echo clean).answerTo env n c answer).entries env n entries)
  | missed (car : Nat) : LiftOp env (LAcc.missed env car)
  | retryExpired (car : Nat) : LiftOp env (LAcc.retryExpired car)
  | fireOn (car : Nat) : LiftOp env (LAcc.fireOn env car)
  | fireOff (car : Nat) : LiftOp env (LAcc.fireOff env car)
  | nodeDown (n : Nat) : LiftOp env (LAcc.nodeDown n)
  | nodeUp (n : Nat) : LiftOp env (LAcc.nodeUp env n)

/-- The operations of the Door Supervisor (chapter 05). -/
inductive DoorOp (env : DEnv) : (DAcc → DAcc) → Prop where
  | moduleReply (loop : Line) (address : Nat) (sensed : List Sensed) (answered : Bool) :
      DoorOp env (DAcc.moduleReply env loop address sensed answered)
  | dwellExpired (index : Nat) : DoorOp env (DAcc.dwellExpired env index)
  | heldOpenExpired (index : Nat) : DoorOp env (DAcc.heldOpenExpired env index)
  | regimeEntered : DoorOp env (DAcc.regimeEntered env)
  | regimeEnded : DoorOp env (DAcc.regimeEnded env)
  | floorAdmitted (f : Nat) : DoorOp env (DAcc.floorAdmitted env f)
  | generalEntered : DoorOp env (DAcc.generalEntered env)
  | manualChange (add : Bool) (floors : FloorSet) (stairs : QuadSet) :
      DoorOp env (DAcc.manualChange env add floors stairs)
  | moduleDown (loop : Line) (address : Nat) : DoorOp env (DAcc.moduleDown loop address)
  | moduleUp (loop : Line) (address : Nat) : DoorOp env (DAcc.moduleUp loop address)

/-- The operations of the Announcement Router (chapter 06). -/
inductive AnnOp (env : AEnv) : (AAcc → AAcc) → Prop where
  | floorAdmitted (f : Nat) : AnnOp env (AAcc.floorAdmitted env f)
  | regimeEntered : AnnOp env (AAcc.regimeEntered env)
  | regimeEnded : AnnOp env (AAcc.regimeEnded env)
  | matrixDown : AnnOp env AAcc.matrixDown
  | matrixUp : AnnOp env (AAcc.matrixUp env)
  | takeMarks (marks : List Nat) : AnnOp env (AAcc.takeMarks env marks)
  | overrun (channel : Nat) : AnnOp env (AAcc.overrun env channel)
  | makeTenant (message repeats : Nat) (floors : FloorSet) :
      AnnOp env (AAcc.make env .tenant .requested (some message) repeats (some floors))
  | cancelTenant (id : Nat) : AnnOp env (AAcc.cancelTenant env id)
  | beginLive (floors : FloorSet) : AnnOp env (AAcc.beginLive env floors)
  | endLive : AnnOp env (AAcc.endLive env)
  | settle : AnnOp env (AAcc.settle env)

/-- R190: a configuration record as the line gives it: a floor's label of four bytes, a group's map of 64 landings. -/
def ConfigRecord.Shaped : ConfigRecord → Prop
  | .floor r => r.label.length = 4
  | .group r => r.map.length = 64
  | _ => True

/-- The changes of the Configuration Store (chapter 09) between two loads. -/
inductive StoreMove (c : CS) : CS → Prop where
  | closed : StoreMove c { c with staged := none }
  | opened : StoreMove c { c with staged := some (openedImage c) }
  | written {i : Image} (index : Nat) {r : ConfigRecord} (h : c.staged = some i) (hr : r.Shaped) :
      StoreMove c { c with staged := some (putRecord index r i) }
  | committed {i : Image} (h : c.staged = some i) :
      StoreMove c { c with staged := some (clampImage i), writing := some (imageCheck (clampImage i)) }
  | stored {i : Image} (check : BitVec 32) (h : c.staged = some i) : StoreMove c { c with store := .holds i check }
  | torn (k : Nat) : StoreMove c { c with store := .torn k, writing := none }

/-! ## The parts of an event -/

/-- A change that leaves the lifts, the door points, the announcements, the store and the number of floors. -/
structure Elsewhere (s t : State) : Prop where
  lc : t.lc = s.lc
  ds : t.ds = s.ds
  ar : t.ar = s.ar
  cs : t.cs = s.cs
  floors : t.rc.floors.length = s.rc.floors.length

/-- One change of the part: elsewhere, of one block by an operation of its chapter, of the store, the power-on state built from
tables, or one second of the timers. -/
inductive Part : State → State → Prop where
  | elsewhere {s t : State} (h : Elsewhere s t) : Part s t
  | lift {s : State} {f : LAcc → LAcc} (h : LiftOp s.lenv f) : Part s (s.liftLc f)
  | doors {s : State} {f : DAcc → DAcc} (h : DoorOp s.denv f) : Part s (s.liftDs f)
  | announce {s : State} {f : AAcc → AAcc} (h : AnnOp s.aenv f) : Part s (s.liftAr f)
  | store {s : State} {c : CS} {k : Nat} (h : StoreMove s.cs c) : Part s { s with cs := c, freeCount := k }
  | booted {s t : State} {tb : Tables} (h : BuiltFrom tb t) (hcs : t.cs = ⟨s.cs.store, none, tb.isNone, none⟩) : Part s t
  | second {s : State} : Part s (idleSecond s)

/-- A chain of parts. -/
def Parts : State → State → Prop := Relation.ReflTransGen Part

/-- What every part keeps, a chain of them keeps. -/
theorem Parts.keeps {P : State → Prop} (hP : ∀ s t, Part s t → P s → P t) {s t : State} (h : Parts s t) (hs : P s) :
    P t := by
  induction h with
  | refl => exact hs
  | tail _ part ih => exact hP _ _ part ih

theorem Parts.refl {s : State} : Parts s s := Relation.ReflTransGen.refl

theorem Parts.trans {a b c : State} (h : Parts a b) (k : Parts b c) : Parts a c := Relation.ReflTransGen.trans h k

theorem Parts.of_part {s t : State} (h : Part s t) : Parts s t := Relation.ReflTransGen.single h

theorem Parts.ite {c : Prop} [Decidable c] {s a b : State} (h : Parts s a) (k : Parts s b) :
    Parts s (if c then a else b) := by
  split
  · exact h
  · exact k

theorem Parts.foldl {α : Type} {op : State → α → State} (h : ∀ s a, Parts s (op s a)) (l : List α) (s : State) :
    Parts s (l.foldl op s) := foldl_keeps (P := Parts s) (fun b a hb => hb.trans (h b a)) l s .refl

/-- A request turned away leaves the part as it stands. -/
theorem Parts.guard {c : Prop} [Decidable c] {a : Answer} {s : State} {p : Answer × State} (h : Parts s p.2) :
    Parts s (if c then (a, s) else p).2 := by
  split
  · exact .refl
  · exact h

/-! ## The shared operations -/

/-- A change that is nowhere in the four blocks. -/
theorem Parts.elsewhere {s t : State} (hlc : t.lc = s.lc) (hds : t.ds = s.ds) (har : t.ar = s.ar) (hcs : t.cs = s.cs)
    (hfloors : t.rc.floors.length = s.rc.floors.length) : Parts s t := .of_part (.elsewhere ⟨hlc, hds, har, hcs, hfloors⟩)

theorem modSp_parts (f : SP → SP) (s : State) : Parts s (s.modSp f) := .elsewhere rfl rfl rfl rfl rfl

theorem modFlc_parts (f : FLC → FLC) (s : State) : Parts s (s.modFlc f) := .elsewhere rfl rfl rfl rfl rfl

theorem modZe_parts (f : ZE → ZE) (s : State) : Parts s (s.modZe f) := .elsewhere rfl rfl rfl rfl rfl

theorem modEs_parts (f : ES → ES) (s : State) : Parts s (s.modEs f) := .elsewhere rfl rfl rfl rfl rfl

theorem modRc_parts {f : RC → RC} {s : State} (h : (f s.rc).floors.length = s.rc.floors.length) :
    Parts s (s.modRc f) := .elsewhere rfl rfl rfl rfl h

theorem modCs_parts {f : CS → CS} {s : State} (h : StoreMove s.cs (f s.cs)) : Parts s (s.modCs f) := .of_part (.store h)

theorem modNodeAt_parts (port : Line) (address : Nat) (f : Node → Node) (s : State) :
    Parts s (modNodeAt port address f s) := modFlc_parts _ s

theorem offer_parts (cls : Cls) (body : Body) (s : State) : Parts s (offer cls body s) := by
  obtain ⟨-, h⟩ | ⟨-, h⟩ := offer_cases cls body s <;> rw [h] <;> exact .elsewhere rfl rfl rfl rfl rfl

theorem troubleMove_parts (src : Source) (rise : Bool) (s : State) : Parts s (troubleMove src rise s) :=
  .elsewhere (by simp) (by simp) (by simp) (by simp) (by simp)

theorem liftLc_parts {f : LAcc → LAcc} {s : State} (h : LiftOp s.lenv f) : Parts s (s.liftLc f) := .of_part (.lift h)

theorem liftDs_parts {f : DAcc → DAcc} {s : State} (h : DoorOp s.denv f) : Parts s (s.liftDs f) := .of_part (.doors h)

theorem liftAr_parts {f : AAcc → AAcc} {s : State} (h : AnnOp s.aenv f) : Parts s (s.liftAr f) := .of_part (.announce h)

/-! ## Admissions and the Egress Scheduler (R6, chapter 03) -/

theorem reportFloor_parts (cls : Cls) (cause : FloorCause) (f : Nat) (s : State) :
    Parts s (reportFloor cls cause f s) := by
  unfold reportFloor
  split
  · exact offer_parts ..
  · exact .refl

theorem reportStair_parts (cause : StairCause) (i : Nat) (floor : Option (Nat × Label)) (s : State) :
    Parts s (reportStair cause i floor s) := by
  unfold reportStair
  split
  · exact offer_parts ..
  · exact .refl

theorem admitFloor_parts (kind : AdmKind) (shares : Option (List (Nat × Nat))) (told : Bool) (f : Nat) (s : State) :
    Parts s (admitFloor kind shares told f s) := by
  have admitted : Parts s (s.modRc (fun r => r.modFloor f (admittedFloor kind shares r.secondCount))) :=
    modRc_parts (by simp [RC.modFloor])
  exact .ite (.trans (.ite (admitted.trans (reportFloor_parts ..)) admitted)
    ((liftDs_parts (.floorAdmitted f)).trans (liftAr_parts (.floorAdmitted f)))) .refl

theorem addShare_parts (s : State) (e : Nat × Nat) : Parts s (addShare s e) := by
  unfold addShare
  split
  · exact .refl
  · rename_i st _
    have added := modEs_parts (ES.modStair e.1 (loadedStair e.2)) s
    have told := Parts.ite (c := (loadedStair e.2 st).cond = st.cond) added
      (added.trans (reportStair_parts .congested e.1 none _))
    exact .ite .refl (.ite told (told.trans (reportStair_parts ..)))

theorem admitStep_parts (kind : AdmKind) (f : Nat) (s : State) : Parts s (admitStep kind f s) := by
  have off : Parts s (s.modEs (fun x => { x with waiting := x.waiting.erase f })) := modEs_parts _ s
  unfold admitStep
  split
  · exact off
  · refine .ite ?_ off
    dsimp only
    split
    · exact (off.trans (admitFloor_parts ..)).trans (reportStair_parts ..)
    · exact (off.trans (admitFloor_parts ..)).trans (Parts.foldl addShare_parts _ _)

theorem restartAdvance_parts (s : State) : Parts s (restartAdvance s) := modEs_parts _ s

theorem stopAdvance_parts (s : State) : Parts s (stopAdvance s) := modEs_parts _ s

theorem attemptRounds_parts (n : Nat) (s : State) : Parts s (attemptRounds n s) := by
  induction n generalizing s with
  | zero => exact .refl
  | succ n ih =>
    have round (f : Nat) : Parts s (attemptRounds n (restartAdvance (admitStep .ordered f s))) :=
      ((admitStep_parts ..).trans (restartAdvance_parts _)).trans (ih _)
    unfold attemptRounds
    split
    · exact .refl
    · split
      · exact round _
      · exact .ite .refl (round _)

theorem attempt_parts (s : State) : Parts s (attempt s) := attemptRounds_parts _ s

theorem regimeStart_parts (o : Nat) (s : State) : Parts s (regimeStart o s) := by
  have built : Parts s (s.modEs (fun x => { x with waiting := buildList o s })) := modEs_parts _ s
  exact .trans (.ite (built.trans (admitStep_parts ..)) built) ((restartAdvance_parts _).trans (attempt_parts _))

theorem newOrigin_parts (o : Nat) (s : State) : Parts s (newOrigin o s) := by
  have promoted : Parts s ((if s.es.waiting.contains o then admitStep .origin o s else s).modEs
      (fun x => { x with waiting := promoteNeighbours o x.waiting })) :=
    .trans (.ite (admitStep_parts ..) .refl) (modEs_parts _ _)
  exact .ite promoted (promoted.trans (attempt_parts _))

theorem evacuateFloor_parts (s : State) (f : Nat) : Parts s (evacuateFloor s f) :=
  .ite (admitStep_parts ..) (.ite (admitFloor_parts ..) .refl)

theorem evacuateSpan_parts (floors : List Nat) (s : State) : Parts s (evacuateSpan floors s) := by
  have span := Parts.foldl evacuateFloor_parts floors s
  unfold evacuateSpan
  dsimp only
  exact .ite (.trans (.ite (span.trans (restartAdvance_parts _)) span) (attempt_parts _))
    (.ite (span.trans (restartAdvance_parts _)) span)

theorem drainExpired_parts (i : Nat) (s : State) : Parts s (drainExpired i s) := by
  unfold drainExpired
  split
  · exact .refl
  · have drained := modEs_parts (ES.modStair i (fun x => reopenedStair (drainedStair x))) s
    exact .ite (.ite drained (drained.trans ((reportStair_parts ..).trans (attempt_parts _)))) .refl

theorem advanceExpired_parts (s : State) : Parts s (advanceExpired s) := by
  refine .ite ?_ .refl
  split
  · exact stopAdvance_parts s
  · exact ((admitStep_parts ..).trans (restartAdvance_parts _)).trans (attempt_parts _)

theorem compromise_parts (i : Nat) (s : State) : Parts s (compromise i s) := by
  have marked := modEs_parts (ES.modStair i (fun x => { x with compromised := true })) s
  unfold compromise
  split
  · exact .refl
  · exact .ite .refl ((marked.trans (reportStair_parts ..)).trans (attempt_parts _))

theorem bulkAdmission_parts (s : State) : Parts s (bulkAdmission s) :=
  (Parts.foldl (op := fun b f => admitStep .general f b) (fun b f => admitStep_parts .general f b) _ s).trans
    (stopAdvance_parts _)

theorem clearEgress_parts (s : State) : Parts s (clearEgress s) := modEs_parts _ s

end Sys2Proof.Machine
end

section
/-!
The parts of the operations of the Regime Core, the zones, the field lines, the restarts and the store.
-/

namespace Sys2Proof.Machine

/-! ## The Regime Core (chapter 01) -/

theorem changeLevel_parts (new : Level) (cause : RegimeCause) (s : State) : Parts s (changeLevel new cause s) :=
  (modRc_parts rfl).trans (offer_parts ..)

theorem abortSession_parts (s : State) : Parts s (abortSession s) :=
  .ite ((modCs_parts .closed).trans (offer_parts ..)) .refl

theorem enterRegime_parts (level : Level) (cause : RegimeCause) (s : State) :
    Parts s (enterRegime level cause s) :=
  ((changeLevel_parts ..).trans (modRc_parts (by simp [RC.eachFloor]))).trans
    (((liftAr_parts .regimeEntered).trans (liftDs_parts .regimeEntered)).trans
      ((liftLc_parts .rebuildLockouts).trans (abortSession_parts _)))

theorem admitQuietly_parts (kind : AdmKind) (floors : List Nat) (s : State) :
    Parts s (admitQuietly kind floors s) :=
  Parts.foldl (fun b f => admitFloor_parts kind none false f b) _ s

theorem enterPhased_parts (origin : Nat) (s : State) : Parts s (enterPhased origin s) :=
  (enterRegime_parts ..).trans ((admitQuietly_parts ..).trans (regimeStart_parts ..))

theorem generalSteps_parts (s : State) : Parts s (generalSteps s) :=
  ((bulkAdmission_parts s).trans (admitQuietly_parts ..)).trans ((liftLc_parts (.triggers .general none groupNumbers)).trans
    (liftDs_parts .generalEntered))

theorem enterGeneral_parts (cause : RegimeCause) (s : State) : Parts s (enterGeneral cause s) := by
  unfold enterGeneral
  split
  · exact .refl
  · exact (changeLevel_parts ..).trans (generalSteps_parts _)
  · exact (enterRegime_parts ..).trans (generalSteps_parts _)

theorem recordOrigin_parts (o : Nat) (s : State) : Parts s (recordOrigin o s) :=
  .ite (modRc_parts (by simp [RC.modFloor])) .refl

theorem originAt_parts (o : Nat) (s : State) : Parts s (originAt o s) := by
  have entry : Parts s (match (recordOrigin o s).rc.level with
      | .normal => enterPhased o (recordOrigin o s)
      | .phased => if takesOrigin s.rc.origins o then newOrigin o (recordOrigin o s) else recordOrigin o s
      | .general => recordOrigin o s) := by
    refine (recordOrigin_parts o s).trans ?_
    split
    · exact enterPhased_parts ..
    · exact .ite (newOrigin_parts ..) .refl
    · exact .refl
  exact .ite (entry.trans (enterGeneral_parts ..)) entry

theorem recallByZone_parts (z : Zone) (s : State) : Parts s (recallByZone z s) :=
  liftLc_parts (.triggers _ _ (fun _ => members z.groups))

theorem confirmation_parts (z : Zone) (s : State) : Parts s (confirmation z s) := by
  refine .ite ((recordOrigin_parts 0 s).trans (enterGeneral_parts ..)) ?_
  cases z.kind with
  | smoke | heat | manualCall | sprinklerFlow => exact originAt_parts ..
  | liftLobby | hoistway | machineRoom => exact (originAt_parts ..).trans (recallByZone_parts z _)
  | stairSmoke =>
    cases z.stair with
    | none => exact originAt_parts ..
    | some i => exact (compromise_parts ..).trans (originAt_parts ..)
  | generalKey => exact enterGeneral_parts ..
  | recallKey => exact recallByZone_parts z s

theorem clearance_parts (z : Zone) (s : State) : Parts s (clearance z s) :=
  .ite .refl (liftLc_parts (.clearances ..))

theorem moveAlarmCount_parts (change : Nat → Nat) (f : Nat) (s : State) :
    Parts s (moveAlarmCount change f s) := by
  unfold moveAlarmCount
  split
  · exact .refl
  · rename_i fl _
    have moved : Parts s (s.modRc (fun r => r.modFloor f (fun x =>
        { x with alarmCount := change fl.alarmCount, lockout := decide (0 < change fl.alarmCount) }))) :=
      modRc_parts (by simp [RC.modFloor])
    exact .ite moved ((moved.trans (liftLc_parts (.lockoutChange f))).trans (reportFloor_parts ..))

theorem reportRegime_parts (cause : RegimeCause) (s : State) : Parts s (reportRegime cause s) := offer_parts ..

theorem abandonReset_parts (s : State) : Parts s (abandonReset s) :=
  .ite (((modRc_parts rfl).trans (modZe_parts ..)).trans (reportRegime_parts ..)) .refl

theorem completeReset_parts (s : State) : Parts s (completeReset s) :=
  (((modRc_parts rfl).trans (changeLevel_parts ..)).trans
    ((modRc_parts (by simp [RC.eachFloor])).trans (clearEgress_parts _))).trans
    (((liftLc_parts .regimeEnded).trans (liftDs_parts .regimeEnded)).trans (liftAr_parts .regimeEnded))

theorem testCompletion_parts (s : State) : Parts s (testCompletion s) := .ite (completeReset_parts s) .refl

theorem riseNotice_parts (f : Nat) (s : State) : Parts s (riseNotice f s) :=
  ((abandonReset_parts s).trans (moveAlarmCount_parts ..)).trans (abortSession_parts _)

theorem fallNotice_parts (f : Nat) (s : State) : Parts s (fallNotice f s) :=
  (moveAlarmCount_parts ..).trans (testCompletion_parts _)

/-! ## The Zone Engine (chapter 02) -/

/-- R154: an action offered for a panel node. -/
theorem queueAction_parts (link : Line) (a : Action) (s : State) : Parts s (queueAction link a s) := by
  unfold queueAction
  split
  · exact modFlc_parts _ s
  · exact .refl

theorem offerReset_parts (z : Zone) (s : State) : Parts s (offerReset z s) :=
  .ite (queueAction_parts ..) .refl

theorem offerSnapshot_parts (link : Line) (s : State) : Parts s (offerSnapshot link s) :=
  (queueAction_parts ..).trans (modZe_parts _ _)

theorem zoneTrouble_parts (old new : Zone) (s : State) : Parts s (zoneTrouble old new s) :=
  .ite .refl (troubleMove_parts ..)

theorem zoneNotices_parts (old new : Zone) (s : State) : Parts s (zoneNotices old new s) := by
  unfold zoneNotices
  split
  · exact .refl
  · exact .refl
  · exact riseNotice_parts ..
  · exact confirmation_parts ..
  · exact (riseNotice_parts ..).trans (confirmation_parts ..)
  · exact (clearance_parts ..).trans (fallNotice_parts ..)
  · exact fallNotice_parts ..
  · exact .refl

theorem changeZone_parts (cls : Cls) (cause : ZoneCause) (old new : Zone) (s : State) :
    Parts s (changeZone cls cause old new s) :=
  ((modZe_parts _ s).trans (offer_parts ..)).trans ((zoneNotices_parts ..).trans (zoneTrouble_parts ..))

theorem corroborateZone_parts (s : State) (z : Zone) : Parts s (corroborateZone s z) := by
  unfold corroborateZone
  split
  · exact .ite (changeZone_parts ..) .refl
  · exact .refl

theorem corroborate_parts (z : Zone) (s : State) : Parts s (corroborate z s) :=
  (changeZone_parts ..).trans (Parts.foldl corroborateZone_parts _ _)

theorem takeAlarm_parts (z : Zone) (s : State) : Parts s (takeAlarm z s) := by
  have fresh : Parts s (if corroborated s.ze.zones z then corroborate z s else if z.verify then startWindow z s
      else changeZone .alarm .arrival z z.confirm s) :=
    .ite (corroborate_parts ..) (.ite ((changeZone_parts ..).trans (offerReset_parts ..)) (changeZone_parts ..))
  unfold takeAlarm
  cases z.state with
  | normal | unknown | trouble => exact fresh
  | verifying => exact .ite (changeZone_parts ..) .refl
  | confirmed | disabled => exact .refl

theorem takeNormal_parts (z : Zone) (s : State) : Parts s (takeNormal z s) := by
  unfold takeNormal
  cases z.state with
  | unknown | trouble => exact changeZone_parts ..
  | verifying => exact modZe_parts _ s
  | confirmed => exact .ite (changeZone_parts ..) .refl
  | normal | disabled => exact .refl

theorem takeFault_parts (cause : ZoneCause) (z : Zone) (s : State) : Parts s (takeFault cause z s) := by
  unfold takeFault
  cases z.state with
  | normal | unknown => exact changeZone_parts ..
  | trouble | verifying | confirmed | disabled => exact .refl

theorem takeInput_parts (cause : ZoneCause) (input : Input) (z : Zone) (s : State) :
    Parts s (takeInput cause input z s) := by
  refine (modZe_parts (ZE.putZone { z with lastInput := some input }) s).trans ?_
  cases input with
  | alarm => exact takeAlarm_parts ..
  | normal => exact takeNormal_parts ..
  | fault => exact takeFault_parts ..

theorem confirmWithoutRecord_parts (link : Line) (number : Nat) (s : State) :
    Parts s (confirmWithoutRecord link number s) := by
  unfold confirmWithoutRecord
  exact .trans (offer_parts ..) (confirmation_parts ..)

theorem arrive_parts (listed : Bool) (cause : ZoneCause) (link : Line) (number : Nat) (input : Input) (s : State) :
    Parts s (arrive listed cause link number input s) := by
  unfold arrive
  split
  · exact .ite .refl (takeInput_parts ..)
  · refine .ite (.ite ?_ (.ite (confirmWithoutRecord_parts ..) .refl)) .refl
    exact ((modZe_parts _ s).trans (troubleMove_parts ..)).trans (takeInput_parts ..)

theorem windowExpired_parts (link : Line) (number : Nat) (s : State) : Parts s (windowExpired link number s) := by
  unfold windowExpired
  split
  · exact .refl
  · split
    · exact .refl
    · refine .ite .refl (.ite (changeZone_parts ..) ?_)
      split <;> exact changeZone_parts ..

theorem takeChanges_parts (link : Line) (entries : List (Nat × Input)) (s : State) :
    Parts s (takeChanges link entries s) :=
  Parts.foldl (fun b (e : Nat × Input) => arrive_parts true .arrival link e.1 e.2 b) entries s

theorem takeSnapshot_parts (link : Line) (entries : List (Nat × Input)) (s : State) :
    Parts s (takeSnapshot link entries s) :=
  ((modZe_parts _ s).trans
    (Parts.foldl (fun b (e : Nat × Input) => arrive_parts false .arrival link e.1 e.2 b) entries _)).trans
    (Parts.foldl (fun b (z : Zone) => arrive_parts false .snapshotMissing link z.number .fault b) _ _)

theorem zonesDown_parts (link : Line) (s : State) : Parts s (zonesDown link s) :=
  ((modZe_parts _ s).trans (offer_parts ..)).trans (Parts.foldl (fun b _ => troubleMove_parts .zones true b) _ _)

theorem resetZone_parts (s : State) (z : Zone) : Parts s (resetZone s z) := by
  unfold resetZone
  split
  · exact .refl
  · split
    · exact .ite (((modZe_parts _ s).trans (clearance_parts ..)).trans (moveAlarmCount_parts ..)) (modZe_parts _ s)
    · exact ((modZe_parts _ s).trans (moveAlarmCount_parts ..)).trans (offerReset_parts ..)
    · exact .refl

theorem startReset_parts (s : State) : Parts s (startReset s) :=
  ((modRc_parts rfl).trans (reportRegime_parts ..)).trans
    ((Parts.foldl resetZone_parts _ _).trans (testCompletion_parts _))

theorem enableZone_parts (z : Zone) (s : State) : Parts s (enableZone z s) := by
  unfold enableZone
  split
  · exact .ite ((changeZone_parts ..).trans (takeInput_parts ..)) (changeZone_parts ..)
  · exact changeZone_parts ..

theorem debounced_parts (n : Nat) (s : State) : Parts s (debounced n s) := by
  unfold debounced
  split
  · exact .refl
  · exact .ite (.ite (modZe_parts ..) ((modZe_parts ..).trans (arrive_parts ..))) .refl

/-! ## The field lines (chapter 07) -/

theorem startSlot_parts (port : Line) (s : State) : Parts s (startSlot port s) := by
  unfold startSlot
  split
  · exact .refl
  · split
    · exact modFlc_parts _ s
    · exact .refl

theorem tellUp_parts (port : Line) (address : Nat) (s : State) : Parts s (tellUp port address s) := by
  cases port with
  | p i => exact modZe_parts _ s
  | g i => exact liftLc_parts (.nodeUp i.val)
  | d i => exact liftDs_parts (.moduleUp (.d i) address)
  | a => exact liftAr_parts .matrixUp
  | l => exact .refl

theorem tellDown_parts (port : Line) (address : Nat) (s : State) : Parts s (tellDown port address s) := by
  cases port with
  | p i => exact zonesDown_parts _ s
  | g i => exact liftLc_parts (.nodeDown i.val)
  | d i => exact liftDs_parts (.moduleDown (.d i) address)
  | a => exact liftAr_parts .matrixDown
  | l => exact .refl

theorem reportNode_parts (cls : Cls) (cause : NodeCause) (port : Line) (address : Nat) (s : State) :
    Parts s (reportNode cls cause port address s) := by
  unfold reportNode
  split
  · exact offer_parts ..
  · exact .refl

theorem enterLive_parts (port : Line) (address : Nat) (s : State) : Parts s (enterLive port address s) := by
  have live := modNodeAt_parts port address Node.goLive s
  have asked := Parts.ite (c := port.isPanel = true) (live.trans (offerSnapshot_parts port _)) live
  exact ((asked.trans (reportNode_parts ..)).trans (tellUp_parts ..)).trans (troubleMove_parts ..)

theorem enterLost_parts (port : Line) (address : Nat) (s : State) : Parts s (enterLost port address s) :=
  ((modNodeAt_parts ..).trans (reportNode_parts ..)).trans ((tellDown_parts ..).trans (troubleMove_parts ..))

theorem stateAfterReply_parts (port : Line) (address : Nat) (n : Node) (s : State) :
    Parts s (stateAfterReply port address n s) := by
  unfold stateAfterReply
  cases n.link with
  | offline | lost => exact modNodeAt_parts ..
  | training => exact .ite (enterLive_parts ..) .refl
  | live => exact .refl
  | suspect => exact (modNodeAt_parts ..).trans (reportNode_parts ..)

theorem stateAfterMiss_parts (port : Line) (address : Nat) (n : Node) (s : State) :
    Parts s (stateAfterMiss port address n s) := by
  unfold stateAfterMiss
  cases n.link with
  | offline | lost => exact .refl
  | training => exact (modNodeAt_parts ..).trans (tellDown_parts ..)
  | live => exact .ite ((modNodeAt_parts ..).trans (reportNode_parts ..)) .refl
  | suspect => exact .ite (enterLost_parts ..) .refl

theorem supervise_parts (valid : Bool) (port : Line) (address : Nat) (s : State) :
    Parts s (supervise valid port address s) := by
  have counted := modNodeAt_parts port address (if valid then countGood else countMiss) s
  unfold supervise
  dsimp only
  split
  · exact counted
  · exact counted.trans (.ite (stateAfterReply_parts ..) (stateAfterMiss_parts ..))

theorem offerAgain_parts (port : Line) (s : State) : Parts s (offerAgain port s) :=
  .ite (offerSnapshot_parts ..) .refl

theorem deliverGroup_parts (n : Nat) (c : Carried) (echo : LandingMask) (answer : Option AnswerBlock)
    (entries : List CarEntry) (s : State) : Parts s (deliverGroup n c echo answer entries s) := by
  unfold deliverGroup
  exact liftLc_parts (.reply ..)

theorem deliver_parts (port : Line) (address : Nat) (c : Carried) (r : FieldReply) (s : State) :
    Parts s (deliver port address c r s) := by
  cases r with
  | quiet => exact offerAgain_parts ..
  | changes es => exact (takeChanges_parts ..).trans (offerAgain_parts ..)
  | snapshot es => exact (takeSnapshot_parts ..).trans (offerAgain_parts ..)
  | group echo answer es =>
    cases port with
    | g i => exact deliverGroup_parts ..
    | _ => exact .refl
  | module sensed => exact liftDs_parts (.moduleReply ..)
  | matrix marks => exact liftAr_parts (.takeMarks marks)

theorem takeReply_parts (port : Line) (sl : Slot) (r : FieldReply) (s : State) :
    Parts s (takeReply port sl r s) := by
  have answered := (modFlc_parts (endSlot port) s).trans (modNodeAt_parts port sl.address (answeredNode sl.carried) _)
  have delivered := answered.trans (deliver_parts port sl.address sl.carried r _)
  exact (delivered.trans (modNodeAt_parts ..)).trans ((supervise_parts ..).trans (modNodeAt_parts ..))

theorem receiveReply_parts (kind : Byte) (port : Line) (address control : Byte) (payload : List Byte) (s : State) :
    Parts s (receiveReply kind port address control payload s) := by
  unfold receiveReply
  split
  · exact .refl
  · split
    · exact .refl
    · exact .ite (takeReply_parts ..) .refl

theorem missSlot_parts (port : Line) (s : State) : Parts s (missSlot port s) := by
  unfold missSlot
  split
  · exact .refl
  · rename_i sl _
    have ended := (modFlc_parts (endSlot port) s).trans (modNodeAt_parts port sl.address (missedNode sl.carried) _)
    dsimp only
    refine Parts.trans ?_ (supervise_parts ..)
    split
    · exact ended.trans (liftLc_parts (.missed _))
    · exact ended

/-! ## Restarts and the store (chapters 08 and 09) -/

theorem interruptWrite_parts (s : State) : Parts s (interruptWrite s) := .ite (.of_part (.store (.torn _))) .refl

theorem losePower_parts (s : State) : Parts s (losePower s) :=
  (interruptWrite_parts s).trans (.elsewhere rfl rfl rfl rfl rfl)

/-- R175, R179: every block built afresh from the tables that are loaded. -/
theorem coldBoot_parts (tb : Tables) (cls : Cls) (report : Body) (s : State) : Parts s (coldBoot tb cls report s) :=
  .of_part (.booted (coldBoot_builtFrom tb cls report s) (coldBoot_cs tb cls report s))

theorem powerUp_parts (s : State) : Parts s (powerUp s) :=
  (interruptWrite_parts s).trans (.of_part (.booted (powerUp_builtFrom s) (by simp [powerUp, bootBlocks, powerUpTables])))

theorem restartCold_parts (s : State) : Parts s (restartCold s) := (modSp_parts _ s).trans (coldBoot_parts ..)

theorem warmDown_parts (s : State) (n : Node) : Parts s (warmDown s n) :=
  .ite (tellDown_parts ..) ((tellDown_parts ..).trans (troubleMove_parts ..))

theorem restartWarm_parts (s : State) : Parts s (restartWarm s) :=
  ((modSp_parts _ s).trans (offer_parts ..)).trans ((modFlc_parts _ _).trans (Parts.foldl warmDown_parts _ _))

/-- R184: the image written is in the store before its tables are loaded; a failed write leaves the store torn. -/
theorem writeComplete_parts (readBackEqual : Bool) (s : State) : Parts s (writeComplete readBackEqual s) := by
  unfold writeComplete
  split
  case h_1 check i _ hi =>
    have torn : Parts s { s with cs := { s.cs with store := .torn s.freeCount, writing := none },
                                 freeCount := s.freeCount + 1 } := .of_part (.store (.torn _))
    exact .ite ((modCs_parts (.stored check hi)).trans (coldBoot_parts ..)) (torn.trans (offer_parts ..))
  case h_2 => exact .refl

end Sys2Proof.Machine
end

section
/-!
The parts of the requests, of the receiver, of an event and of a step.
-/

namespace Sys2Proof.Machine

/-! ## Configuration records (R190, R191) -/

theorem decodeFloor_label {bytes : List Byte} {r : FloorRec} (h : decodeFloor bytes = some r) : r.label.length = 4 := by
  unfold decodeFloor at h
  split at h
  · split at h
    · obtain rfl := Option.some.inj h
      rfl
    · cases h
  · cases h

theorem decodeGroupRec_map {bytes : List Byte} {r : GroupRec} (hlength : bytes.length = 68)
    (h : decodeGroupRec bytes = some r) : r.map.length = 64 := by
  unfold decodeGroupRec at h
  split at h
  · split at h
    · obtain rfl := Option.some.inj h
      simp only [List.length_cons] at hlength
      simp only [List.length_map, List.length_take]
      omega
    · cases h
  · cases h

/-- R190, R191: a record of a table that decodes has a label of four bytes, or a map of 64 landings, where it has one. -/
theorem decodeRecord_shaped {table : Nat} {bytes : List Byte} {r : ConfigRecord} (h : decodeRecord table bytes = some r) :
    r.Shaped := by
  unfold decodeRecord at h
  split at h
  case h_2 =>
    obtain ⟨x, hx, rfl⟩ := Option.map_eq_some_iff.mp h
    exact decodeFloor_label hx
  case h_6 =>
    obtain ⟨hlength, h⟩ := Option.ite_none_right_eq_some.mp h
    obtain ⟨x, hx, rfl⟩ := Option.map_eq_some_iff.mp h
    exact decodeGroupRec_map hlength hx
  case h_11 => cases h
  all_goals
    obtain ⟨x, -, rfl⟩ := Option.map_eq_some_iff.mp h
    exact trivial

/-! ## Requests (R165) -/

theorem resetRegime_parts (s : State) : Parts s (resetRegime s).2 := .guard (.guard (startReset_parts s))

theorem startGeneral_parts (s : State) : Parts s (startGeneral s).2 :=
  (abandonReset_parts s).trans (enterGeneral_parts ..)

theorem evacuateFloors_parts (lo hi : Nat) (s : State) : Parts s (evacuateFloors lo hi s).2 := by
  refine .guard ?_
  split
  · exact .refl
  · exact .ite .refl (evacuateSpan_parts ..)

theorem setOccupancy_parts (f value : Nat) (s : State) : Parts s (setOccupancy f value s).2 := by
  unfold setOccupancy
  split
  · exact .refl
  · exact .guard (modRc_parts (by simp [RC.modFloor]))

theorem disableRequest_parts (link : Line) (number : Nat) (s : State) :
    Parts s (disableRequest link number s).2 := by
  unfold disableRequest
  split
  · exact .refl
  · rename_i z _
    cases z.state with
    | confirmed | disabled => exact .refl
    | verifying | normal | trouble | unknown => exact changeZone_parts ..

theorem enableRequest_parts (link : Line) (number : Nat) (s : State) :
    Parts s (enableRequest link number s).2 := by
  unfold enableRequest
  split
  · exact .refl
  · exact .ite (enableZone_parts ..) .refl

theorem recallGroup_parts (n : Nat) (s : State) : Parts s (recallGroup n s).2 := by
  unfold recallGroup
  split
  · exact .refl
  · exact liftLc_parts (.recallRequest n)

theorem releaseGroup_parts (n : Nat) (s : State) : Parts s (releaseGroup n s).2 := by
  unfold releaseGroup
  split
  · exact .refl
  · refine .guard ?_
    split
    · exact liftLc_parts (.endRecall .host n)
    · exact .refl

theorem fireService_parts (n : Nat) (on : Bool) (s : State) : Parts s (fireService n on s).2 := by
  unfold fireService
  split
  · exact .refl
  · cases on with
    | false => exact liftLc_parts (.fireOff n)
    | true =>
      rw [if_pos rfl]
      split
      · exact liftLc_parts (.fireOn n)
      · exact .refl

theorem manualRequest_parts (add : Bool) (lo hi : Nat) (stairs : QuadSet) (s : State) :
    Parts s (manualRequest add lo hi stairs s).2 := by
  unfold manualRequest
  split
  · exact .refl
  · exact .ite .refl (liftDs_parts (.manualChange ..))

theorem announce_parts (message lo hi repeats : Nat) (s : State) :
    Parts s (announce message lo hi repeats s).2 := by
  unfold announce
  split
  · exact .refl
  · refine .guard (.guard ?_)
    split
    · exact .refl
    · exact .guard (.guard (.guard (liftAr_parts (.makeTenant ..))))

theorem cancelAnnouncement_parts (id : Nat) (s : State) : Parts s (cancelAnnouncement id s).2 := by
  unfold cancelAnnouncement
  split
  · exact .refl
  · split
    · exact .refl
    · split
      · exact liftAr_parts .endLive
      · exact liftAr_parts (.cancelTenant id)

theorem beginLive_parts (lo hi : Nat) (s : State) : Parts s (beginLive lo hi s).2 := by
  unfold beginLive
  split
  · exact .refl
  · exact .guard (.guard (.guard (liftAr_parts (.beginLive _))))

theorem endLive_parts (s : State) : Parts s (endLive s).2 := .guard (liftAr_parts .endLive)

theorem requestRestart_parts (form : RestartForm) (s : State) : Parts s (requestRestart form s).2 :=
  .guard (.guard (modSp_parts (fun p => { p with restart := some form, restartDue := false }) s))

theorem beginCommission_parts (s : State) : Parts s (beginCommission s).2 :=
  .guard (.guard (.guard ((modCs_parts .opened).trans (offer_parts ..))))

theorem writeConfig_parts (index : Nat) {r : ConfigRecord} (hr : r.Shaped) (s : State) :
    Parts s (writeConfig index r s).2 := by
  refine .guard ?_
  split
  case h_1 => exact .refl
  case h_2 i hi => exact .guard (.of_part (.store (.written index hi hr)))

theorem commitConfig_parts (s : State) : Parts s (commitConfig s).2 := by
  refine .guard ?_
  split
  case h_1 => exact .refl
  case h_2 i hi =>
    dsimp only
    split
    · exact .refl
    · exact .of_part (.store (.committed hi))

theorem abandonCommission_parts (s : State) : Parts s (abandonCommission s).2 :=
  .guard (.guard ((modCs_parts .closed).trans (offer_parts ..)))

/-! ## Frames (R163, R164, R172) -/

theorem superviseHost_parts (s : State) : Parts s (superviseHost s) :=
  .ite (((modSp_parts _ s).trans (offer_parts ..)).trans (troubleMove_parts ..)) (modSp_parts _ s)

theorem hostSilence_parts (s : State) : Parts s (hostSilence s) :=
  .ite (((modSp_parts _ s).trans (offer_parts ..)).trans (troubleMove_parts ..)) .refl

theorem answerFrame_parts {ρ : Type} {lengthOk : Bool} {operands : Option ρ} {handle : ρ → State → Answer × State}
    (h : ∀ q, operands = some q → ∀ s, Parts s (handle q s).2) (s : State) :
    Parts s (answerFrame lengthOk operands handle s).2 := by
  unfold answerFrame
  split
  · split
    case h_1 => exact .refl
    case h_2 q => exact .guard (h q rfl s)
  · exact .refl

/-- R164, R165: a frame is taken by the supervision, and what its owner makes of the operands is answered. -/
theorem takeFrame_parts {ρ : Type} {operands : Option ρ} {handle : ρ → State → Answer × State}
    (h : ∀ q, operands = some q → ∀ s, Parts s (handle q s).2) (kind tag : Byte) (lengthOk : Bool) (s : State) :
    Parts s (takeFrame kind tag lengthOk operands handle s) :=
  (superviseHost_parts s).trans (.ite .refl ((answerFrame_parts h _).trans (modSp_parts _ _)))

theorem takeUnknown_parts (kind tag : Byte) (s : State) : Parts s (takeUnknown kind tag s) :=
  (superviseHost_parts s).trans (.ite .refl (modSp_parts _ _))

/-- R190: a frame operation made of its owner's handler. -/
theorem frameOperation_parts {ρ : Type} {handle : ρ → State → Answer × State} {f : Byte → List Byte → State → State}
    {kind : Byte} {lengthOk : List Byte → Bool} {operands : List Byte → Option ρ}
    (hf : ∀ tag p, f tag p = takeFrame kind tag (lengthOk p) (operands p) handle)
    (h : ∀ q s, Parts s (handle q s).2) (tag : Byte) (p : List Byte) (s : State) : Parts s (f tag p s) :=
  hf tag p ▸ takeFrame_parts (fun q _ => h q) ..

/-- R190, R191: a record that decodes has the shape of its table. -/
theorem configOperands_shaped {p : List Byte} {q : Nat × ConfigRecord} (h : configOperands p = some q) : q.2.Shaped := by
  unfold configOperands at h
  split at h
  case h_2 => cases h
  case h_1 t i0 i1 record =>
    obtain ⟨r, hr, rfl⟩ := Option.map_eq_some_iff.mp h
    exact decodeRecord_shaped hr

/-- R181: WRITE_CONFIG hands on a record that decodes. -/
theorem frameWriteConfig_parts (tag : Byte) (p : List Byte) (s : State) : Parts s (frameWriteConfig tag p s) :=
  takeFrame_parts (fun q hq => writeConfig_parts q.1 (configOperands_shaped hq)) ..

/-- R190: the frame operation of every request kind. -/
theorem frameTable_parts : ∀ f ∈ frameTable, ∀ tag p s, Parts s (f tag p s) := by
  simp only [frameTable, List.forall_mem_cons, List.not_mem_nil, false_imp_iff, implies_true, and_true]
  refine ⟨?_, ?_, ?_, ?_, ?_, ?_, ?_, ?_, ?acting⟩
  case acting =>
    exact ⟨frameOperation_parts (fun _ _ => rfl) (fun _ => resetRegime_parts),
      frameOperation_parts (fun _ _ => rfl) (fun _ => startGeneral_parts),
      frameOperation_parts (fun _ _ => rfl) (fun q => evacuateFloors_parts q.1 q.2),
      frameOperation_parts (fun _ _ => rfl) (fun q => setOccupancy_parts q.1 q.2),
      frameOperation_parts (fun _ _ => rfl) (fun q => disableRequest_parts q.1 q.2),
      frameOperation_parts (fun _ _ => rfl) (fun q => enableRequest_parts q.1 q.2),
      frameOperation_parts (fun _ _ => rfl) recallGroup_parts,
      frameOperation_parts (fun _ _ => rfl) releaseGroup_parts,
      frameOperation_parts (fun _ _ => rfl) (fun q => fireService_parts q.1 q.2),
      frameOperation_parts (fun _ _ => rfl) (fun q => manualRequest_parts true q.1 q.2.1 q.2.2),
      frameOperation_parts (fun _ _ => rfl) (fun q => manualRequest_parts false q.1 q.2.1 q.2.2),
      frameOperation_parts (fun _ _ => rfl) (fun q => announce_parts q.message q.lo q.hi q.repeats),
      frameOperation_parts (fun _ _ => rfl) cancelAnnouncement_parts,
      frameOperation_parts (fun _ _ => rfl) (fun q => beginLive_parts q.1 q.2),
      frameOperation_parts (fun _ _ => rfl) (fun _ => endLive_parts),
      frameOperation_parts (fun _ _ => rfl) requestRestart_parts,
      frameOperation_parts (fun _ _ => rfl) (fun _ => beginCommission_parts),
      frameWriteConfig_parts,
      frameOperation_parts (fun _ _ => rfl) (fun _ => commitConfig_parts),
      frameOperation_parts (fun _ _ => rfl) (fun _ => abandonCommission_parts)⟩
  all_goals exact frameOperation_parts (fun _ _ => rfl) (fun _ _ => .refl)

theorem dispatchFrame_parts (kind tag : Byte) (p : List Byte) (s : State) :
    Parts s (dispatchFrame kind tag p s) := by
  unfold dispatchFrame
  split
  · exact takeUnknown_parts ..
  · split
    · rename_i f hf
      exact frameTable_parts f (List.mem_of_getElem? hf) tag p s
    · exact takeUnknown_parts ..

theorem hunt_parts (s : State) : Parts s s.hunt := modSp_parts _ s

theorem testFrame_parts (r : Receiver) (low high : Byte) (s : State) : Parts s (testFrame r low high s) := by
  refine .ite ?_ (hunt_parts s)
  split
  · exact (hunt_parts s).trans (dispatchFrame_parts ..)
  · exact hunt_parts s

theorem receiveByte_parts (b : Byte) (s : State) : Parts s (receiveByte b s) := by
  unfold receiveByte
  dsimp only
  split
  · exact .ite (modSp_parts _ s) .refl
  · exact .ite (modSp_parts _ s) (hunt_parts s)
  · exact modSp_parts _ s
  · split
    · exact modSp_parts _ s
    · exact testFrame_parts ..

theorem endSending_parts (s : State) : Parts s (endSending s) := by
  unfold endSending
  split
  · exact .refl
  · exact modSp_parts _ s

/-! ## Events -/

theorem finish_parts (s : State) : Parts s (finish s) :=
  .trans (.ite (liftAr_parts .settle) .refl) (.elsewhere rfl rfl rfl rfl rfl)

/-- An event is the parts of its own change, and its end. -/
theorem event_parts {f : State → State} (h : ∀ s, Parts s (f s)) {s t : State} (ht : event f s = .next t) :
    Parts s t := by
  obtain rfl := Host.Outcome.next.inj ht
  have changed : Parts s (f { s with ev := Scratch.clear }) :=
    .trans (b := { s with ev := Scratch.clear }) (.elsewhere rfl rfl rfl rfl rfl) (h _)
  exact .ite ((changed.trans (modSp_parts _ _)).trans (finish_parts _)) .refl

theorem received_parts {f : State → State} (h : ∀ s, Parts s (f s)) {s t : State} (ht : received f s = .next t) :
    Parts s t := event_parts (f := fun s => f s.hunt) (fun s => (hunt_parts s).trans (h _)) ht

/-- Every command is a chain of parts. -/
theorem exec_parts {c : Instr} {s t : State} (ht : exec c s = .next t) : Parts s t := by
  cases c
  case powerOn =>
    obtain rfl := Host.Outcome.next.inj ht
    exact (powerUp_parts s).trans (finish_parts _)
  case secondCountTick => exact event_parts (fun s => modRc_parts rfl) ht
  case unknownKind kind tag p => exact received_parts (dispatchFrame_parts kind tag p) ht
  case supervisoryFrameDiscarded =>
    rw [exec, execSupervisoryFrameDiscarded] at ht
    refine event_parts (fun s => ?_) ht
    cases s.sp.rx.state with
    | length | check => exact hunt_parts s
    | hunting | body => exact .refl
  case receiveTimeout =>
    rw [exec, execReceiveTimeout] at ht
    refine event_parts (fun s => ?_) ht
    cases s.sp.rx.state with
    | length | body | check => exact hunt_parts s
    | hunting => exact .refl
  case hostSilent => exact event_parts hostSilence_parts ht
  case frameSent => exact event_parts endSending_parts ht
  case warmRestart => exact event_parts (fun s => .ite (restartWarm_parts s) .refl) ht
  case coldRestart => exact event_parts (fun s => .ite (restartCold_parts s) .refl) ht
  case storeWriteComplete b => exact event_parts (writeComplete_parts b) ht
  case localLineChange line level => exact event_parts (fun s => modZe_parts _ s) ht
  case debounceExpiry line => exact event_parts (debounced_parts line.val) ht
  case windowExpiry link zone => exact event_parts (windowExpired_parts link zone) ht
  case drainExpiry stair => exact event_parts (drainExpired_parts stair) ht
  case forcedAdvance => exact event_parts advanceExpired_parts ht
  case retryExpiry car => exact event_parts (fun s => liftLc_parts (.retryExpired car)) ht
  case dwellExpired point => exact event_parts (fun s => liftDs_parts (.dwellExpired point)) ht
  case heldOpenExpiry point => exact event_parts (fun s => liftDs_parts (.heldOpenExpired point)) ht
  case playOverrun channel => exact event_parts (fun s => liftAr_parts (.overrun channel)) ht
  case slotStart port => exact event_parts (startSlot_parts port) ht
  case quiet port a c p => exact event_parts (receiveReply_parts _ port a c p) ht
  case changes port a c p => exact event_parts (receiveReply_parts _ port a c p) ht
  case snapshot port a c p => exact event_parts (receiveReply_parts _ port a c p) ht
  case groupStatus port a c p => exact event_parts (receiveReply_parts _ port a c p) ht
  case moduleStatus port a c p => exact event_parts (receiveReply_parts _ port a c p) ht
  case matrixStatus port a c p => exact event_parts (receiveReply_parts _ port a c p) ht
  case fieldFrameDiscarded port => exact event_parts (fun _ => .refl) ht
  case replyWindowMiss port => exact event_parts (missSlot_parts port) ht
  case byteReceived b => exact event_parts (receiveByte_parts b) ht
  case lossOfPower =>
    obtain rfl := Host.Outcome.next.inj ht
    exact .ite (losePower_parts s) .refl
  all_goals exact received_parts (frameTable_parts _ (by simp [frameTable]) _ _) ht

/-- A step is a chain of parts: of the command at the front of the queue, or of one second. -/
theorem step_parts {s t : State} (ht : step s = .next t) : Parts s t := by
  unfold step at ht
  split at ht
  · rename_i rest _
    exact .trans (b := { s with pending := rest }) (.elsewhere rfl rfl rfl rfl rfl) (exec_parts ht)
  · obtain rfl := Host.Outcome.next.inj ht
    exact .of_part .second

end Sys2Proof.Machine
end

section
/-!
The keys of the lift tables and of the door points (chapters 04 and 05, R99): what each operation of the Lift Coordinator and of
the Door Supervisor leaves of them.
-/

namespace Sys2Proof.Machine

/-! ## Recalls: the groups and cars stay seated -/

theorem LAcc.startRecall_seated (env : LEnv) (name : TriggerName) (zone : Option TriggerZone) (n : Nat) (a : LAcc) :
    a.st.Seated (a.startRecall env name zone n).st := by
  have started : a.st.Seated (a.modGroup n (fun g =>
      { g with active := true, triggers := (⟨false, false, []⟩ : Triggers).note name zone })).st := by
    refine LAcc.modGroup_seated ?_ a
    exact fun _ => rfl
  have chosen (b : LAcc) : b.st.Seated (b.modGroup n (fun g => { g with target := chooseTarget env g })).st := by
    refine LAcc.modGroup_seated ?_ b
    exact fun _ => rfl
  unfold LAcc.startRecall
  dsimp only
  refine LC.Seated.trans ?_ (LAcc.eachCar_seated (LAcc.recallCar_seated env) ..)
  refine LC.Seated.trans ?_ (LAcc.recomputeLockout_seated ..)
  refine started.trans (LC.Seated.trans ?_ (chosen _))
  rw [LAcc.groupReport_st]
  exact .refl _

theorem LAcc.trigger_seated (env : LEnv) (name : TriggerName) (zone : Option TriggerZone) (a : LAcc) (n : Nat) :
    a.st.Seated (a.trigger env name zone n).st := by
  unfold LAcc.trigger
  split
  · exact .refl _
  · split
    · refine LAcc.modGroup_seated ?_ a
      exact fun _ => rfl
    · exact LAcc.startRecall_seated ..

theorem LAcc.recallRequest_seated (env : LEnv) (n : Nat) (a : LAcc) : a.st.Seated (a.recallRequest env n).st := by
  unfold LAcc.recallRequest
  split
  · exact .refl _
  · split
    · refine LC.Seated.trans ?_ (LAcc.retarget_seated ..)
      refine LAcc.modGroup_seated ?_ a
      exact fun _ => rfl
    · exact LAcc.startRecall_seated ..

theorem LAcc.endRecall_seated (env : LEnv) (cause : EndOrigin) (n : Nat) (a : LAcc) :
    a.st.Seated (a.endRecall env cause n).st := by
  have ended : a.st.Seated (a.modGroup n (fun g =>
      { g with active := false, triggers := ⟨false, false, []⟩, target := none })).st := by
    refine LAcc.modGroup_seated ?_ a
    exact fun _ => rfl
  unfold LAcc.endRecall
  dsimp only
  refine LC.Seated.trans ?_ (LAcc.recomputeLockout_seated ..)
  refine LC.Seated.trans ?_ (LAcc.eachCar_seated (LAcc.releaseCar_seated env) ..)
  rw [LAcc.groupReport_st]
  exact ended

theorem LAcc.clearance_seated (env : LEnv) (link : Line) (number : Nat) (a : LAcc) (n : Nat) :
    a.st.Seated (a.clearance env link number n).st := by
  unfold LAcc.clearance
  split
  case h_1 => exact .refl _
  case h_2 g _ =>
    split
    case isFalse => exact .refl _
    case isTrue =>
      have cleared (zones : List TriggerZone) :
          a.st.Seated (a.modGroup n (fun g => { g with triggers := { g.triggers with zones := zones } })).st := by
        refine LAcc.modGroup_seated ?_ a
        exact fun _ => rfl
      dsimp only
      split
      · exact (cleared _).trans (LAcc.endRecall_seated ..)
      · exact cleared _

theorem LAcc.lockedOut_seated (env : LEnv) (f : Nat) (a : LAcc) (n : Nat) : a.st.Seated (a.lockedOut env f n).st := by
  unfold LAcc.lockedOut
  split
  · exact .refl _
  · split
    · exact LAcc.retarget_seated ..
    · split
      · exact LAcc.recomputeLockout_seated ..
      · exact .refl _

theorem LAcc.lockoutCleared_seated (env : LEnv) (f : Nat) (a : LAcc) (n : Nat) :
    a.st.Seated (a.lockoutCleared env f n).st := by
  unfold LAcc.lockoutCleared
  split
  · exact .refl _
  · split
    · split
      · exact LAcc.retarget_seated ..
      · exact LAcc.recomputeLockout_seated ..
    · exact .refl _

theorem LAcc.lockoutChange_seated (env : LEnv) (f : Nat) (a : LAcc) : a.st.Seated (a.lockoutChange env f).st := by
  refine LAcc.foldl_seated (fun b n => ?_) _ a
  split
  · exact LAcc.lockedOut_seated ..
  · exact LAcc.lockoutCleared_seated ..

/-! ## Car commands: the groups and cars stay seated -/

theorem LAcc.missed_seated (env : LEnv) (car : Nat) (a : LAcc) : a.st.Seated (a.missed env car).st := by
  unfold LAcc.missed
  split
  case h_1 => exact .refl _
  case h_2 c hc =>
    split
    · exact .refl _
    · split
      · exact LAcc.defer_seated (findCar_mem hc).1
      · exact .refl _

theorem LAcc.retryExpired_seated (car : Nat) (a : LAcc) : a.st.Seated (a.retryExpired car).st := by
  unfold LAcc.retryExpired
  split
  case h_1 => exact .refl _
  case h_2 c hc =>
    split
    · exact .refl _
    · split
      · exact LAcc.putCar_seated (findCar_mem hc).1 rfl
      · exact .refl _

theorem LAcc.fireOn_seated (env : LEnv) (car : Nat) (a : LAcc) : a.st.Seated (a.fireOn env car).st := by
  unfold LAcc.fireOn
  split
  case h_1 => exact .refl _
  case h_2 c hc =>
    split
    · exact .refl _
    · split
      · exact LAcc.command_seated (findCar_mem hc).1
      · exact .refl _

theorem LAcc.fireOff_seated (env : LEnv) (car : Nat) (a : LAcc) : a.st.Seated (a.fireOff env car).st := by
  unfold LAcc.fireOff
  split
  case h_1 => exact .refl _
  case h_2 c hc =>
    split
    · exact .refl _
    · split
      · exact LAcc.command_seated (findCar_mem hc).1
      · split
        · exact LAcc.recallCar_seated ..
        · exact .refl _

/-! ## The keys of groups and cars -/

/-- The group numbers stay, and car numbers that are distinct, and in FALLBACK count up from 0, stay so. -/
structure LC.Keyed (fallback : Bool) (x y : LC) : Prop where
  groups : groupNumbers y = groupNumbers x
  cars : x.Numbered fallback → y.Numbered fallback

theorem LC.Keyed.refl (fallback : Bool) (x : LC) : x.Keyed fallback x := ⟨rfl, id⟩

theorem LC.Keyed.trans {fallback : Bool} {x y z : LC} (h : x.Keyed fallback y) (k : y.Keyed fallback z) :
    x.Keyed fallback z := ⟨k.groups.trans h.groups, k.cars ∘ h.cars⟩

theorem groupNumbers_of_seats (x : LC) : groupNumbers x = (x.groups.map Group.seat).map (·.1) := by
  simp [groupNumbers, Group.seat]

theorem LC.Seated.keyed {x y : LC} (h : x.Seated y) (fallback : Bool) : x.Keyed fallback y where
  groups := by rw [groupNumbers_of_seats, groupNumbers_of_seats, h.groups]
  cars hx := hx.of_numbers (numbers_eq_of_seats (h.cars hx.1))

theorem LC.Keyed.of_cars {fallback : Bool} {x y : LC} (hg : groupNumbers y = groupNumbers x)
    (hc : y.cars.map (·.number) = x.cars.map (·.number)) : x.Keyed fallback y := ⟨hg, fun h => h.of_numbers hc⟩

theorem LAcc.modGroup_numbers {n : Nat} {f : Group → Group} (h : ∀ g, (f g).number = g.number) (a : LAcc) :
    groupNumbers (a.modGroup n f).st = groupNumbers a.st := map_mapIf _ _ _ h _

theorem LAcc.putCar_keyed (fallback : Bool) (c : Car) (a : LAcc) : a.st.Keyed fallback (a.putCar c).st :=
  .of_cars rfl (map_mapIf_key Car.number c _)

theorem LAcc.foldl_keyed {α : Type} {fallback : Bool} {op : LAcc → α → LAcc}
    (h : ∀ (a : LAcc) x, a.st.Keyed fallback (op a x).st) (l : List α) (a : LAcc) :
    a.st.Keyed fallback (l.foldl op a).st :=
  foldl_keeps (P := fun b : LAcc => a.st.Keyed fallback b.st) (fun b x hb => hb.trans (h b x)) l a (.refl ..)

/-- R96: NODE_DOWN clears echoes and caches. -/
theorem LAcc.nodeDown_keyed (fallback : Bool) (n : Nat) (a : LAcc) : a.st.Keyed fallback (a.nodeDown n).st := by
  refine .of_cars ?_ ?_
  · refine LAcc.modGroup_numbers (f := fun g => { g with echo := none, down := true }) ?_ a
    exact fun _ => rfl
  · exact map_mapIf _ carAfterDown Car.number (fun _ => rfl) _

theorem LAcc.echo_keyed (fallback : Bool) (n : Nat) (echo : LandingMask) (clean : Bool) (a : LAcc) :
    a.st.Keyed fallback (a.echo n echo clean).st := by
  refine .of_cars ?_ (by rw [LAcc.echo_cars])
  unfold LAcc.echo
  split
  · rfl
  · rw [LAcc.tellIf_st]
    refine LAcc.modGroup_numbers ?_ a
    exact fun _ => rfl

/-- R99: a car made for an entry in FALLBACK takes the next number. -/
theorem LAcc.makeCar_keyed (env : LEnv) (n place : Nat) (a : LAcc) :
    a.st.Keyed env.fallback (a.makeCar env n place).st where
  groups := congrArg (List.map _) (LAcc.makeCar_groups env n place a)
  cars := LAcc.makeCar_numbered

/-- R76: one state entry. -/
theorem LAcc.entry_keyed (env : LEnv) (n : Nat) (a : LAcc) (e : CarEntry) :
    a.st.Keyed env.fallback (a.entry env n e).st := by
  refine (LAcc.makeCar_keyed env n e.place a).trans ?_
  obtain ⟨-, hsame⟩ | ⟨c, g, -, -, seated⟩ := LAcc.entry_cases env n a e
  · rw [hsame]
    exact .refl ..
  · exact (LAcc.putCar_keyed _ { c with cache := some (entryCache g.map e) } _).trans (seated.keyed _)

/-- R76, R78, R83: the echo, the answer and the entries of a reply. -/
theorem LAcc.reply_keyed (env : LEnv) (n : Nat) (echo : LandingMask) (clean : Bool) (c : Carried)
    (answer : Option AnswerBlock) (entries : List CarEntry) (a : LAcc) :
    a.st.Keyed env.fallback (((a.echo n echo clean).answerTo env n c answer).entries env n entries).st :=
  ((LAcc.echo_keyed _ n echo clean a).trans ((LAcc.answerTo_seated env n c answer _).keyed _)).trans
    (LAcc.foldl_keyed (LAcc.entry_keyed env n) _ _)

/-- Every operation of the Lift Coordinator keeps the group numbers and the numbering of the cars. -/
theorem LiftOp.keyed {env : LEnv} {f : LAcc → LAcc} (h : LiftOp env f) (a : LAcc) :
    a.st.Keyed env.fallback (f a).st := by
  cases h with
  | rebuildLockouts => exact (LAcc.foldl_seated (LAcc.recomputeLockout_seated env) _ a).keyed _
  | lockoutChange floor => exact (LAcc.lockoutChange_seated env floor a).keyed _
  | triggers name zone numbers => exact (LAcc.foldl_seated (LAcc.trigger_seated env name zone) _ a).keyed _
  | clearances link number => exact (LAcc.foldl_seated (LAcc.clearance_seated env link number) _ a).keyed _
  | recallRequest n => exact (LAcc.recallRequest_seated env n a).keyed _
  | endRecall cause n => exact (LAcc.endRecall_seated env cause n a).keyed _
  | regimeEnded =>
    exact (LAcc.foldl_seated (fun b n => LAcc.endRecall_seated env .resetComplete n b) _ a).keyed _
  | reply n echo clean c answer entries => exact LAcc.reply_keyed ..
  | missed car => exact (LAcc.missed_seated env car a).keyed _
  | retryExpired car => exact (LAcc.retryExpired_seated car a).keyed _
  | fireOn car => exact (LAcc.fireOn_seated env car a).keyed _
  | fireOff car => exact (LAcc.fireOff_seated env car a).keyed _
  | nodeDown n => exact LAcc.nodeDown_keyed ..
  | nodeUp n => exact (LAcc.nodeUp_seated env n a).keyed _

/-! ## The indices of the door points -/

/-- The door points keep their indices. -/
abbrev DAcc.Indexed (a b : DAcc) : Prop := b.st.doors.map (·.index) = a.st.doors.map (·.index)

theorem DAcc.foldl_indexed {α : Type} {op : DAcc → α → DAcc} (h : ∀ (a : DAcc) x, a.Indexed (op a x)) (l : List α)
    (a : DAcc) : a.Indexed (l.foldl op a) :=
  foldl_keeps (P := fun b : DAcc => a.Indexed b) (fun b x hb => (h b x).trans hb) l a rfl

theorem DAcc.modDoors_indexed {p : Door → Bool} {f : Door → Door} (h : ∀ d, (f d).index = d.index) (a : DAcc) :
    a.Indexed (a.ds (DS.modDoors p f)) := map_mapIf _ _ _ h _

theorem DAcc.testPoint_indexed (env : DEnv) (a : DAcc) (d : Door) : a.Indexed (a.testPoint env d) := by
  unfold DAcc.testPoint
  split
  · simp only [DAcc.Indexed, DAcc.tellIf_st]
    exact DAcc.put_indices ..
  · rfl

theorem DAcc.moduleReply_indexed (env : DEnv) (loop : Line) (address : Nat) (sensed : List Sensed) (answered : Bool)
    (a : DAcc) : a.Indexed (a.moduleReply env loop address sensed answered) := by
  have written : a.Indexed (a.ds (fun x => { x with doors := writeSensed loop address sensed x.doors })) :=
    map_mapIf _ (fun d : Door => { d with sensed := (sensed[d.point]?).getD d.sensed }) _ (fun _ => rfl) _
  have tested := (DAcc.foldl_indexed (DAcc.testPoint_indexed env) (pointsOf (a.ds (fun x =>
    { x with doors := writeSensed loop address sensed x.doors })).st.doors loop address) _).trans written
  unfold DAcc.moduleReply
  dsimp only
  split
  · refine Eq.trans (DAcc.modDoors_indexed ?_ _) tested
    exact fun _ => rfl
  · exact tested

theorem DAcc.dwellExpired_indexed (env : DEnv) (index : Nat) (a : DAcc) : a.Indexed (a.dwellExpired env index) := by
  unfold DAcc.dwellExpired
  split
  · rfl
  · split
    · exact DAcc.put_indices ..
    · rfl

theorem DAcc.heldOpenExpired_indexed (env : DEnv) (index : Nat) (a : DAcc) :
    a.Indexed (a.heldOpenExpired env index) := by
  unfold DAcc.heldOpenExpired
  split
  · rfl
  · split
    · split <;> exact DAcc.put_indices ..
    · rfl

theorem DAcc.endHeldOpen_indexed (env : DEnv) (a : DAcc) (d : Door) : a.Indexed (a.endHeldOpen env d) := by
  unfold DAcc.endHeldOpen
  split
  · exact DAcc.put_indices ..
  · split
    · exact DAcc.put_indices ..
    · rfl

theorem DAcc.moduleDown_indexed (loop : Line) (address : Nat) (a : DAcc) : a.Indexed (a.moduleDown loop address) := by
  refine Eq.trans (DAcc.foldl_indexed (fun b n => ?_) _ _) (DAcc.modDoors_indexed (fun d => ?_) _) <;> rfl

theorem DAcc.moduleUp_indexed (loop : Line) (address : Nat) (a : DAcc) : a.Indexed (a.moduleUp loop address) := by
  refine Eq.trans (DAcc.foldl_indexed (fun b n => ?_) _ _) ?_
  · rfl
  · rw [DAcc.syncModule_doors]
    refine DAcc.modDoors_indexed (fun d => ?_) _
    split <;> rfl

/-- Every operation of the Door Supervisor keeps the indices of the points. -/
theorem DoorOp.indexed {env : DEnv} {f : DAcc → DAcc} (h : DoorOp env f) (a : DAcc) : a.Indexed (f a) := by
  cases h with
  | moduleReply => exact DAcc.moduleReply_indexed ..
  | dwellExpired => exact DAcc.dwellExpired_indexed ..
  | heldOpenExpired => exact DAcc.heldOpenExpired_indexed ..
  | regimeEntered =>
    refine Eq.trans (DAcc.modDoors_indexed ?_ _) (DAcc.recompute_indices ..)
    exact fun _ => rfl
  | regimeEnded => exact (DAcc.recompute_indices ..).trans (DAcc.foldl_indexed (DAcc.endHeldOpen_indexed env) _ a)
  | floorAdmitted => exact DAcc.recompute_indices ..
  | generalEntered =>
    unfold DAcc.generalEntered
    dsimp only
    rw [DAcc.Indexed, foldl_dirty_st]
    exact DAcc.foldl_indexed (fun b d => DAcc.setDrive_indices env .release b d) _ _
  | manualChange => exact DAcc.recompute_indices ..
  | moduleDown => exact DAcc.moduleDown_indexed ..
  | moduleUp => exact DAcc.moduleUp_indexed ..

end Sys2Proof.Machine
end

section
/-!
The keys of the announcement table (R122): the claims, the pool and the plays leave a record its slot, its id and its creation
number, and take records out of the table but put none in.
-/

namespace Sys2Proof.Machine

/-! ## Thinner tables -/

/-- R122: what names a record: its slot, its id and its creation number. -/
def Rec.key (r : Rec) : Nat × Nat × Nat := (r.slot, r.id, r.creation)

/-- Both counters stay, and no record is there that was not; those left keep their keys and their order. -/
structure AR.Thinned (x y : AR) : Prop where
  nextId : y.nextId = x.nextId
  creation : y.creation = x.creation
  keys : (y.records.map Rec.key).Sublist (x.records.map Rec.key)

theorem AR.Thinned.refl (x : AR) : x.Thinned x := ⟨rfl, rfl, .refl _⟩

theorem AR.Thinned.trans {x y z : AR} (h : x.Thinned y) (k : y.Thinned z) : x.Thinned z :=
  ⟨k.nextId.trans h.nextId, k.creation.trans h.creation, k.keys.trans h.keys⟩

/-- A change that leaves the counters and the table. -/
theorem AR.Thinned.of_eq {x y : AR} (hn : y.nextId = x.nextId) (hc : y.creation = x.creation)
    (hr : y.records = x.records) : x.Thinned y := ⟨hn, hc, hr ▸ .refl _⟩

/-- The Announcement Router after a step has a thinner table. -/
abbrev AAcc.Thinned (a b : AAcc) : Prop := a.st.ar.Thinned b.st.ar

theorem AAcc.foldl_thinned {α : Type} {op : AAcc → α → AAcc} (h : ∀ (a : AAcc) x, a.Thinned (op a x)) (l : List α)
    (a : AAcc) : a.Thinned (l.foldl op a) :=
  foldl_keeps (P := fun b : AAcc => a.Thinned b) (fun b x hb => hb.trans (h b x)) l a (.refl _)

/-! ## Records, channels and the wait list -/

theorem AAcc.report_thinned (cause : AnnCause) (id : Nat) (a : AAcc) (floors : Option FloorSet) :
    a.Thinned (a.report cause id floors) := by
  rw [AAcc.Thinned, AAcc.report_st]
  exact .refl _

theorem AAcc.modRec_thinned {id : Nat} {f : Rec → Rec} (hf : ∀ r, (f r).key = r.key) (a : AAcc) :
    a.Thinned (a.modRec id f) := by
  refine ⟨rfl, rfl, ?_⟩
  have hkeys : (a.modRec id f).st.ar.records.map Rec.key = a.st.ar.records.map Rec.key := map_mapIf _ _ _ hf _
  rw [hkeys]

theorem AAcc.ev_thinned (f : Scratch → Scratch) (a : AAcc) : a.Thinned (a.ev f) := .of_eq rfl rfl rfl

theorem AAcc.touch_thinned (a : AAcc) : a.Thinned a.touch := .of_eq rfl rfl rfl

theorem AAcc.waitList_thinned (f : AR → List Nat) (a : AAcc) :
    a.Thinned (a.ar (fun x => { x with waitList := f x })) := .of_eq rfl rfl rfl

theorem AAcc.modChannel_thinned (env : AEnv) (n : Nat) (f : Channel → Channel) (a : AAcc) :
    a.Thinned (a.modChannel env n f) := by
  rw [AAcc.Thinned, AAcc.modChannel_st]
  exact .of_eq rfl rfl rfl

theorem AAcc.grant_thinned (env : AEnv) (id n : Nat) (a : AAcc) : a.Thinned (a.grant env id n) := by
  unfold AAcc.grant
  split
  case h_1 => exact .refl _
  case h_2 r _ =>
    have granted (b : AAcc) : b.Thinned (b.modRec id (fun r => { r with channel := some n, state := .playing })) := by
      refine AAcc.modRec_thinned ?_ b
      exact fun _ => rfl
    refine AR.Thinned.trans ?_ (AAcc.report_thinned ..)
    refine AR.Thinned.trans ?_ (AAcc.touch_thinned _)
    refine AR.Thinned.trans ?_ (AAcc.waitList_thinned (fun x => x.waitList.erase id) _)
    exact (AAcc.modChannel_thinned ..).trans (granted _)

theorem AAcc.releaseOf_thinned (env : AEnv) (id : Nat) (a : AAcc) : a.Thinned (a.releaseOf env id) := by
  unfold AAcc.releaseOf
  split
  case h_1 => exact .refl _
  case h_2 n _ =>
    have released (b : AAcc) : b.Thinned (b.modRec id (fun r => { r with channel := none })) := by
      refine AAcc.modRec_thinned ?_ b
      exact fun _ => rfl
    exact (AAcc.modChannel_thinned ..).trans (released _)

theorem AAcc.enterWaiting_thinned (id : Nat) (a : AAcc) : a.Thinned (a.enterWaiting id) := by
  have waiting : a.Thinned (a.modRec id (fun r => { r with state := .waiting })) := by
    refine AAcc.modRec_thinned ?_ a
    exact fun _ => rfl
  unfold AAcc.enterWaiting
  dsimp only
  split
  · exact waiting
  · exact waiting.trans (.of_eq rfl rfl rfl)

theorem AAcc.suspend_thinned (id : Nat) (a : AAcc) : a.Thinned (a.suspend id) := by
  have suspended : a.Thinned (a.modRec id (fun r => { r with state := .suspended })) := by
    refine AAcc.modRec_thinned ?_ a
    exact fun _ => rfl
  refine AR.Thinned.trans ?_ (AAcc.report_thinned ..)
  exact suspended.trans (AAcc.waitList_thinned (fun x => x.waitList.erase id) _)

/-! ## Claims -/

theorem AAcc.setClaims_thinned (f : Nat) (c : Claims) (a : AAcc) : a.Thinned (a.setClaims f c) := .of_eq rfl rfl rfl

theorem AAcc.gain_thinned (id f : Nat) (a : AAcc) : a.Thinned (a.gain id f) := by
  unfold AAcc.gain
  split
  case h_1 => exact .refl _
  case h_2 =>
    have owned : a.Thinned (a.modRec id (fun r => { r with owned := addBit r.owned f })) := by
      refine AAcc.modRec_thinned ?_ a
      exact fun _ => rfl
    have entered := owned.trans (AAcc.enterWaiting_thinned id _)
    dsimp only
    split
    · split
      · exact entered.trans (.of_eq rfl rfl rfl)
      · exact entered.trans (AAcc.report_thinned ..)
    · exact owned

theorem AAcc.promote_thinned (env : AEnv) (f : Nat) (a : AAcc) : a.Thinned (a.promote env f) := by
  unfold AAcc.promote
  dsimp only
  split
  · exact AAcc.setClaims_thinned ..
  · exact (AAcc.setClaims_thinned ..).trans (AAcc.gain_thinned ..)

theorem AAcc.endClaimOfEnded_thinned (env : AEnv) (id : Nat) (a : AAcc) (f : Nat) :
    a.Thinned (a.endClaimOfEnded env id f) := by
  unfold AAcc.endClaimOfEnded
  dsimp only
  split
  · exact (AAcc.setClaims_thinned ..).trans (AAcc.promote_thinned ..)
  · split
    · exact AAcc.setClaims_thinned ..
    · exact .refl _

theorem AAcc.flushDisplaced_thinned (id : Nat) (a : AAcc) : a.Thinned (a.flushDisplaced id) := by
  unfold AAcc.flushDisplaced
  split
  · exact .refl _
  · exact (AAcc.report_thinned ..).trans (.of_eq rfl rfl rfl)

theorem AAcc.withdrawn_thinned (env : AEnv) (id : Nat) (a : AAcc) : a.Thinned (a.withdrawn env id) := by
  have ended : (a.flushDisplaced id).Thinned ((a.flushDisplaced id).modRec id
      (fun r => { r with state := .ended, owned := 0 })) := by
    refine AAcc.modRec_thinned ?_ _
    exact fun _ => rfl
  have unclaimed : a.Thinned ((a.flushDisplaced id).unclaimed env id) :=
    ((AAcc.flushDisplaced_thinned id a).trans ended).trans
      (AAcc.foldl_thinned (AAcc.endClaimOfEnded_thinned env id) _ _)
  have unlisted : a.Thinned (((a.flushDisplaced id).unclaimed env id).ar
      (fun x => { x with waitList := x.waitList.erase id })) := unclaimed.trans (.of_eq rfl rfl rfl)
  exact unlisted.trans (AAcc.releaseOf_thinned ..)

/-- R122: an ended record leaves the table. -/
theorem AAcc.endRecord_thinned (env : AEnv) (cause : AnnCause) (id : Nat) (a : AAcc) :
    a.Thinned (a.endRecord env cause id) := by
  cases h : findRec a.st.ar id with
  | none =>
    have hsame : a.endRecord env cause id = a := by rw [AAcc.endRecord, h]
    rw [hsame]
    exact .refl _
  | some r =>
    rw [AAcc.Thinned, AAcc.endRecord_ar h]
    exact (AAcc.withdrawn_thinned env id a).trans ⟨rfl, rfl, List.filter_sublist.map _⟩

theorem AAcc.lose_thinned (env : AEnv) (id f : Nat) (a : AAcc) : a.Thinned (a.lose env id f) := by
  have lost : a.Thinned (a.modRec id (fun r => { r with owned := dropBit r.owned f })) := by
    refine AAcc.modRec_thinned ?_ a
    exact fun _ => rfl
  unfold AAcc.lose
  refine lost.trans ?_
  generalize a.modRec id (fun r => { r with owned := dropBit r.owned f }) = b
  dsimp only
  split
  case h_1 => exact .refl _
  case h_2 r _ =>
    split
    case isTrue => exact .refl _
    case isFalse =>
      cases r.state with
      | waiting | playing =>
        cases r.source with
        | system => exact AAcc.suspend_thinned ..
        | requested =>
          dsimp only
          split
          · exact AAcc.suspend_thinned ..
          · exact AAcc.endRecord_thinned ..
      | ending => exact AAcc.endRecord_thinned ..
      | suspended | ended => exact .refl _

theorem AAcc.dropClaim_thinned (env : AEnv) (f id : Nat) (a : AAcc) : a.Thinned (a.dropClaim env f id) := by
  have dropped : a.Thinned (a.modRec id (fun r => { r with requested := r.requested.map (dropBit · f) })) := by
    refine AAcc.modRec_thinned ?_ a
    exact fun _ => rfl
  unfold AAcc.dropClaim
  dsimp only
  have noted (g : Scratch → Scratch) := dropped.trans (AAcc.ev_thinned g _)
  split
  · exact noted _
  · split
    · exact (noted _).trans (AAcc.endRecord_thinned ..)
    · exact noted _

theorem AAcc.claimFloor_thinned (env : AEnv) (id : Nat) (a : AAcc) (f : Nat) :
    a.Thinned (AAcc.claimFloor env id a f) := by
  have claimed (c : Claims) : a.Thinned ((a.setClaims f c).gain id f) :=
    (AAcc.setClaims_thinned ..).trans (AAcc.gain_thinned ..)
  have cut {b : AAcc} (hb : a.Thinned b) (full : List Nat) :
      a.Thinned (if Config.stackCap < full.length then
        match full.getLast? with
        | some low => b.dropClaim env f low
        | none => b
      else b) := by
    split
    · split
      · exact hb.trans (AAcc.dropClaim_thinned ..)
      · exact hb
    · exact hb
  unfold AAcc.claimFloor
  split
  case h_1 => exact .refl _
  case h_2 x _ =>
    dsimp only
    split
    case h_1 => exact claimed _
    case h_2 old _ =>
      split
      case h_1 => exact claimed _
      case h_2 o _ =>
        split
        · exact cut (((AAcc.setClaims_thinned ..).trans (AAcc.lose_thinned ..)).trans (AAcc.gain_thinned ..)) _
        · exact cut (AAcc.setClaims_thinned ..) _

theorem AAcc.endClaim_thinned (env : AEnv) (f : Nat) (a : AAcc) (id : Nat) : a.Thinned (a.endClaim env f id) := by
  unfold AAcc.endClaim
  dsimp only
  split
  · exact ((AAcc.setClaims_thinned ..).trans (AAcc.lose_thinned ..)).trans (AAcc.promote_thinned ..)
  · exact AAcc.setClaims_thinned ..

theorem AAcc.testFloor_thinned (env : AEnv) (a : AAcc) (f : Nat) : a.Thinned (a.testFloor env f) :=
  (AAcc.foldl_thinned (AAcc.endClaim_thinned env f) _ a).trans
    (AAcc.foldl_thinned (fun b id => AAcc.claimFloor_thinned env id b f) _ _)

/-! ## The settlement and the plays -/

theorem AAcc.yieldChannel_thinned (env : AEnv) (id : Nat) (a : AAcc) : a.Thinned (a.yieldChannel env id) :=
  ((AAcc.releaseOf_thinned env id a).trans (AAcc.enterWaiting_thinned ..)).trans (AAcc.report_thinned ..)

theorem AAcc.serve_thinned (env : AEnv) (id : Nat) (a : AAcc) : a.Thinned (a.serve env id) := by
  unfold AAcc.serve
  split
  case h_1 => exact .refl _
  case h_2 r _ =>
    dsimp only
    split
    case h_1 =>
      split
      · split
        · exact AAcc.grant_thinned ..
        · exact .refl _
      · exact .refl _
    case h_2 =>
      split
      · exact AAcc.grant_thinned ..
      · split
        · exact .refl _
        · split
          · exact .refl _
          · split
            · exact .refl _
            · split
              · exact (AAcc.endRecord_thinned ..).trans (AAcc.grant_thinned ..)
              · exact (AAcc.yieldChannel_thinned ..).trans (AAcc.grant_thinned ..)

theorem AAcc.servePass_thinned (env : AEnv) (n : Nat) (met : List Nat) (a : AAcc) :
    a.Thinned (AAcc.servePass env n met a) := by
  induction n generalizing met a with
  | zero => exact .refl _
  | succ n ih =>
    unfold AAcc.servePass
    split
    · exact .refl _
    · exact (AAcc.serve_thinned ..).trans (ih _ _)

theorem AAcc.routeHeld_thinned (env : AEnv) (a : AAcc) : a.Thinned (a.routeHeld env) := by
  refine AAcc.foldl_thinned (fun b r => ?_) _ a
  split
  · exact AAcc.modChannel_thinned ..
  · exact .refl _

theorem AAcc.reportNoChannel_thinned (a : AAcc) : a.Thinned a.reportNoChannel := by
  unfold AAcc.reportNoChannel
  split
  · split
    · exact AAcc.report_thinned ..
    · exact .refl _
  · exact .refl _

/-- R130: a settlement of the pool. -/
theorem AAcc.settle_thinned (env : AEnv) (a : AAcc) : a.Thinned (a.settle env) := by
  have flushed : a.Thinned a.flushAllDisplaced := AAcc.foldl_thinned (fun b id => AAcc.flushDisplaced_thinned id b) _ a
  have released : a.Thinned (a.flushAllDisplaced.releaseIdle env) :=
    flushed.trans (AAcc.foldl_thinned (fun b (r : Rec) => AAcc.releaseOf_thinned env r.id b) _ _)
  have served := (released.trans (AAcc.routeHeld_thinned env _)).trans (AAcc.servePass_thinned env 64 [] _)
  exact (served.trans (AAcc.routeHeld_thinned env _)).trans (AAcc.reportNoChannel_thinned _)

/-- R133: a play counted. -/
theorem AAcc.countPlay_thinned (env : AEnv) (n : Nat) (a : AAcc) : a.Thinned (a.countPlay env n) := by
  unfold AAcc.countPlay
  split
  case h_1 => exact .refl _
  case h_2 id _ =>
    have played : a.Thinned (a.modRec id (fun r => { r with plays := min 255 (r.plays + 1) })) := by
      refine AAcc.modRec_thinned ?_ a
      exact fun _ => rfl
    have counted := played.trans (AAcc.modChannel_thinned env n (fun c => { c with playTimer := none }) _)
    dsimp only
    split
    · exact counted
    · split
      · exact counted.trans (AAcc.endRecord_thinned ..)
      · split
        · exact counted.trans (AAcc.modChannel_thinned ..)
        · exact counted.trans (AAcc.endRecord_thinned ..)

theorem AAcc.takeMark_thinned (env : AEnv) (a : AAcc) (nm : Nat × Nat) : a.Thinned (a.takeMark env nm) := by
  unfold AAcc.takeMark
  split
  case h_1 => exact .refl _
  case h_2 =>
    have seen : a.Thinned (a.see nm) := .of_eq rfl rfl rfl
    dsimp only
    split
    · exact seen.trans (AAcc.countPlay_thinned ..)
    · exact seen

theorem AAcc.overrun_thinned (env : AEnv) (n : Nat) (a : AAcc) : a.Thinned (a.overrun env n) := by
  unfold AAcc.overrun
  split
  case h_1 => exact .refl _
  case h_2 =>
    split
    · exact (AAcc.report_thinned ..).trans (AAcc.countPlay_thinned ..)
    · exact .refl _

/-! ## Responses that make no record -/

theorem AAcc.cancelTenant_thinned (env : AEnv) (id : Nat) (a : AAcc) : a.Thinned (a.cancelTenant env id) := by
  unfold AAcc.cancelTenant
  split
  case h_1 => exact .refl _
  case h_2 r _ =>
    cases r.state with
    | playing =>
      have ending : a.Thinned (a.modRec id (fun r => { r with state := .ending })) := by
        refine AAcc.modRec_thinned ?_ a
        exact fun _ => rfl
      refine AR.Thinned.trans ?_ (AAcc.report_thinned ..)
      exact ending.trans (AAcc.touch_thinned _)
    | waiting | suspended => exact AAcc.endRecord_thinned ..
    | ending | ended => exact .refl _

theorem AAcc.endLive_thinned (env : AEnv) (a : AAcc) : a.Thinned (a.endLive env) := by
  unfold AAcc.endLive
  split
  · exact AAcc.endRecord_thinned ..
  · exact .refl _

/-- R137, R138: the records of a list ended one by one. -/
theorem AAcc.endRecords_thinned (env : AEnv) (cause : AnnCause) (ids : List Nat) (a : AAcc) :
    a.Thinned (ids.foldl (fun b id => b.endRecord env cause id) a) :=
  AAcc.foldl_thinned (fun b id => AAcc.endRecord_thinned env cause id b) ids a

theorem AAcc.matrixUp_thinned (env : AEnv) (a : AAcc) : a.Thinned (a.matrixUp env) :=
  AR.Thinned.trans (y := (a.ar (fun x => { x with up := true })).st.ar) (.of_eq rfl rfl rfl)
    (AAcc.foldl_thinned (fun b n => AAcc.modChannel_thinned env n _ b) _ _)

end Sys2Proof.Machine
end

section
/-!
A record made (R122): the lowest free slot, a free id, and the creation number after all that stand. The table stays sound.
-/

namespace Sys2Proof.Machine

/-! ## A sound table -/

/-- R122: `State.RecordsSound` of the Announcement Router's record. -/
structure AR.Sound (x : AR) : Prop where
  nextId : 1 ≤ x.nextId ∧ x.nextId ≤ 255
  creation : x.creation < 4294967296
  slots : (x.records.map (·.slot)).Nodup
  ids : (x.records.map (·.id)).Nodup
  ranges : ∀ r ∈ x.records, r.slot < 16 ∧ 1 ≤ r.id ∧ r.id ≤ 255 ∧ r.creation ≤ x.creation

theorem recordsSound_iff (s : State) : s.RecordsSound ↔ s.ar.Sound :=
  ⟨fun ⟨hlow, hhigh, hcreation, hslots, hids, hranges⟩ => ⟨⟨hlow, hhigh⟩, hcreation, hslots, hids, hranges⟩,
    fun h => ⟨h.nextId.1, h.nextId.2, h.creation, h.slots, h.ids, h.ranges⟩⟩

/-- A thinner table of a sound one is sound. -/
theorem AR.Thinned.sound {x y : AR} (h : x.Thinned y) (hx : x.Sound) : y.Sound where
  nextId := h.nextId ▸ hx.nextId
  creation := h.creation ▸ hx.creation
  slots := by
    have hsub := h.keys.map (fun k : Nat × Nat × Nat => k.1)
    simp only [List.map_map] at hsub
    exact hsub.nodup hx.slots
  ids := by
    have hsub := h.keys.map (fun k : Nat × Nat × Nat => k.2.1)
    simp only [List.map_map] at hsub
    exact hsub.nodup hx.ids
  ranges r hr := by
    obtain ⟨q, hq, hkey⟩ := List.mem_map.mp (h.keys.subset (List.mem_map_of_mem hr))
    simp only [Rec.key, Prod.mk.injEq] at hkey
    obtain ⟨hslot, hid, hcreation⟩ := hkey
    rw [h.creation, ← hslot, ← hid, ← hcreation]
    exact hx.ranges q hq

/-- R122: the 16 slots bound the table. -/
theorem AR.Sound.length_le {x : AR} (h : x.Sound) : x.records.length ≤ 16 := by
  have hsub : x.records.map (·.slot) ⊆ List.range 16 := by
    intro n hn
    obtain ⟨r, hr, rfl⟩ := List.mem_map.mp hn
    exact List.mem_range.mpr (h.ranges r hr).1
  simpa using (h.slots.subperm hsub).length_le

/-! ## The next id -/

/-- R122: the id after `id`: 255 is followed by 1. -/
def nextIdAfter (id : Nat) : Nat := if 255 ≤ id then 1 else id + 1

theorem nextIdAfter_range {id : Nat} (h : 1 ≤ id ∧ id ≤ 255) : 1 ≤ nextIdAfter id ∧ nextIdAfter id ≤ 255 := by
  unfold nextIdAfter
  split <;> omega

theorem freshId_range (x : AR) (fuel : Nat) {id : Nat} (h : 1 ≤ id ∧ id ≤ 255) :
    1 ≤ freshId x fuel id ∧ freshId x fuel id ≤ 255 := by
  induction fuel generalizing id with
  | zero => exact h
  | succ fuel ih =>
    unfold freshId
    split
    · exact ih (nextIdAfter_range h)
    · exact h

/-- R122: an id that the search settles on though it is taken has had every id before it taken too. -/
theorem freshId_taken {x : AR} {fuel id : Nat} (h : 1 ≤ id ∧ id ≤ 255)
    (htaken : (findRec x (freshId x fuel id)).isSome = true) :
    ∀ k < fuel, (findRec x ((id - 1 + k) % 255 + 1)).isSome = true := by
  induction fuel generalizing id with
  | zero => exact fun k hk => absurd hk (Nat.not_lt_zero k)
  | succ fuel ih =>
    unfold freshId at htaken
    split at htaken
    case isFalse hfree => exact absurd htaken hfree
    case isTrue hid =>
      intro k hk
      cases k with
      | zero =>
        have hself : (id - 1 + 0) % 255 + 1 = id := by omega
        rwa [hself]
      | succ k =>
        have hstep := ih (nextIdAfter_range h) htaken k (Nat.lt_of_succ_lt_succ hk)
        have hsame : (nextIdAfter id - 1 + k) % 255 = (id - 1 + (k + 1)) % 255 := by
          unfold nextIdAfter
          split <;> omega
        rwa [hsame] at hstep

/-- R122: with 16 slots an id is free. -/
theorem freshId_free {x : AR} (h : x.Sound) : findRec x (freshId x 256 x.nextId) = none := by
  cases hfound : findRec x (freshId x 256 x.nextId) with
  | none => rfl
  | some r =>
    exfalso
    have htaken := freshId_taken h.nextId (by rw [hfound]; rfl)
    have hall : List.range' 1 255 ⊆ x.records.map (·.id) := by
      intro n hn
      obtain ⟨hlow, hhigh⟩ := List.mem_range'_1.mp hn
      obtain ⟨hnlow, hnhigh⟩ := h.nextId
      have hk := htaken ((n + 255 - x.nextId) % 255) (by omega)
      have hn' : (x.nextId - 1 + (n + 255 - x.nextId) % 255) % 255 + 1 = n := by omega
      rw [hn'] at hk
      obtain ⟨q, hq⟩ := Option.isSome_iff_exists.mp hk
      exact List.mem_map.mpr ⟨q, List.mem_of_find?_eq_some hq, by simpa using List.find?_some hq⟩
    have hlength := (List.Nodup.subperm List.nodup_range' hall).length_le
    have hcap := h.length_le
    simp only [List.length_range', List.length_map] at hlength
    omega

/-! ## The free slot and the creation number -/

theorem leastOf_mem {l : List Nat} {n : Nat} (h : leastOf l = some n) : n ∈ l := by
  induction l generalizing n with
  | nil => cases h
  | cons m l ih =>
    unfold leastOf at h
    split at h
    case h_1 =>
      obtain rfl := Option.some.inj h
      exact List.mem_cons_self
    case h_2 k hk =>
      obtain rfl := Option.some.inj h
      obtain hmin | hmin := min_choice m k <;> rw [hmin]
      · exact List.mem_cons_self
      · exact List.mem_cons_of_mem m (ih hk)

theorem freeSlot_spec {x : AR} {slot : Nat} (h : freeSlot x = some slot) :
    slot < 16 ∧ slot ∉ x.records.map (·.slot) := by
  obtain ⟨hrange, hfree⟩ := List.mem_filter.mp (leastOf_mem h)
  refine ⟨List.mem_range.mp hrange, fun hmem => ?_⟩
  obtain ⟨r, hr, hslot⟩ := List.mem_map.mp hmem
  simp only [Bool.not_eq_true', List.any_eq_false, decide_eq_true_eq] at hfree
  exact hfree r hr hslot

theorem positionOf_le {x n : Nat} {l : List Nat} (h : positionOf x l = some n) : n ≤ l.length := by
  induction l generalizing n with
  | nil => cases h
  | cons y l ih =>
    unfold positionOf at h
    split at h
    · obtain rfl := Option.some.inj h
      simp
    · obtain ⟨m, hm, rfl⟩ := Option.map_eq_some_iff.mp h
      exact Nat.succ_le_succ (ih hm)

theorem positionOf_mem {x : Nat} {l : List Nat} (h : x ∈ l) : ∃ n, positionOf x l = some n := by
  induction l with
  | nil => cases h
  | cons y l ih =>
    unfold positionOf
    split
    case isTrue => exact ⟨1, rfl⟩
    case isFalse hne =>
      obtain ⟨n, hn⟩ := ih ((List.mem_cons.mp h).resolve_left hne)
      exact ⟨n + 1, by rw [hn]; rfl⟩

/-- R122: a renumbering gives creation numbers up to the number of records. -/
theorem renumber_sound {x : AR} (h : x.Sound) : (renumber x).Sound where
  nextId := h.nextId
  creation := lt_of_le_of_lt h.length_le (by decide)
  slots := by simpa [renumber, Function.comp_def] using h.slots
  ids := by simpa [renumber, Function.comp_def] using h.ids
  ranges r hr := by
    obtain ⟨q, hq, rfl⟩ := List.mem_map.mp hr
    obtain ⟨hslot, hlow, hhigh, -⟩ := h.ranges q hq
    have hmem : q.id ∈ (sortBy (fun r => r.creation) x.records).map (·.id) :=
      List.mem_map_of_mem ((sortBy_perm _ _).mem_iff.mpr hq)
    obtain ⟨n, hn⟩ := positionOf_mem hmem
    have hle := positionOf_le hn
    rw [List.length_map, (sortBy_perm _ _).length_eq] at hle
    exact ⟨hslot, hlow, hhigh, by simpa [hn, renumber] using hle⟩

/-- R122: the counter raised stays below 2^32. -/
theorem nextCreation_sound {x : AR} (h : x.Sound) : (nextCreation x).Sound := by
  have raised {y : AR} (hy : y.Sound) (hlt : y.creation + 1 < 4294967296) :
      AR.Sound { y with creation := y.creation + 1 } :=
    { nextId := hy.nextId
      creation := hlt
      slots := hy.slots
      ids := hy.ids
      ranges := fun r hr =>
        have ⟨hslot, hlow, hhigh, hcreation⟩ := hy.ranges r hr
        ⟨hslot, hlow, hhigh, Nat.le_succ_of_le hcreation⟩ }
  unfold nextCreation
  dsimp only
  split
  case isTrue hlt => exact raised h hlt
  case isFalse => exact raised (renumber_sound h) (lt_of_le_of_lt (Nat.succ_le_succ h.length_le) (by decide))

theorem nextCreation_keys (x : AR) : (nextCreation x).records.map (fun r => (r.slot, r.id)) =
    x.records.map (fun r => (r.slot, r.id)) := by
  unfold nextCreation
  dsimp only
  split
  · rfl
  · simp [renumber, Function.comp_def]

/-! ## A record made -/

/-- R122: a record joins a sound table in a free slot, with a free id and the counter's creation number. -/
theorem AR.Sound.insert {x : AR} {r : Rec} (h : x.Sound) (hslot : r.slot < 16 ∧ r.slot ∉ x.records.map (·.slot))
    (hid : 1 ≤ r.id ∧ r.id ≤ 255) (hfree : r.id ∉ x.records.map (·.id)) (hcreation : r.creation = x.creation) :
    AR.Sound { x with records := insertBy (fun r => r.slot) r x.records, nextId := nextIdAfter r.id } := by
  have hperm := insertBy_perm (fun r : Rec => r.slot) r x.records
  exact
    { nextId := nextIdAfter_range hid
      creation := h.creation
      slots := (hperm.map _).nodup_iff.mpr (List.nodup_cons.mpr ⟨hslot.2, h.slots⟩)
      ids := (hperm.map _).nodup_iff.mpr (List.nodup_cons.mpr ⟨hfree, h.ids⟩)
      ranges := fun q hq => by
        obtain rfl | hq := List.mem_cons.mp (hperm.mem_iff.mp hq)
        · exact ⟨hslot.1, hid.1, hid.2, hcreation.le⟩
        · exact h.ranges q hq }

theorem findRec_none {x : AR} {id : Nat} (h : findRec x id = none) : id ∉ x.records.map (·.id) := by
  intro hmem
  obtain ⟨r, hr, hid⟩ := List.mem_map.mp hmem
  exact List.find?_eq_none.mp h r hr (by simpa using hid)

/-- R122: making a record keeps the table sound. -/
theorem AAcc.make_sound {env : AEnv} {cls : RecClass} {source : RecSource} {message : Option Nat} {repeats : Nat}
    {requested : Option FloorSet} {a : AAcc} (h : a.st.ar.Sound) :
    (a.make env cls source message repeats requested).st.ar.Sound := by
  unfold AAcc.make
  split
  case h_1 => exact h
  case h_2 slot hslot =>
    obtain ⟨hlt, hfreeSlot⟩ := freeSlot_spec hslot
    have hfreeId := findRec_none (freshId_free h)
    have hslots : (nextCreation a.st.ar).records.map (·.slot) = a.st.ar.records.map (·.slot) := by
      simpa [Function.comp_def] using congrArg (List.map Prod.fst) (nextCreation_keys a.st.ar)
    have hids : (nextCreation a.st.ar).records.map (·.id) = a.st.ar.records.map (·.id) := by
      simpa [Function.comp_def] using congrArg (List.map Prod.snd) (nextCreation_keys a.st.ar)
    have made := (nextCreation_sound h).insert
      (r := ⟨slot, freshId a.st.ar 256 a.st.ar.nextId, (nextCreation a.st.ar).creation, cls, source, message, repeats, 0,
        requested, 0, none, .suspended⟩)
      ⟨hlt, hslots ▸ hfreeSlot⟩ (freshId_range _ _ h.nextId) (hids ▸ hfreeId) rfl
    refine (AAcc.foldl_thinned (AAcc.claimFloor_thinned env _) _ _).sound ?_
    exact (AAcc.report_thinned ..).sound made

/-! ## The operations -/

theorem AAcc.regimeEntered_sound {env : AEnv} {a : AAcc} (h : a.st.ar.Sound) : (a.regimeEntered env).st.ar.Sound := by
  have ended (l k : List Nat) :=
    ((AAcc.endRecords_thinned env .cancelled l a).trans (AAcc.endRecords_thinned env .cancelled k _)).sound h
  unfold AAcc.regimeEntered
  dsimp only
  split
  · exact AAcc.make_sound (AAcc.make_sound (ended ..))
  · exact AAcc.make_sound (ended ..)

theorem AAcc.regimeEnded_sound {env : AEnv} {a : AAcc} (h : a.st.ar.Sound) : (a.regimeEnded env).st.ar.Sound := by
  have ended (l k : List Nat) :=
    ((AAcc.endRecords_thinned env .regimeEnded l a).trans (AAcc.endRecords_thinned env .regimeEnded k _)).sound h
  unfold AAcc.regimeEnded
  dsimp only
  split
  · exact AAcc.make_sound (ended ..)
  · exact ended ..

theorem AAcc.beginLive_sound {env : AEnv} {floors : FloorSet} {a : AAcc} (h : a.st.ar.Sound) :
    (a.beginLive env floors).st.ar.Sound := by
  refine AAcc.make_sound ?_
  split
  · exact (AAcc.endRecord_thinned ..).sound h
  · exact h

/-- Every operation of the Announcement Router keeps a sound table sound. -/
theorem AnnOp.sound {env : AEnv} {f : AAcc → AAcc} (h : AnnOp env f) {a : AAcc} (ha : a.st.ar.Sound) :
    (f a).st.ar.Sound := by
  cases h with
  | floorAdmitted floor => exact (AAcc.testFloor_thinned env a floor).sound ha
  | regimeEntered => exact AAcc.regimeEntered_sound ha
  | regimeEnded => exact AAcc.regimeEnded_sound ha
  | matrixDown => exact AR.Thinned.sound (x := a.st.ar) (.of_eq rfl rfl rfl) ha
  | matrixUp => exact (AAcc.matrixUp_thinned env a).sound ha
  | takeMarks marks => exact (AAcc.foldl_thinned (AAcc.takeMark_thinned env) _ a).sound ha
  | overrun channel => exact (AAcc.overrun_thinned env channel a).sound ha
  | makeTenant => exact AAcc.make_sound ha
  | cancelTenant id => exact (AAcc.cancelTenant_thinned env id a).sound ha
  | beginLive => exact AAcc.beginLive_sound ha
  | endLive => exact (AAcc.endLive_thinned env a).sound ha
  | settle => exact (AAcc.settle_thinned env a).sound ha

end Sys2Proof.Machine
end

section
/-!
What every step keeps of the tables' keys and of the images' shape (R99, R122, R178): each part of an event keeps it, by what
the operations of a block do to its keys, and by the tables from which the power-on state is built.
-/

namespace Sys2Proof.Machine

/-! ## The keys of tables built from an image -/

/-- The records of an image keep their indices, so that the records in use have distinct numbers. -/
theorem indexedFrom_indices {α : Type} (l : List α) (n : Nat) : (indexedFrom n l).map (·.1) = List.range' n l.length := by
  induction l generalizing n with
  | nil => rfl
  | cons x l ih => rw [indexedFrom, List.map_cons, ih, List.length_cons, List.range'_succ]

theorem nodup_keys_indexedFrom {α β : Type} {p : Nat × α → Bool} {mk : Nat × α → β} {key : β → Nat}
    (hkey : ∀ e, key (mk e) = e.1) (l : List α) : ((((indexedFrom 0 l).filter p).map mk).map key).Nodup := by
  have heq : (((indexedFrom 0 l).filter p).map mk).map key = ((indexedFrom 0 l).filter p).map (·.1) := by
    simp [Function.comp_def, hkey]
  rw [heq]
  refine (List.filter_sublist.map _).nodup ?_
  rw [indexedFrom_indices]
  exact List.nodup_range'

theorem bootLC_groups_nodup (tb : Tables) : ((bootLC tb).groups.map (·.number)).Nodup := by
  cases tb with
  | none =>
    have heq : (bootLC none).groups.map (·.number) = List.range 4 := List.map_map.trans (List.map_id _)
    exact heq ▸ List.nodup_range
  | some i => exact nodup_keys_indexedFrom (key := Group.number) (fun _ => rfl) i.groups

theorem bootDoors_nodup (tb : Tables) : ((bootDoors tb).map (·.index)).Nodup := by
  cases tb with
  | none => exact bootDoors_fallback_indices ▸ List.nodup_range
  | some i => exact nodup_keys_indexedFrom (key := Door.index) (fun _ => rfl) i.doors

/-- R99, R100: no car is reported yet in FALLBACK; on an image the cars have their indices. -/
theorem bootLC_numbered (tb : Tables) : (bootLC tb).Numbered tb.isNone := by
  cases tb with
  | none => exact ⟨List.nodup_nil, fun _ c hc => absurd hc List.not_mem_nil⟩
  | some i => exact ⟨nodup_keys_indexedFrom (key := Car.number) (fun _ => rfl) i.cars, fun h => nomatch h⟩

/-- R146: no record stands in a table just built. -/
theorem bootAR_sound (tb : Tables) : (bootAR tb).Sound where
  nextId := ⟨Nat.le_refl 1, show 1 ≤ 255 by decide⟩
  creation := show 0 < 4294967296 by decide
  slots := List.nodup_nil
  ids := List.nodup_nil
  ranges r hr := absurd hr List.not_mem_nil

/-! ## The shape of an image -/

theorem length_sized {α : Type} (n : Nat) (blank : α) (l : List α) : (sized n blank l).length = n := by
  simp [sized]

theorem shapeImage_shaped (i : Image) : ImageShaped (shapeImage i) where
  floors := (List.length_map _).trans (length_sized ..)
  stairs := length_sized ..
  zones := length_sized ..
  nodes := length_sized ..
  groups := (List.length_map _).trans (length_sized ..)
  cars := length_sized ..
  doors := length_sized ..
  messages := length_sized ..
  labels r hr := by
    obtain ⟨x, -, rfl⟩ := List.mem_map.mp hr
    exact length_sized ..
  maps r hr := by
    obtain ⟨x, -, rfl⟩ := List.mem_map.mp hr
    exact length_sized ..

theorem length_labelOfNumber (n : Nat) : (labelOfNumber n).length = 4 := by
  unfold labelOfNumber
  dsimp only
  split <;> rfl

/-- R178, R180: the default image has the record counts of the rule. -/
theorem imageShaped_default : ImageShaped defaultImage where
  floors := (List.length_map _).trans List.length_range
  stairs := List.length_replicate
  zones := List.length_replicate
  nodes := List.length_replicate
  groups := List.length_replicate
  cars := List.length_replicate
  doors := List.length_replicate
  messages := List.length_replicate
  labels r hr := by
    obtain ⟨n, -, rfl⟩ := List.mem_map.mp hr
    exact length_labelOfNumber n
  maps r hr := by
    rw [List.eq_of_mem_replicate hr]
    exact List.length_replicate

theorem mem_set_property {α : Type} {p : α → Prop} {l : List α} {x : α} (h : ∀ r ∈ l, p r) (hx : p x) (n : Nat) :
    ∀ r ∈ l.set n x, p r := fun r hr => (List.mem_or_eq_of_mem_set hr).elim (h r) (· ▸ hx)

/-- R181: one record replaced by a record of its table's shape. -/
theorem putRecord_shaped (index : Nat) {r : ConfigRecord} (hr : r.Shaped) {i : Image} (h : ImageShaped i) :
    ImageShaped (putRecord index r i) := by
  obtain ⟨floors, stairs, zones, nodes, groups, cars, doors, messages, labels, maps⟩ := h
  cases r with
  | general | regimeMsgs => exact ⟨floors, stairs, zones, nodes, groups, cars, doors, messages, labels, maps⟩
  | floor =>
    exact ⟨List.length_set.trans floors, stairs, zones, nodes, groups, cars, doors, messages,
      mem_set_property labels hr index, maps⟩
  | stair => exact ⟨floors, List.length_set.trans stairs, zones, nodes, groups, cars, doors, messages, labels, maps⟩
  | zone => exact ⟨floors, stairs, List.length_set.trans zones, nodes, groups, cars, doors, messages, labels, maps⟩
  | node => exact ⟨floors, stairs, zones, List.length_set.trans nodes, groups, cars, doors, messages, labels, maps⟩
  | group =>
    exact ⟨floors, stairs, zones, nodes, List.length_set.trans groups, cars, doors, messages, labels,
      mem_set_property maps hr index⟩
  | car => exact ⟨floors, stairs, zones, nodes, groups, List.length_set.trans cars, doors, messages, labels, maps⟩
  | door => exact ⟨floors, stairs, zones, nodes, groups, cars, List.length_set.trans doors, messages, labels, maps⟩
  | message => exact ⟨floors, stairs, zones, nodes, groups, cars, doors, List.length_set.trans messages, labels, maps⟩

/-- R178: what the store holds, and the image staged, have the shape of an image. -/
structure CS.Shaped (c : CS) : Prop where
  store : ∀ i k, c.store = .holds i k → ImageShaped i
  staged : ∀ i, c.staged = some i → ImageShaped i

theorem imagesShaped_iff (s : State) : s.ImagesShaped ↔ s.cs.Shaped := ⟨fun ⟨h, k⟩ => ⟨h, k⟩, fun ⟨h, k⟩ => ⟨h, k⟩⟩

theorem openedImage_shaped {c : CS} (h : c.Shaped) : ImageShaped (openedImage c) := by
  unfold openedImage storedImage
  split
  · exact imageShaped_default
  · split
    next i k hstore => exact h.store i k hstore
    next k _ => exact shapeImage_shaped _

theorem StoreMove.shaped {c d : CS} (h : StoreMove c d) (hc : c.Shaped) : d.Shaped := by
  obtain ⟨store, staged⟩ := hc
  cases h with
  | closed => exact ⟨store, fun _ hi => nomatch hi⟩
  | opened => exact ⟨store, fun _ hi => Option.some.inj hi ▸ openedImage_shaped ⟨store, staged⟩⟩
  | written index hi hr => exact ⟨store, fun _ hj => Option.some.inj hj ▸ putRecord_shaped index hr (staged _ hi)⟩
  | committed hi => exact ⟨store, fun _ hj => Option.some.inj hj ▸ clampImage_shaped (staged _ hi)⟩
  | stored check hi => exact ⟨fun j k hj => (Store.holds.inj hj).1 ▸ staged _ hi, staged⟩
  | torn k => exact ⟨fun _ _ hj => (nomatch hj), staged⟩

theorem StoreMove.fallback {c d : CS} (h : StoreMove c d) : d.fallback = c.fallback := by
  cases h <;> rfl

/-! ## One second -/

theorem idleSecond_groups (s : State) : (idleSecond s).lc.groups = s.lc.groups := by
  unfold idleSecond
  split <;> rfl

theorem idleSecond_carNumbers (s : State) : (idleSecond s).lc.cars.map (·.number) = s.lc.cars.map (·.number) := by
  unfold idleSecond
  split
  · exact List.map_map
  · rfl

theorem idleSecond_doorIndices (s : State) : (idleSecond s).ds.doors.map (·.index) = s.ds.doors.map (·.index) := by
  unfold idleSecond
  split
  · exact List.map_map
  · rfl

theorem idleSecond_thinned (s : State) : s.ar.Thinned (idleSecond s).ar := by
  unfold idleSecond
  split <;> exact .of_eq rfl rfl rfl

theorem idleSecond_cs (s : State) : (idleSecond s).cs = s.cs := by
  unfold idleSecond
  split <;> rfl

/-! ## The parts of an event -/

theorem Part.keysDistinct {s t : State} (h : Part s t) (hs : s.KeysDistinct) : t.KeysDistinct := by
  obtain ⟨groups, doors⟩ := hs
  cases h with
  | elsewhere h => exact ⟨h.lc ▸ groups, h.ds ▸ doors⟩
  | lift h =>
    refine ⟨?_, (liftLc_ds _ s).symm ▸ doors⟩
    rw [liftLc_lc]
    have kept := (h.keyed ⟨s.lc, []⟩).groups
    unfold groupNumbers at kept
    exact kept.symm ▸ groups
  | doors h =>
    refine ⟨(liftDs_lc _ s).symm ▸ groups, ?_⟩
    rw [liftDs_ds]
    exact (h.indexed _).symm ▸ doors
  | announce => exact ⟨(liftAr_lc _ s).symm ▸ groups, (liftAr_ds _ s).symm ▸ doors⟩
  | store => exact ⟨groups, doors⟩
  | booted h => exact ⟨h.lc ▸ bootLC_groups_nodup _, h.ds ▸ bootDoors_nodup _⟩
  | second => exact ⟨(idleSecond_groups s).symm ▸ groups, (idleSecond_doorIndices s).symm ▸ doors⟩

theorem Part.numbered {s t : State} (h : Part s t) (hs : s.lc.Numbered s.cs.fallback) : t.lc.Numbered t.cs.fallback := by
  cases h with
  | elsewhere h => exact h.lc ▸ h.cs ▸ hs
  | lift h =>
    rw [liftLc_lc, liftLc_cs]
    exact (h.keyed _).cars hs
  | doors => exact (liftDs_lc _ s).symm ▸ (liftDs_cs _ s).symm ▸ hs
  | announce => exact (liftAr_lc _ s).symm ▸ (liftAr_cs _ s).symm ▸ hs
  | store h => exact h.fallback.symm ▸ hs
  | booted h hcs =>
    rw [h.lc, hcs]
    exact bootLC_numbered _
  | second =>
    rw [idleSecond_cs]
    exact hs.of_numbers (idleSecond_carNumbers s)

theorem Part.recordsSound {s t : State} (h : Part s t) (hs : s.ar.Sound) : t.ar.Sound := by
  cases h with
  | elsewhere h => exact h.ar ▸ hs
  | lift => exact (liftLc_ar _ s).symm ▸ hs
  | doors => exact (liftDs_ar _ s).symm ▸ hs
  | announce h =>
    rw [liftAr_ar]
    exact h.sound (a := ⟨⟨s.ar, s.ev⟩, []⟩) hs
  | store => exact hs
  | booted h => exact h.ar ▸ bootAR_sound _
  | second => exact (idleSecond_thinned s).sound hs

theorem Part.imagesShaped {s t : State} (h : Part s t) (hs : s.cs.Shaped) : t.cs.Shaped := by
  cases h with
  | elsewhere h => exact h.cs ▸ hs
  | lift => exact (liftLc_cs _ s).symm ▸ hs
  | doors => exact (liftDs_cs _ s).symm ▸ hs
  | announce => exact (liftAr_cs _ s).symm ▸ hs
  | store h => exact h.shaped hs
  | booted _ hcs =>
    rw [hcs]
    exact ⟨hs.store, fun _ hi => nomatch hi⟩
  | second => exact (idleSecond_cs s).symm ▸ hs

/-- Settles O12: a step is a chain of parts (`step_parts`), and every part keeps each of the four properties. -/
theorem tableKeysKept : Obligations.TableKeysKept := by
  refine ⟨fun s t hs ht => ?_, fun s t hs ht => ?_, fun s t hs ht => ?_, fun s t hs ht => ?_⟩
  · exact (step_parts ht).keeps (fun _ _ part => part.keysDistinct) hs
  · exact (step_parts ht).keeps (P := fun u => u.lc.Numbered u.cs.fallback) (fun _ _ part => part.numbered) hs
  · rw [recordsSound_iff] at hs ⊢
    exact (step_parts ht).keeps (P := fun u => u.ar.Sound) (fun _ _ part => part.recordsSound) hs
  · rw [imagesShaped_iff] at hs ⊢
    exact (step_parts ht).keeps (P := fun u => u.cs.Shaped) (fun _ _ part => part.imagesShaped) hs

end Sys2Proof.Machine
end

section
/-!
A request or a retry that changes the LC alone (R84, R90, R92, R95): what stays in the rest of the part, what a car command
leaves, and the groups besides the one that a recall is about.
-/

namespace Sys2Proof.Machine

/-! ## A change of the LC in an event -/

/-- Every record but the LC's, the SP's and the field lines' as it was; the trouble set may have moved. -/
structure LiftOnly (s t : State) : Prop where
  regime : SameRegime s t
  ze : t.ze = s.ze
  es : t.es = s.es
  ds : t.ds = s.ds
  ar : t.ar = s.ar
  cs : t.cs = s.cs

theorem LiftOnly.trans {a b c : State} (h : LiftOnly a b) (k : LiftOnly b c) : LiftOnly a c :=
  ⟨h.regime.trans k.regime, k.ze.trans h.ze, k.es.trans h.es, k.ds.trans h.ds, k.ar.trans h.ar, k.cs.trans h.cs⟩

theorem liftLc_liftOnly (f : LAcc → LAcc) (s : State) : LiftOnly s (s.liftLc f) where
  regime := by constructor <;> simp
  ze := liftLc_ze f s
  es := liftLc_es f s
  ds := liftLc_ds f s
  ar := liftLc_ar f s
  cs := liftLc_cs f s

theorem clear_liftOnly (s : State) : LiftOnly s { s with ev := Scratch.clear } :=
  ⟨⟨rfl, rfl, rfl, rfl, rfl, rfl, rfl, rfl⟩, rfl, rfl, rfl, rfl, rfl⟩

theorem asked_liftOnly (s : State) : LiftOnly s (asked s) :=
  have kept := asked_sameBlocks s
  ⟨asked_sameRegime s, kept.ze, kept.es, kept.ds, kept.ar, kept.cs⟩

/-- The end of an event that touches no announcement. -/
theorem EndsIn.liftOnly {s t : State} (h : EndsIn s t) (hev : s.ev.arTouched = false) : LiftOnly s t :=
  ⟨h.sameRegime, h.ze, h.es, h.ds, (h.flc_ar hev).2, h.cs⟩

/-- A request that its owner answers with a change of the LC. -/
theorem Requests.lifted {i : Instr} {ρ : Type} {kind tag : Byte} {q : ρ} {handle : ρ → State → Answer × State}
    (h : Requests i kind tag q handle) {s : State} (hs : s.answers) {f : LAcc → LAcc} {a : Answer}
    (ha : handle q (asked s) = (a, (asked s).liftLc f)) :
    ∃ t, exec i s = .next t ∧ newestReply t = some (a.reply kind tag) ∧ t.lc = (f ⟨s.lc, []⟩).st ∧ LiftOnly s t := by
  obtain ⟨t, ht, hreply, hend⟩ := h.answered hs
  rw [ha] at hreply hend
  refine ⟨t, ht, hreply, ?_, ((asked_liftOnly s).trans (liftLc_liftOnly f _)).trans (hend.liftOnly ?_)⟩
  · rw [hend.lc, liftLc_lc, (asked_sameBlocks s).lc]
  · rw [liftLc_ev, asked_ev]
    rfl

/-! ## One car put in its place -/

theorem findGroup_congr {x y : LC} (h : y.groups = x.groups) (n : Nat) : findGroup y n = findGroup x n := by
  rw [findGroup, findGroup, h]

/-- A car put in its place leaves the others. -/
theorem LAcc.findCar_putCar_ne {c : Car} {m : Nat} (h : m ≠ c.number) (a : LAcc) :
    findCar (a.putCar c).st m = findCar a.st m := by
  have hkey (e : Car) : decide ((if e.number = c.number then c else e).number = m) = decide (e.number = m) := by
    by_cases he : e.number = c.number
    · rw [if_pos he, he]
    · rw [if_neg he]
  have hstays (e : Car) (he : e.number = m) : (if e.number = c.number then c else e) = e :=
    if_neg (he ▸ h)
  rw [findCar, findCar, LAcc.putCar_cars, mapIf, List.find?_map]
  simp only [Function.comp_def, decide_eq_true_eq, hkey]
  cases hfound : a.st.cars.find? (fun e => e.number = m) with
  | none => rfl
  | some e => exact congrArg some (hstays e (by simpa using List.find?_some hfound))

/-! ## One group changed -/

/-- Tables that agree in every group but `n`, in what `p` reads of group `n`, and in the number of cars. -/
structure LC.Alters {α : Type} (n : Nat) (p : Group → α) (x y : LC) : Prop where
  others : ∀ m, m ≠ n → findGroup y m = findGroup x m
  own : (findGroup y n).map p = (findGroup x n).map p
  cars : y.cars.length = x.cars.length

section Alters

variable {α : Type} {n : Nat} {p : Group → α}

theorem LC.Alters.refl (x : LC) : x.Alters n p x := ⟨fun _ _ => rfl, rfl, rfl⟩

theorem LC.Alters.trans {x y z : LC} (h : x.Alters n p y) (k : y.Alters n p z) : x.Alters n p z :=
  ⟨fun m hm => (k.others m hm).trans (h.others m hm), k.own.trans h.own, k.cars.trans h.cars⟩

/-- A change that is in the cars alone. -/
theorem LC.Alters.of_groups {x y : LC} (hg : y.groups = x.groups) (hc : y.cars.length = x.cars.length) :
    x.Alters n p y := ⟨fun m _ => findGroup_congr hg m, congrArg _ (findGroup_congr hg n), hc⟩

theorem LAcc.findGroup_modGroup_ne {f : Group → Group} (hf : ∀ g, (f g).number = g.number) {m : Nat} (hm : m ≠ n)
    (a : LAcc) : findGroup (a.modGroup n f).st m = findGroup a.st m := by
  have hkey (g : Group) : decide ((if g.number = n then f g else g).number = m) = decide (g.number = m) := by
    by_cases hg : g.number = n
    · rw [if_pos hg, hf]
    · rw [if_neg hg]
  change (a.st.groups.map _).find? _ = a.st.groups.find? _
  rw [List.find?_map]
  simp only [Function.comp_def, decide_eq_true_eq, hkey]
  cases hfound : a.st.groups.find? (fun g => g.number = m) with
  | none => rfl
  | some g =>
    have hg : g.number = m := by simpa using List.find?_some hfound
    exact congrArg some (if_neg (hg ▸ hm))

theorem LAcc.modGroup_alters {f : Group → Group} (hf : ∀ g, (f g).number = g.number) (hp : ∀ g, p (f g) = p g)
    (a : LAcc) : a.st.Alters n p (a.modGroup n f).st where
  others _ hm := LAcc.findGroup_modGroup_ne hf hm a
  own := by
    cases hg : findGroup a.st n with
    | none =>
      have hnone : ∀ g ∈ a.st.groups, ¬ g.number = n := by simpa [findGroup] using hg
      have hsame : (a.modGroup n f).st.groups = a.st.groups :=
        (List.map_congr_left fun g h => if_neg (by simpa using hnone g h)).trans (List.map_id _)
      rw [findGroup_congr hsame, hg]
    | some g => rw [LAcc.findGroup_modGroup hf hg, Option.map_some, Option.map_some, hp]
  cars := rfl

theorem LAcc.groupReport_alters (env : LEnv) (cause : GroupCause) (m : Nat) (a : LAcc) :
    a.st.Alters n p (a.groupReport env cause m).st := by
  rw [LAcc.groupReport_st]
  exact .refl _

theorem LAcc.recomputeLockout_alters (hp : ∀ g set mask, p { g with lockout := set, mask := mask } = p g) (env : LEnv)
    (a : LAcc) : a.st.Alters n p (a.recomputeLockout env n).st := by
  unfold LAcc.recomputeLockout
  split
  · exact .refl _
  · rw [LAcc.tellIf_st]
    refine LAcc.modGroup_alters ?_ ?_ a
    · exact fun _ => rfl
    · exact fun g => hp g _ _

theorem LAcc.command_alters (env : LEnv) (g : Group) (service : Service) (cmd : Command) (c : Car) (a : LAcc) :
    a.st.Alters n p (a.command env g service cmd c).st := by
  rw [LAcc.command_st]
  exact .of_groups rfl (List.length_map _)

theorem LAcc.recallCar_alters (env : LEnv) (a : LAcc) (car : Nat) : a.st.Alters n p (a.recallCar env car).st := by
  refine .of_groups (LAcc.recallCar_groups env a car) ?_
  have commanded {g service cmd c} := (LAcc.command_alters (n := n) (p := p) env g service cmd c a).cars
  unfold LAcc.recallCar
  split
  · rfl
  · split
    · rfl
    · split
      · exact commanded
      · dsimp only
        split
        · rw [LAcc.replaceCar_st]
          exact List.length_map _
        · exact commanded

theorem LAcc.releaseCar_alters (env : LEnv) (a : LAcc) (car : Nat) : a.st.Alters n p (a.releaseCar env car).st := by
  unfold LAcc.releaseCar
  split
  · exact .refl _
  · split
    · exact .refl _
    · exact LAcc.command_alters ..

theorem LAcc.eachCar_alters {step : LAcc → Nat → LAcc} (h : ∀ (a : LAcc) car, a.st.Alters n p (step a car).st) (g : Nat)
    (q : Car → Bool) (a : LAcc) : a.st.Alters n p (a.eachCar g q step).st := by
  refine foldl_keeps (P := fun b : LAcc => a.st.Alters n p b.st) (fun b car hb => ?_) _ a (.refl _)
  split
  · split
    · exact hb.trans (h b car)
    · exact hb
  · exact hb

/-- R88, R92: a retarget moves the target and the lockout of its group. -/
theorem LAcc.retarget_alters (htarget : ∀ g target, p { g with target := target } = p g)
    (hlockout : ∀ g set mask, p { g with lockout := set, mask := mask } = p g) (env : LEnv) (reaches : Car → Bool)
    (a : LAcc) : a.st.Alters n p (a.retarget env n reaches).st := by
  unfold LAcc.retarget
  split
  · exact .refl _
  · have chosen : a.st.Alters n p (a.modGroup n (fun g => { g with target := chooseTarget env g })).st := by
      refine LAcc.modGroup_alters ?_ ?_ a
      · exact fun _ => rfl
      · exact fun g => htarget g _
    refine LC.Alters.trans ?_ (LAcc.recomputeLockout_alters hlockout env _)
    refine LC.Alters.trans ?_ (LAcc.eachCar_alters (LAcc.recallCar_alters env) ..)
    split
    · exact chosen
    · exact chosen.trans (LAcc.groupReport_alters ..)

end Alters

/-- What is left of a change of group `n` by steps that keep what `p` reads. -/
theorem LC.Alters.after {α : Type} {n : Nat} {p : Group → α} {f : Group → Group} {a : LAcc} {y : LC} {g : Group}
    (hf : ∀ g, (f g).number = g.number) (h : (a.modGroup n f).st.Alters n p y) (hg : findGroup a.st n = some g) :
    ∃ g', findGroup y n = some g' ∧ p g' = p (f g) := by
  have hown := h.own
  rw [LAcc.findGroup_modGroup hf hg, Option.map_some] at hown
  exact Option.map_eq_some_iff.mp hown

end Sys2Proof.Machine
end

section
/-!
RECALL_GROUP (R79, R92) and RELEASE_GROUP (R95).
-/

namespace Sys2Proof.Machine

/-! ## RECALL_GROUP -/

theorem recallGroup_requests (tag a : Byte) :
    Requests (.recallGroup tag [a]) 0x0F#8 tag a.toNat recallGroup := ⟨_, _, rfl, rfl, fun _ => rfl⟩

theorem recallGroup_none {n : Nat} {s : State} (h : findGroup s.lc n = none) : recallGroup n s = (.bare .noSuch, s) := by
  rw [recallGroup, h]

theorem recallGroup_some {n : Nat} {s : State} {g : Group} (h : findGroup s.lc n = some g) :
    recallGroup n s = (.done, s.liftLc (LAcc.recallRequest s.lenv n)) := by
  rw [recallGroup, h]

/-- R79: what follows the trigger at the start of a recall leaves the recall, the other groups and the number of cars. -/
theorem LAcc.startRecall_alters (env : LEnv) (name : TriggerName) (zone : Option TriggerZone) (n : Nat) (a : LAcc) :
    (a.modGroup n (fun g => { g with active := true, triggers := (⟨false, false, []⟩ : Triggers).note name zone })).st.Alters
      n Group.recall (a.startRecall env name zone n).st := by
  refine ((LAcc.groupReport_alters env (.recallStarted name) n _).trans
    (LAcc.modGroup_alters (f := fun g => { g with target := chooseTarget env g }) ?_ ?_ _)).trans
    ((LAcc.recomputeLockout_alters ?_ env _).trans (LAcc.eachCar_alters (LAcc.recallCar_alters env) ..))
  · exact fun _ => rfl
  · exact fun _ => rfl
  · exact fun _ _ _ => rfl

/-- R92: RECALL_GROUP puts its group in recall with the REQUEST mark, and what follows leaves that, the other groups and the
number of cars. -/
theorem LAcc.recallRequest_group {env : LEnv} {n : Nat} {a : LAcc} {g : Group} (h : findGroup a.st n = some g) :
    ∃ g', findGroup (a.recallRequest env n).st n = some g' ∧ g'.active = true ∧ g'.triggers.request = true ∧
      (∀ m, m ≠ n → findGroup (a.recallRequest env n).st m = findGroup a.st m) ∧
      (a.recallRequest env n).st.cars.length = a.st.cars.length := by
  unfold LAcc.recallRequest
  rw [h]
  dsimp only
  split
  next hactive =>
    have number (g : Group) : ({ g with triggers := { g.triggers with request := true } } : Group).number = g.number := rfl
    have rest := LAcc.retarget_alters (n := n) (p := Group.recall) (fun _ _ => rfl) (fun _ _ _ => rfl) env retargetReaches
      (a.modGroup n (fun g => { g with triggers := { g.triggers with request := true } }))
    obtain ⟨g', hg', hrecall⟩ := rest.after number h
    obtain ⟨-, hact, htriggers⟩ : g'.number = g.number ∧ g'.active = g.active ∧ _ := by simpa [Group.recall] using hrecall
    exact ⟨g', hg', hact.trans hactive, by rw [htriggers],
      fun m hm => (rest.others m hm).trans (LAcc.findGroup_modGroup_ne number hm a), rest.cars⟩
  next =>
    have number (g : Group) : ({ g with
      active := true, triggers := (⟨false, false, []⟩ : Triggers).note .request none } : Group).number = g.number := rfl
    have rest := LAcc.startRecall_alters env .request none n a
    obtain ⟨g', hg', hrecall⟩ := rest.after number h
    obtain ⟨-, hact, htriggers⟩ : g'.number = g.number ∧ g'.active = true ∧ _ := by simpa [Group.recall] using hrecall
    exact ⟨g', hg', hact, by rw [htriggers]; rfl,
      fun m hm => (rest.others m hm).trans (LAcc.findGroup_modGroup_ne number hm a), rest.cars⟩

/-- Settles O38: by the two answers of RECALL_GROUP. -/
theorem recallGroupRule : Obligations.RecallGroupRule := by
  intro s tag a hs
  have request := recallGroup_requests tag a
  have hlc : (asked s).lc = s.lc := (asked_sameBlocks s).lc
  refine ⟨fun hnone => request.answeredOnly hs (recallGroup_none (hlc ▸ hnone)), fun g hg => ?_⟩
  obtain ⟨t, ht, hreply, hend, kept⟩ := request.lifted hs (recallGroup_some (hlc ▸ hg))
  obtain ⟨g', hg', hactive, hrequest, hothers, hcars⟩ :=
    LAcc.recallRequest_group (env := (asked s).lenv) (a := ⟨s.lc, []⟩) hg
  rw [← hend] at hg' hothers hcars
  exact ⟨t, g', ht, hreply, hg', hactive, hrequest, hothers, hcars, kept.regime, kept.ze, kept.es, kept.ds, kept.ar, kept.cs⟩

/-! ## RELEASE_GROUP -/

theorem releaseGroup_requests (tag a : Byte) :
    Requests (.releaseGroup tag [a]) 0x10#8 tag a.toNat releaseGroup := ⟨_, _, rfl, rfl, fun _ => rfl⟩

theorem releaseGroup_none {n : Nat} {s : State} (h : findGroup s.lc n = none) :
    releaseGroup n s = (.bare .noSuch, s) := by
  rw [releaseGroup, h]

theorem releaseGroup_held {n : Nat} {s : State} {g : Group} (h : findGroup s.lc n = some g)
    (hheld : s.rc.level = .general ∨ ∃ z ∈ g.triggers.zones, z.standing = true) :
    releaseGroup n s = (.refused .triggerActive, s) := by
  rw [releaseGroup, h]
  exact if_pos (by simpa using hheld)

theorem releaseGroup_free {n : Nat} {s : State} {g : Group} (h : findGroup s.lc n = some g)
    (hlevel : s.rc.level ≠ .general) (hzones : ∀ z ∈ g.triggers.zones, z.standing = false) : releaseGroup n s =
      if g.active then (.done, s.liftLc (LAcc.endRecall s.lenv .host n)) else (.done, s) := by
  rw [releaseGroup, h]
  exact if_neg (by simpa using ⟨hlevel, hzones⟩)

/-- A group's part in a recall: whether it is active, its triggers and its target. -/
def Group.course (g : Group) : Bool × Triggers × Option Target := (g.active, g.triggers, g.target)

/-- R94: the end of a recall leaves the group inactive without triggers or target, and the other groups as they were. -/
theorem LAcc.endRecall_group {env : LEnv} {cause : EndOrigin} {n : Nat} {a : LAcc} {g : Group}
    (h : findGroup a.st n = some g) :
    ∃ g', findGroup (a.endRecall env cause n).st n = some g' ∧ g'.active = false ∧ g'.target = none ∧
      g'.triggers = ⟨false, false, []⟩ ∧ ∀ m, m ≠ n → findGroup (a.endRecall env cause n).st m = findGroup a.st m := by
  have number (g : Group) :
      ({ g with active := false, triggers := ⟨false, false, []⟩, target := none } : Group).number = g.number := rfl
  have rest : (a.modGroup n (fun g =>
      { g with active := false, triggers := ⟨false, false, []⟩, target := none })).st.Alters n Group.course
      (a.endRecall env cause n).st :=
    (LAcc.groupReport_alters env (.recallEnded cause) n _).trans
      ((LAcc.eachCar_alters (LAcc.releaseCar_alters env) ..).trans
        (LAcc.recomputeLockout_alters (fun _ _ _ => rfl) env _))
  obtain ⟨g', hg', hcourse⟩ := rest.after number h
  obtain ⟨hactive, htriggers, htarget⟩ : g'.active = false ∧ g'.triggers = _ ∧ g'.target = none := by
    simpa [Group.course] using hcourse
  exact ⟨g', hg', hactive, htarget, htriggers,
    fun m hm => (rest.others m hm).trans (LAcc.findGroup_modGroup_ne number hm a)⟩

/-- Settles O39: by the four answers of RELEASE_GROUP. -/
theorem releaseGroupRule : Obligations.ReleaseGroupRule := by
  intro s tag a hs
  have request := releaseGroup_requests tag a
  have hlc : (asked s).lc = s.lc := (asked_sameBlocks s).lc
  have hlevel : (asked s).rc.level = s.rc.level := (asked_sameRegime s).level
  refine ⟨fun hnone => request.answeredOnly hs (releaseGroup_none (hlc ▸ hnone)), fun g hg => ?_⟩
  have hfound : findGroup (asked s).lc a.toNat = some g := hlc ▸ hg
  refine ⟨fun hheld => request.answeredOnly hs (releaseGroup_held hfound (hlevel ▸ hheld)), ?_, ?_⟩
  · intro hl hz hactive
    refine request.answeredOnly (a := .done) hs ((releaseGroup_free hfound (hlevel ▸ hl) hz).trans ?_)
    exact if_neg (by simp [hactive])
  · intro hl hz hactive
    obtain ⟨t, ht, hreply, hend, kept⟩ :=
      request.lifted hs ((releaseGroup_free hfound (hlevel ▸ hl) hz).trans (if_pos hactive))
    obtain ⟨g', hg', hinactive, htarget, htriggers, hothers⟩ :=
      LAcc.endRecall_group (env := (asked s).lenv) (cause := .host) (a := ⟨s.lc, []⟩) hg
    rw [← hend] at hg' hothers
    exact ⟨t, g', ht, hreply, hg', hinactive, htarget, htriggers, hothers, kept.regime, kept.ze, kept.es, kept.ds, kept.ar,
      kept.cs⟩

end Sys2Proof.Machine
end

section
/-!
FIRE_SERVICE (R90, R91) and the expiry of a retry timer (R84): one car commanded, or sent its command again.
-/

namespace Sys2Proof.Machine

/-! ## FIRE_SERVICE -/

theorem fireServiceOn_requests (tag a : Byte) :
    Requests (.fireServiceOn tag [a, 1]) 0x11#8 tag (a.toNat, true) (fun q => fireService q.1 q.2) :=
  ⟨_, _, rfl, rfl, fun _ => rfl⟩

theorem fireServiceOff_requests (tag a : Byte) :
    Requests (.fireServiceOff tag [a, 0]) 0x11#8 tag (a.toNat, false) (fun q => fireService q.1 q.2) :=
  ⟨_, _, rfl, rfl, fun _ => rfl⟩

section Car

variable {n : Nat} {s : State} {c : Car} (hc : findCar s.lc n = some c)
include hc

theorem fireService_recalled (h : c.service = .recalled) :
    fireService n true s = (.done, s.liftLc (LAcc.fireOn s.lenv n)) := by
  rw [fireService, hc]
  simp [h]

theorem fireService_notParked (hr : c.service ≠ .recalled) (hf : c.service ≠ .fireService) :
    fireService n true s = (.refused .notParked, s) := by
  rw [fireService, hc]
  simp [hr, hf]

theorem fireService_off : fireService n false s = (.done, s.liftLc (LAcc.fireOff s.lenv n)) := by
  rw [fireService, hc]
  rfl

end Car

section Commanded

variable {n : Nat} {a : LAcc} {c : Car} {g : Group} (hc : findCar a.st n = some c) (hg : findGroup a.st c.group = some g)
include hc hg

/-- R90: FIRE_SERVICE on commands a parked car. -/
theorem LAcc.fireOn_recalled {env : LEnv} (h : c.service = .recalled) (hi : c.image ≠ some .fireOn) :
    a.fireOn env n = a.command env g .recalled .fireOn c := by
  rw [LAcc.fireOn, hc]
  dsimp only
  rw [hg]
  exact if_pos (by simpa using ⟨h, hi⟩)

/-- R91: FIRE_SERVICE off commands a car in FIRE_SERVICE. -/
theorem LAcc.fireOff_fireService {env : LEnv} (h : c.service = .fireService) :
    a.fireOff env n = a.command env g .fireService .fireOff c := by
  rw [LAcc.fireOff, hc]
  dsimp only
  rw [hg]
  exact if_pos (by simp [h])

/-- R84: a retry timer that stands at 0 sends the command again. -/
theorem LAcc.retryExpired_due (h : c.retry = some 0) :
    a.retryExpired n = (a.putCar { c with cmdState := .sent, retry := none }).tell
      (.dirty (.ofGroup g.number) g.address (.carCommand c.number)) := by
  rw [LAcc.retryExpired, hc]
  dsimp only
  rw [hg]
  exact if_pos h

end Commanded

/-- R82: the car after a command, found by its number. -/
theorem LAcc.findCar_commanded {env : LEnv} {g : Group} {service : Service} {cmd : Command} {n : Nat} {c : Car} {a : LAcc}
    (hc : findCar a.st n = some c) :
    findCar (a.command env g service cmd c).st n = some (commanded service cmd c) := by
  obtain ⟨hmem, rfl⟩ := findCar_mem hc
  exact LAcc.findCar_command hmem

/-- Settles O40: both forms command the car, and a car that is not parked is refused. -/
theorem fireServiceRule : Obligations.FireServiceRule := by
  intro s tag a c g hs hc hg
  have on := fireServiceOn_requests tag a
  have off := fireServiceOff_requests tag a
  have hfound : findCar (asked s).lc a.toNat = some c := (asked_sameBlocks s).lc ▸ hc
  refine ⟨fun hr hi => ?_, fun hr hf => on.answeredOnly hs (fireService_notParked hfound hr hf), fun hf => ?_⟩
  · obtain ⟨t, ht, hreply, hend, kept⟩ := on.lifted hs (fireService_recalled hfound hr)
    rw [LAcc.fireOn_recalled (a := ⟨s.lc, []⟩) hc hg hr hi] at hend
    refine ⟨t, ht, hreply, ?_, ?_, kept.regime, kept.ze, kept.es, kept.ds, kept.ar, kept.cs⟩
    · rw [hend, LAcc.findCar_commanded (a := ⟨s.lc, []⟩) hc, commanded, hr]
    · rw [hend, LAcc.command_groups]
  · obtain ⟨t, ht, hreply, hend, kept⟩ := off.lifted hs (fireService_off hfound)
    rw [LAcc.fireOff_fireService (a := ⟨s.lc, []⟩) hc hg hf] at hend
    refine ⟨t, ht, hreply, ?_, ?_, kept.regime, kept.ze, kept.es, kept.ds, kept.ar, kept.cs⟩
    · rw [hend, LAcc.findCar_commanded (a := ⟨s.lc, []⟩) hc, commanded, hf]
    · rw [hend, LAcc.command_groups]

/-! ## RETRY_EXPIRY -/

/-- R152: an image that a change of the LC marks is dirty after it. -/
theorem liftLc_marked {f : LAcc → LAcc} {s : State} {port : Line} {address : Nat} {name : ImageName}
    (h : (f ⟨s.lc, []⟩).out = [.dirty port address name]) : Marked (s.liftLc f).flc port address name := by
  rw [State.liftLc_eq, h]
  exact markDirty_marked port address name s.flc

/-- Settles O41: the car is put in its place as SENT, and its image is marked. -/
theorem retryExpiryRule : Obligations.RetryExpiryRule := by
  intro s n c g hpower hc hg hdue
  obtain ⟨t, ht, hend⟩ := event_endsIn (fun s => s.liftLc (LAcc.retryExpired n)) hpower
  have kept := ((clear_liftOnly s).trans (liftLc_liftOnly (LAcc.retryExpired n) _)).trans
    (hend.liftOnly (by rw [liftLc_ev]; rfl))
  obtain ⟨hflc, -⟩ := hend.flc_ar (by rw [liftLc_ev]; rfl)
  have hretry := LAcc.retryExpired_due (a := ⟨s.lc, []⟩) hc hg hdue
  have hlc : t.lc = (LAcc.putCar { c with cmdState := .sent, retry := none } ⟨s.lc, []⟩).st := by
    rw [hend.lc, liftLc_lc]
    exact (congrArg Acc.st hretry).trans (LAcc.tell_st ..)
  have hmarked : Marked t.flc (.ofGroup g.number) g.address (.carCommand c.number) := by
    rw [hflc]
    exact liftLc_marked (congrArg Acc.out hretry)
  obtain ⟨hmem, hnumber⟩ := findCar_mem hc
  refine ⟨t, ht, ?_, fun m hm => ?_, ?_, kept.regime, kept.ze, kept.es, kept.ds, kept.ar, kept.cs, hmarked⟩
  · rw [hlc, ← hnumber]
    exact LAcc.findCar_putCar (a := ⟨s.lc, []⟩) hmem rfl
  · rw [hlc]
    exact LAcc.findCar_putCar_ne (hnumber ▸ hm) _
  · rw [hlc]
    rfl

end Sys2Proof.Machine
end

section
/-!
The door points as an operation of the Door Supervisor leaves them (chapter 05). An operation takes points of the table one by
one and puts each back changed; where the indices are distinct, the table is then the old one with those points changed, and the
output images hold it still.
-/

namespace Sys2Proof.Machine

/-! ## One point -/

/-- The configured part of a door point. -/
def Door.config (d : Door) : Door :=
  { d with drive := .lock, enable := false, sensed := .unknown, cond := .unknown, dwell := none, heldOpen := none }

/-- R103: what the latch of a point follows, and the latch. -/
def Door.latch (d : Door) : Nat × Nat × Nat × NormalState × Drive := (d.index, d.floor, d.stair, d.normal, d.drive)

/-- R101: what an output image reads of a point. -/
def Door.wiring (d : Door) : Line × Nat × Nat × Drive × Bool := (d.loop, d.address, d.point, d.drive, d.enable)

/-- R104, R105: a point whose latch is set to a state. -/
def driven (dwell : Nat) (goal : Drive) (d : Door) : Door := if d.drive = goal then d else redriven dwell goal d

/-- R104: a point recomputed. -/
def recomputed (env : DEnv) (x : DS) (d : Door) : Door := driven x.dwell (requiredDrive env x.manual d) d

/-- R112: a point with its held-open supervision ended. -/
def heldOpenEnded (d : Door) : Door :=
  if d.cond = .heldOpen then { d with cond := .normal, heldOpen := none }
  else if d.heldOpen.isSome then { d with heldOpen := none } else d

/-- R106: a point after the tests of a reply. -/
def tested (env : DEnv) (x : DS) (d : Door) : Door :=
  if d.supervised then afterHeldOpen env.level x.heldOpenLimit (afterAgreement x.dwell d) else d

theorem redriven_leaves (dwell : Nat) (goal : Drive) (d : Door) :
    (redriven dwell goal d).config = d.config ∧ (redriven dwell goal d).enable = d.enable := by
  unfold redriven
  split <;> exact ⟨rfl, rfl⟩

theorem driven_leaves (dwell : Nat) (goal : Drive) (d : Door) :
    (driven dwell goal d).config = d.config ∧ (driven dwell goal d).enable = d.enable := by
  unfold driven
  split
  · exact ⟨rfl, rfl⟩
  · exact redriven_leaves ..

@[simp] theorem driven_drive (dwell : Nat) (goal : Drive) (d : Door) : (driven dwell goal d).drive = goal := by
  unfold driven
  split
  · assumption
  · exact redriven_drive ..

theorem heldOpenEnded_leaves (d : Door) :
    (heldOpenEnded d).config = d.config ∧ (heldOpenEnded d).drive = d.drive ∧ (heldOpenEnded d).enable = d.enable := by
  unfold heldOpenEnded
  split
  · exact ⟨rfl, rfl, rfl⟩
  · split <;> exact ⟨rfl, rfl, rfl⟩

theorem afterAgreement_leaves (dwell : Nat) (d : Door) : (afterAgreement dwell d).config = d.config ∧
    (afterAgreement dwell d).drive = d.drive ∧ (afterAgreement dwell d).enable = d.enable := by
  unfold afterAgreement
  cases d.cond with
  | pending | fault => dsimp only; split <;> exact ⟨rfl, rfl, rfl⟩
  | heldOpen =>
    dsimp only
    split
    · split <;> exact ⟨rfl, rfl, rfl⟩
    · exact ⟨rfl, rfl, rfl⟩
  | normal | unknown => exact ⟨rfl, rfl, rfl⟩

theorem afterHeldOpen_leaves (level : Level) (limit : Nat) (d : Door) : (afterHeldOpen level limit d).config = d.config ∧
    (afterHeldOpen level limit d).drive = d.drive ∧ (afterHeldOpen level limit d).enable = d.enable := by
  unfold afterHeldOpen
  cases d.sensed with
  | isOpen => dsimp only; split <;> exact ⟨rfl, rfl, rfl⟩
  | secure | unsecure | unknown => exact ⟨rfl, rfl, rfl⟩

theorem tested_leaves (env : DEnv) (x : DS) (d : Door) : (tested env x d).config = d.config ∧
    (tested env x d).drive = d.drive ∧ (tested env x d).enable = d.enable := by
  unfold tested
  split
  · obtain ⟨config, drive, enable⟩ := afterAgreement_leaves x.dwell d
    obtain ⟨config', drive', enable'⟩ := afterHeldOpen_leaves env.level x.heldOpenLimit (afterAgreement x.dwell d)
    exact ⟨config'.trans config, drive'.trans drive, enable'.trans enable⟩
  · exact ⟨rfl, rfl, rfl⟩

/-- The configured part and the latch together are what the latch follows. -/
theorem Door.latch_eq {d e : Door} (hconfig : e.config = d.config) (hdrive : e.drive = d.drive) : e.latch = d.latch := by
  simp only [Door.config, Door.mk.injEq] at hconfig
  simp [Door.latch, hconfig, hdrive]

theorem Door.index_eq {d e : Door} (hconfig : e.config = d.config) : e.index = d.index :=
  show e.config.index = d.config.index from congrArg _ hconfig

theorem Door.seat_eq {d e : Door} (hconfig : e.config = d.config) : e.loop = d.loop ∧ e.address = d.address :=
  ⟨show e.config.loop = d.config.loop from congrArg _ hconfig,
    show e.config.address = d.config.address from congrArg _ hconfig⟩

/-- R103: a point's required state is a matter of its configured part. -/
theorem requiredDrive_config {env : DEnv} {manual : List FloorSet} {d e : Door} (h : e.config = d.config) :
    requiredDrive env manual e = requiredDrive env manual d := by
  have hfloor : e.floor = d.floor := show e.config.floor = d.config.floor from congrArg _ h
  have hstair : e.stair = d.stair := show e.config.stair = d.config.stair from congrArg _ h
  have hnormal : e.normal = d.normal := show e.config.normal = d.config.normal from congrArg _ h
  unfold requiredDrive doorReasons
  rw [hfloor, hstair, hnormal]

/-! ## Output images (R101) -/

/-- R101: every output image holds the points of its module. -/
def DS.Agrees (x : DS) : Prop := ∀ m ∈ x.modules, m.outputs = outputImage x.doors m.loop m.address

theorem outputsAgree_iff (s : State) : s.OutputsAgree ↔ s.ds.Agrees := Iff.rfl

theorem outputEntry_eq (l : List Door) (loop : Line) (address point : Nat) : outputEntry l loop address point =
    ((l.find? (fun d => d.onModule loop address && d.point = point)).map (fun d => (d.drive, d.enable))).getD
      (.release, false) := by
  unfold outputEntry
  cases l.find? (fun d => d.onModule loop address && d.point = point) <;> rfl

/-- An output image reads the points of its module alone. -/
theorem outputImage_of_filter {l l' : List Door} {loop : Line} {address : Nat}
    (h : l'.filter (·.onModule loop address) = l.filter (·.onModule loop address)) :
    outputImage l' loop address = outputImage l loop address := by
  have found (l : List Door) (n : Nat) : l.find? (fun d => d.onModule loop address && d.point = n) =
      (l.filter (·.onModule loop address)).find? (fun d => d.point = n) := by
    rw [List.find?_filter]
    simp only [Bool.decide_and, Bool.decide_eq_true]
  refine List.map_congr_left fun n _ => ?_
  rw [outputEntry_eq, outputEntry_eq, found, found, h]

/-- An output image reads of its points their wiring alone. -/
theorem outputImage_of_wiring {l l' : List Door} (h : l'.map Door.wiring = l.map Door.wiring) (loop : Line) (address : Nat) :
    outputImage l' loop address = outputImage l loop address := by
  have found (l : List Door) (n : Nat) :
      (l.find? (fun d => d.onModule loop address && d.point = n)).map (fun d => (d.drive, d.enable)) =
        ((l.map Door.wiring).find? (fun w => w.1 = loop && w.2.1 = address && w.2.2.1 = n)).map (·.2.2.2) := by
    rw [List.find?_map, Option.map_map]
    rfl
  refine List.map_congr_left fun n _ => ?_
  rw [outputEntry_eq, outputEntry_eq, found, found, h]

theorem DS.Agrees.of_wiring {x y : DS} (h : x.Agrees) (hdoors : y.doors.map Door.wiring = x.doors.map Door.wiring)
    (hmodules : y.modules.map (fun m => (m.loop, m.address, m.outputs)) =
      x.modules.map (fun m => (m.loop, m.address, m.outputs))) : y.Agrees := by
  intro m' hm'
  obtain ⟨m, hm, heq⟩ := List.mem_map.mp (hmodules ▸ List.mem_map_of_mem hm')
  obtain ⟨hloop, haddress, houtputs⟩ : m.loop = m'.loop ∧ m.address = m'.address ∧ m.outputs = m'.outputs := by
    simpa using heq
  rw [← hloop, ← haddress, ← houtputs, h m hm, outputImage_of_wiring hdoors]

/-- R101: an image brought to its points holds them, and the images of the other modules stay. -/
theorem DAcc.syncModule_agrees {loop : Line} {address : Nat} {a : DAcc}
    (h : ∀ m ∈ a.st.modules, ¬(m.loop = loop ∧ m.address = address) →
      m.outputs = outputImage a.st.doors m.loop m.address) : (a.syncModule loop address).st.Agrees := by
  unfold DAcc.syncModule
  dsimp only
  split
  case isTrue =>
    intro m' hm'
    obtain ⟨m, hm, rfl⟩ := List.mem_map.mp hm'
    by_cases hkey : m.loop = loop ∧ m.address = address
    · simp [hkey, DAcc.tell, DAcc.ds, DS.modModule]
    · have hother := h m hm hkey
      simpa [hkey, ← Bool.decide_and, DAcc.tell, DAcc.ds, DS.modModule] using hother
  case isFalse hsame =>
    intro m hm
    by_cases hkey : m.loop = loop ∧ m.address = address
    · by_contra hne
      refine hsame (List.any_eq_true.mpr ⟨m, hm, ?_⟩)
      obtain ⟨rfl, rfl⟩ := hkey
      simpa using hne
    · exact h m hm hkey

/-- A table changed in records outside of `q` stays the same within `q`. -/
theorem filter_mapIf {α : Type} {p q : α → Bool} {f : α → α} {l : List α}
    (h : ∀ e ∈ l, p e = true → q e = false ∧ q (f e) = false) : (mapIf p f l).filter q = l.filter q := by
  induction l with
  | nil => rfl
  | cons e l ih =>
    have rest := ih fun x hx => h x (List.mem_cons_of_mem e hx)
    rw [mapIf] at rest ⊢
    rw [List.map_cons, List.filter_cons, List.filter_cons, rest]
    by_cases hp : p e = true
    · obtain ⟨he, hf⟩ := h e List.mem_cons_self hp
      simp [hp, he, hf]
    · simp [hp]

/-- R101: one point put in its place keeps the images right. -/
theorem DAcc.put_agrees {d : Door} {a : DAcc} (ha : a.st.Agrees)
    (h : ∀ e ∈ a.st.doors, e.index = d.index → e.loop = d.loop ∧ e.address = d.address) : (a.put d).st.Agrees := by
  refine DAcc.syncModule_agrees fun m hm hother => ?_
  refine (ha m hm).trans (outputImage_of_filter (filter_mapIf fun e he hp => ?_)).symm
  obtain ⟨hloop, haddress⟩ := h e he (of_decide_eq_true hp)
  have hd : d.onModule m.loop m.address = false := by
    rw [Door.onModule, ← Bool.decide_and]
    exact decide_eq_false fun ⟨hl, ha⟩ => hother ⟨hl.symm, ha.symm⟩
  exact ⟨by rw [Door.onModule, hloop, haddress]; exact hd, hd⟩

/-! ## Points put back one by one -/

/-- R114 and the configured times: what the DS holds besides its points and modules. -/
def DS.settings (x : DS) : List FloorSet × Nat × Nat := (x.manual, x.dwell, x.heldOpenLimit)

theorem DAcc.syncModule_settings (loop : Line) (address : Nat) (a : DAcc) :
    (a.syncModule loop address).st.settings = a.st.settings := by
  unfold DAcc.syncModule
  dsimp only
  split <;> rfl

@[simp] theorem DAcc.put_settings (d : Door) (a : DAcc) : (a.put d).st.settings = a.st.settings :=
  DAcc.syncModule_settings ..

/-- `op` puts a point back as `g` has it, or leaves a point that `g` leaves, as long as the settings are those of `x`. -/
def PutsBack (x : DS) (g : Door → Door) (op : DAcc → Door → DAcc) : Prop :=
  ∀ (b : DAcc) (d : Door), b.st.settings = x.settings →
    (op b d).st = (b.put (g d)).st ∨ (g d = d ∧ (op b d).st = b.st)

/-- The Door Supervisor `y` is `x` with its points changed by `h`, the images following. -/
structure Repointed (x : DS) (h : Door → Door) (y : DS) : Prop where
  doors : y.doors = x.doors.map h
  settings : y.settings = x.settings
  agrees : x.Agrees → y.Agrees

theorem eq_of_index {l : List Door} (hnd : (l.map (·.index)).Nodup) {d e : Door} (hd : d ∈ l) (he : e ∈ l)
    (h : d.index = e.index) : d = e := List.inj_on_of_nodup_map hnd hd he h

/-- One point more put back. -/
theorem Repointed.put {x : DS} {g h : Door → Door} {op : DAcc → Door → DAcc} {b : DAcc} {y : Door} (hop : PutsBack x g op)
    (hg : ∀ d, (g d).config = d.config) (hh : ∀ d, h d = d ∨ h d = g d) (hnd : (x.doors.map (·.index)).Nodup)
    (hy : y ∈ x.doors) (hb : Repointed x h b.st) : Repointed x (fun d => if d = y then g y else h d) (op b y).st := by
  have hconfig (d : Door) : (h d).config = d.config := (hh d).elim (congrArg _) fun hd => hd ▸ hg d
  have hseat (d : Door) (hd : d ∈ x.doors) : (h d).index = (g y).index ↔ d = y := by
    rw [Door.index_eq (hconfig d), Door.index_eq (hg y)]
    exact ⟨eq_of_index hnd hd hy, congrArg _⟩
  obtain heq | ⟨hsame, heq⟩ := hop b y hb.settings <;> rw [heq]
  · refine ⟨?_, (DAcc.put_settings ..).trans hb.settings, fun hx => DAcc.put_agrees (hb.agrees hx) fun e he hindex => ?_⟩
    · rw [DAcc.put_doors, hb.doors, mapIf, List.map_map]
      refine List.map_congr_left fun d hd => ?_
      simp [hseat d hd]
    · rw [hb.doors] at he
      obtain ⟨d, hd, rfl⟩ := List.mem_map.mp he
      obtain rfl := (hseat d hd).mp hindex
      exact Door.seat_eq ((hconfig d).trans (hg d).symm)
  · refine ⟨?_, hb.settings, hb.agrees⟩
    rw [hb.doors]
    refine List.map_congr_left fun d _ => ?_
    by_cases hdy : d = y
    · subst hdy
      rw [if_pos rfl]
      exact (hh d).elim (·.trans hsame.symm) id
    · rw [if_neg hdy]

/-- Points of the table put back one by one: each is as `g` has it, the others stay. -/
theorem repointed_foldl {x : DS} {g : Door → Door} {op : DAcc → Door → DAcc} (hop : PutsBack x g op)
    (hg : ∀ d, (g d).config = d.config) (hnd : (x.doors.map (·.index)).Nodup) {l : List Door} (hl : l ⊆ x.doors) {a : DAcc}
    (ha : a.st = x) : Repointed x (fun d => if d ∈ l then g d else d) (l.foldl op a).st := by
  have main (h : Door → Door) (hh : ∀ d, h d = d ∨ h d = g d) (b : DAcc) (hb : Repointed x h b.st) :
      Repointed x (fun d => if d ∈ l then g d else h d) (l.foldl op b).st := by
    induction l generalizing h b with
    | nil => simpa using hb
    | cons y l ih =>
      obtain ⟨hy, hl⟩ := List.cons_subset.mp hl
      have next := ih hl (fun d => if d = y then g y else h d)
        (fun d => by
          by_cases hd : d = y
          · simp [hd]
          · simpa [hd] using hh d)
        (op b y) (hb.put hop hg hh hnd hy)
      have hsame : (fun d => if d ∈ y :: l then g d else h d) =
          fun d => if d ∈ l then g d else if d = y then g y else h d := by
        funext d
        by_cases hd : d = y
        · simp [hd]
        · simp [hd]
      rw [hsame]
      exact next
  exact main id (fun _ => .inl rfl) a ⟨by simp [ha], by rw [ha], fun h => ha ▸ h⟩

/-- The points of a table that satisfy `p` put back. -/
theorem repointed_filter {x : DS} {g : Door → Door} {op : DAcc → Door → DAcc} (hop : PutsBack x g op)
    (hg : ∀ d, (g d).config = d.config) (hnd : (x.doors.map (·.index)).Nodup) (p : Door → Bool) {a : DAcc} (ha : a.st = x) :
    Repointed x (fun d => if p d then g d else d) ((x.doors.filter p).foldl op a).st := by
  have h := repointed_foldl hop hg hnd (List.filter_subset_self _) ha (l := x.doors.filter p)
  refine ⟨h.doors.trans (List.map_congr_left fun d hd => ?_), h.settings, h.agrees⟩
  simp [hd]

/-- One point of the table put back. -/
theorem DAcc.put_repointed {g : Door → Door} {a : DAcc} (hg : ∀ d, (g d).config = d.config)
    (hnd : (a.st.doors.map (·.index)).Nodup) {d : Door} (hd : d ∈ a.st.doors) :
    Repointed a.st (fun e => if e = d then g e else e) (a.put (g d)).st := by
  have h := repointed_foldl (x := a.st) (g := g) (op := fun b d => b.put (g d)) (fun _ _ _ => .inl rfl) hg hnd
    (l := [d]) (by simpa using hd) (a := a) rfl
  simpa using h

end Sys2Proof.Machine
end

section
/-!
The operations of the Door Supervisor on the points and on the output images (R101 to R116): which points each puts back and how,
and that the images hold the points after each.
-/

namespace Sys2Proof.Machine

/-! ## Points recomputed and tested -/

/-- R104: a latch set puts the point back driven, or leaves a point that holds the state. -/
theorem DAcc.setDrive_st (env : DEnv) (goal : Drive) (a : DAcc) (d : Door) :
    (a.setDrive env goal d).st = (a.put (driven a.st.dwell goal d)).st ∨
      (driven a.st.dwell goal d = d ∧ (a.setDrive env goal d).st = a.st) := by
  unfold DAcc.setDrive driven
  split
  · exact .inr ⟨rfl, rfl⟩
  · exact .inl (by simp [DAcc.tellIf])

theorem DS.settings_eq {x y : DS} (h : y.settings = x.settings) :
    y.manual = x.manual ∧ y.dwell = x.dwell ∧ y.heldOpenLimit = x.heldOpenLimit := by
  simpa [DS.settings] using h

theorem recompute_putsBack (env : DEnv) (x : DS) :
    PutsBack x (recomputed env x) (fun b d => b.setDrive env (requiredDrive env b.st.manual d) d) := by
  intro b d hb
  obtain ⟨hmanual, hdwell, -⟩ := DS.settings_eq hb
  have h := DAcc.setDrive_st env (requiredDrive env b.st.manual d) b d
  rwa [recomputed, ← hmanual, ← hdwell]

theorem release_putsBack (env : DEnv) (x : DS) :
    PutsBack x (driven x.dwell .release) (fun b d => b.setDrive env .release d) := by
  intro b d hb
  obtain ⟨-, hdwell, -⟩ := DS.settings_eq hb
  have h := DAcc.setDrive_st env .release b d
  rwa [← hdwell]

theorem endHeldOpen_putsBack (env : DEnv) (x : DS) : PutsBack x heldOpenEnded (DAcc.endHeldOpen env) := by
  intro b d _
  unfold DAcc.endHeldOpen heldOpenEnded
  split
  · exact .inl rfl
  · split
    · exact .inl rfl
    · exact .inr ⟨rfl, rfl⟩

theorem testPoint_putsBack (env : DEnv) (x : DS) : PutsBack x (tested env x) (DAcc.testPoint env) := by
  intro b d hb
  obtain ⟨-, hdwell, hlimit⟩ := DS.settings_eq hb
  unfold DAcc.testPoint tested
  split
  · exact .inl (by simp [DAcc.tellIf, hdwell, hlimit])
  · exact .inr ⟨rfl, rfl⟩

section Distinct

variable {env : DEnv} {a : DAcc} (hnd : (a.st.doors.map (·.index)).Nodup)
include hnd

/-- R104: the points that satisfy `p` are recomputed, the others stay. -/
theorem DAcc.recompute_repointed (p : Door → Bool) :
    Repointed a.st (fun d => if p d then recomputed env a.st d else d) (a.recompute env p).st :=
  repointed_filter (recompute_putsBack env a.st) (fun _ => (driven_leaves ..).1) hnd p rfl

/-- R112: held-open supervision ends on every point. -/
theorem DAcc.endHeldOpen_repointed :
    Repointed a.st heldOpenEnded (a.st.doors.foldl (DAcc.endHeldOpen env) a).st := by
  have h := repointed_filter (endHeldOpen_putsBack env a.st) (fun d => (heldOpenEnded_leaves d).1) hnd (fun _ => true) rfl
  simpa using h

/-- R113: every latch goes to RELEASE. -/
theorem DAcc.generalEntered_repointed :
    Repointed a.st (driven a.st.dwell .release) (a.generalEntered env).st := by
  have h := repointed_filter (release_putsBack env a.st) (fun _ => (driven_leaves ..).1) hnd (fun _ => true)
    (a := (a.tell (.broadcast (.d 0))).tell (.broadcast (.d 1))) rfl
  unfold DAcc.generalEntered
  dsimp only
  rw [foldl_dirty_st]
  simp only [List.filter_true, if_true] at h
  exact h

/-- R106: the points of a module are tested, the others stay. -/
theorem DAcc.testPoint_repointed (loop : Line) (address : Nat) : ∃ g : Door → Door,
    Repointed a.st g ((pointsOf a.st.doors loop address).foldl (DAcc.testPoint env) a).st ∧
      ∀ d, g d = d ∨ g d = tested env a.st d := by
  have hsub : pointsOf a.st.doors loop address ⊆ a.st.doors := fun d hd =>
    (List.mem_filter.mp ((sortBy_perm _ _).mem_iff.mp hd)).1
  refine ⟨_, repointed_foldl (testPoint_putsBack env a.st) (fun d => (tested_leaves env a.st d).1) hnd hsub rfl, fun d => ?_⟩
  by_cases hd : d ∈ pointsOf a.st.doors loop address <;> simp [hd]

end Distinct

/-! ## Tables that keep their latches -/

/-- R103: the manual release set and the latches as they were, with what a latch follows. -/
structure DS.SameLatches (x y : DS) : Prop where
  manual : y.manual = x.manual
  doors : y.doors.map Door.latch = x.doors.map Door.latch

theorem DS.SameLatches.refl (x : DS) : x.SameLatches x := ⟨rfl, rfl⟩

theorem DS.SameLatches.trans {x y z : DS} (h : x.SameLatches y) (k : y.SameLatches z) : x.SameLatches z :=
  ⟨k.manual.trans h.manual, k.doors.trans h.doors⟩

theorem DS.SameLatches.indices {x y : DS} (h : x.SameLatches y) : y.doors.map (·.index) = x.doors.map (·.index) := by
  simpa [Door.latch, Function.comp_def] using congrArg (List.map Prod.fst) h.doors

theorem Repointed.sameLatches {x y : DS} {g : Door → Door} (h : Repointed x g y) (hg : ∀ d, (g d).latch = d.latch) :
    x.SameLatches y := by
  refine ⟨(DS.settings_eq h.settings).1, ?_⟩
  rw [h.doors, List.map_map]
  exact List.map_congr_left fun d _ => hg d

/-- Points changed besides their latch and their configured part. -/
theorem DAcc.modDoors_sameLatches {p : Door → Bool} {f : Door → Door} (h : ∀ d, (f d).latch = d.latch) (a : DAcc) :
    a.st.SameLatches (a.ds (DS.modDoors p f)).st := ⟨rfl, map_mapIf _ _ _ h _⟩

theorem DAcc.modDoors_agrees {p : Door → Bool} {f : Door → Door} (h : ∀ d, (f d).wiring = d.wiring) {a : DAcc}
    (ha : a.st.Agrees) : (a.ds (DS.modDoors p f)).st.Agrees := ha.of_wiring (map_mapIf _ _ _ h _) rfl

theorem foldl_tell_st {α : Type} (e : Eff) (l : List α) (a : DAcc) :
    (l.foldl (fun b _ => b.tell e) a).st = a.st :=
  foldl_keeps (P := fun b : DAcc => b.st = a.st) (op := fun b _ => b.tell e) (fun _ _ h => h) l a rfl

/-- R115, R116: a module's record is told up or down; the images stay. -/
theorem DS.modUp_agrees {x : DS} (hx : x.Agrees) (loop : Line) (address : Nat) (up : Bool) :
    (x.modModule loop address (fun m => { m with up := up })).Agrees := by
  refine hx.of_wiring rfl ?_
  exact map_mapIf _ (fun m : Module => { m with up := up }) _ (fun _ => rfl) _

/-! ## The replies, the timers and the module's node -/

section Distinct

variable {env : DEnv} {a : DAcc} (hnd : (a.st.doors.map (·.index)).Nodup)
include hnd

/-- R106, R109: a module's reply leaves the latches and the images. -/
theorem DAcc.moduleReply_keeps (loop : Line) (address : Nat) (sensed : List Sensed) (answered : Bool) :
    a.st.SameLatches (a.moduleReply env loop address sensed answered).st ∧
      (a.st.Agrees → (a.moduleReply env loop address sensed answered).st.Agrees) := by
  have written := DAcc.modDoors_sameLatches (p := fun d => d.onModule loop address)
    (f := fun d => { d with sensed := (sensed[d.point]?).getD d.sensed }) (fun _ => rfl) a
  have writtenAgrees := DAcc.modDoors_agrees (p := fun d => d.onModule loop address)
    (f := fun d => { d with sensed := (sensed[d.point]?).getD d.sensed }) (fun _ => rfl) (a := a)
  obtain ⟨g, pointed, hg⟩ := DAcc.testPoint_repointed (env := env) (written.indices ▸ hnd) loop address
  have hlatch (d : Door) : (g d).latch = d.latch := by
    obtain heq | heq := hg d <;> rw [heq]
    exact Door.latch_eq (tested_leaves ..).1 (tested_leaves ..).2.1
  have before := written.trans (pointed.sameLatches hlatch)
  unfold DAcc.moduleReply
  dsimp only
  split
  · refine ⟨before.trans (DAcc.modDoors_sameLatches ?_ _), fun h => DAcc.modDoors_agrees ?_ (pointed.agrees (writtenAgrees h))⟩
    · exact fun _ => rfl
    · exact fun _ => rfl
  · exact ⟨before, fun h => pointed.agrees (writtenAgrees h)⟩

/-- A point put back with its latch as it was. -/
theorem DAcc.put_keeps {g : Door → Door} (hg : ∀ d, (g d).config = d.config ∧ (g d).drive = d.drive) {d : Door}
    (hd : d ∈ a.st.doors) : a.st.SameLatches (a.put (g d)).st ∧ (a.st.Agrees → (a.put (g d)).st.Agrees) := by
  have pointed := DAcc.put_repointed (fun d => (hg d).1) hnd hd
  refine ⟨pointed.sameLatches fun e => ?_, pointed.agrees⟩
  split
  · exact Door.latch_eq (hg e).1 (hg e).2
  · rfl

/-- R108: the expiry of a dwell leaves the latches and the images. -/
theorem DAcc.dwellExpired_keeps (index : Nat) : a.st.SameLatches (a.dwellExpired env index).st ∧
    (a.st.Agrees → (a.dwellExpired env index).st.Agrees) := by
  unfold DAcc.dwellExpired
  split
  · exact ⟨.refl _, id⟩
  · rename_i d hd
    split
    · exact DAcc.put_keeps hnd (g := fun d => { d with cond := .fault, dwell := none }) (fun _ => ⟨rfl, rfl⟩)
        (List.mem_of_find?_eq_some hd)
    · exact ⟨.refl _, id⟩

/-- R111: the expiry of a held-open timer leaves the latches and the images. -/
theorem DAcc.heldOpenExpired_keeps (index : Nat) : a.st.SameLatches (a.heldOpenExpired env index).st ∧
    (a.st.Agrees → (a.heldOpenExpired env index).st.Agrees) := by
  unfold DAcc.heldOpenExpired
  split
  · exact ⟨.refl _, id⟩
  · rename_i d hd
    have hmem := List.mem_of_find?_eq_some hd
    split
    · split
      · exact DAcc.put_keeps hnd (g := fun d => { d with cond := .heldOpen, heldOpen := none }) (fun _ => ⟨rfl, rfl⟩) hmem
      · exact DAcc.put_keeps hnd (g := fun d => { d with heldOpen := none }) (fun _ => ⟨rfl, rfl⟩) hmem
    · exact ⟨.refl _, id⟩

end Distinct

/-- R115: NODE_DOWN leaves the latches and the images. -/
theorem DAcc.moduleDown_keeps (loop : Line) (address : Nat) (a : DAcc) : a.st.SameLatches (a.moduleDown loop address).st ∧
    (a.st.Agrees → (a.moduleDown loop address).st.Agrees) := by
  unfold DAcc.moduleDown
  simp only [foldl_tell_st]
  refine ⟨⟨rfl, map_mapIf _ _ _ ?_ _⟩, fun h => (DS.modUp_agrees h loop address false).of_wiring (map_mapIf _ _ _ ?_ _) rfl⟩
  · exact fun _ => rfl
  · exact fun _ => rfl

/-- R116: NODE_UP sets the enables of the module's points, its image following. -/
theorem DAcc.moduleUp_keeps (loop : Line) (address : Nat) (a : DAcc) : a.st.SameLatches (a.moduleUp loop address).st ∧
    (a.st.Agrees → (a.moduleUp loop address).st.Agrees) := by
  unfold DAcc.moduleUp
  simp only [foldl_tell_st]
  refine ⟨⟨?_, ?_⟩, fun h => DAcc.syncModule_agrees fun m hm hother => ?_⟩
  · exact (DS.settings_eq (DAcc.syncModule_settings ..)).1
  · rw [DAcc.syncModule_doors]
    refine map_mapIf _ _ _ (fun d => ?_) _
    split <;> rfl
  · refine (DS.modUp_agrees h loop address true m hm).trans (outputImage_of_filter (filter_mapIf fun d _ hd => ?_)).symm
    have hoff (e : Door) (hloop : e.loop = loop) (haddress : e.address = address) : e.onModule m.loop m.address = false := by
      rw [Door.onModule, ← Bool.decide_and, hloop, haddress]
      exact decide_eq_false fun ⟨hl, ha⟩ => hother ⟨hl.symm, ha.symm⟩
    obtain ⟨hloop, haddress⟩ : d.loop = loop ∧ d.address = address := by simpa [Door.onModule] using hd
    refine ⟨hoff d hloop haddress, ?_⟩
    split <;> exact hoff _ hloop haddress

/-! ## The output images after an operation (R101) -/

/-- R101: every operation of the Door Supervisor keeps the images right where the indices are distinct. -/
theorem DoorOp.agrees {env : DEnv} {f : DAcc → DAcc} (h : DoorOp env f) {a : DAcc}
    (hnd : (a.st.doors.map (·.index)).Nodup) (ha : a.st.Agrees) : (f a).st.Agrees := by
  cases h with
  | moduleReply => exact (DAcc.moduleReply_keeps hnd ..).2 ha
  | dwellExpired => exact (DAcc.dwellExpired_keeps hnd _).2 ha
  | heldOpenExpired => exact (DAcc.heldOpenExpired_keeps hnd _).2 ha
  | regimeEntered =>
    refine DAcc.modDoors_agrees ?_ ((DAcc.recompute_repointed hnd _).agrees ha)
    exact fun _ => rfl
  | regimeEnded =>
    have ended := DAcc.endHeldOpen_repointed (env := env) hnd
    have hnd' : ((a.st.doors.foldl (DAcc.endHeldOpen env) a).st.doors.map (·.index)).Nodup :=
      (DAcc.foldl_indexed (DAcc.endHeldOpen_indexed env) _ a).symm ▸ hnd
    exact (DAcc.recompute_repointed hnd' _).agrees (ended.agrees ha)
  | floorAdmitted => exact (DAcc.recompute_repointed hnd _).agrees ha
  | generalEntered => exact (DAcc.generalEntered_repointed hnd).agrees ha
  | manualChange add floors stairs =>
    exact (DAcc.recompute_repointed (a := a.ds (fun x => { x with manual := changeManual add floors stairs x.manual }))
      hnd _).agrees ha
  | moduleDown => exact (DAcc.moduleDown_keeps ..).2 ha
  | moduleUp => exact (DAcc.moduleUp_keeps ..).2 ha

theorem DS.second_sameLatches (x : DS) : x.SameLatches x.second := ⟨rfl, List.map_map⟩

theorem DS.second_agrees {x : DS} (h : x.Agrees) : x.second.Agrees := h.of_wiring List.map_map rfl

theorem Part.agrees {s t : State} (h : Part s t) (hnd : (s.ds.doors.map (·.index)).Nodup) (hs : s.ds.Agrees) :
    t.ds.Agrees := by
  cases h with
  | elsewhere h => exact h.ds ▸ hs
  | lift => exact (liftLc_ds _ s).symm ▸ hs
  | doors h =>
    rw [liftDs_ds]
    exact h.agrees (a := ⟨s.ds, []⟩) hnd hs
  | announce => exact (liftAr_ds _ s).symm ▸ hs
  | store => exact hs
  | booted h => exact h.powerOnBlocks.modules.1
  | second =>
    unfold idleSecond
    split
    · exact DS.second_agrees hs
    · exact hs

/-- R101: a step keeps the output images right. -/
theorem step_outputsAgree {s t : State} (hkeys : s.KeysDistinct) (hs : s.OutputsAgree) (ht : step s = .next t) :
    t.OutputsAgree :=
  (outputsAgree_iff t).mpr ((step_parts ht).keeps (P := fun u => u.KeysDistinct ∧ u.ds.Agrees)
    (fun _ _ part h => ⟨part.keysDistinct h.1, part.agrees h.1.2 h.2⟩) ⟨hkeys, (outputsAgree_iff s).mp hs⟩).2

end Sys2Proof.Machine
end

section
/-!
R18: the node count of the trouble set is the Field Link Controller's alone. No effect of the Lift Coordinator, the Door
Supervisor or the Announcement Router moves it.
-/

namespace Sys2Proof.Machine

/-! ## Effects that leave the node count -/

/-- An effect that is no trouble notice of a node. -/
def Eff.sparesNodes : Eff → Bool
  | .trouble .nodes _ => false
  | _ => true

/-- The effects made so far leave the node count. -/
def Acc.Spares {σ : Type} (a : Acc σ) : Prop := a.out.all Eff.sparesNodes = true

theorem Acc.Spares.nil {σ : Type} (x : σ) : Acc.Spares ⟨x, []⟩ := rfl

theorem Acc.Spares.emit {σ : Type} {a : Acc σ} {e : Eff} (h : a.Spares) (he : e.sparesNodes = true) :
    (a.emit e).Spares := by
  rw [Acc.Spares] at h ⊢
  simp [Acc.emit, h, he]

theorem Acc.Spares.emitIf {σ : Type} {a : Acc σ} {b : Bool} {e : Eff} (h : a.Spares) (he : e.sparesNodes = true) :
    (a.emitIf b e).Spares := by
  cases b
  · exact h
  · exact h.emit he

theorem Acc.Spares.ite {σ : Type} {c : Prop} [Decidable c] {a b : Acc σ} (h : a.Spares) (k : b.Spares) :
    (if c then a else b).Spares := by
  split
  · exact h
  · exact k

theorem Acc.Spares.foldl {σ α : Type} {op : Acc σ → α → Acc σ} (hop : ∀ a x, a.Spares → (op a x).Spares) (l : List α)
    {a : Acc σ} (h : a.Spares) : (l.foldl op a).Spares := foldl_keeps (P := Acc.Spares) hop l a h

theorem applyEff_nodes {e : Eff} (he : e.sparesNodes = true) (s : State) :
    (applyEff s e).rc.trouble.nodes = s.rc.trouble.nodes := by
  cases e with
  | trouble src rise =>
    cases src with
    | nodes => nomatch he
    | _ => simp [applyEff, Trouble.change]
  | _ => simp [applyEff]

/-- R18: effects that spare it leave the node count. -/
theorem applyEffs_nodes {l : List Eff} (hl : l.all Eff.sparesNodes = true) (s : State) :
    (applyEffs l s).rc.trouble.nodes = s.rc.trouble.nodes := by
  induction l generalizing s with
  | nil => rfl
  | cons e l ih =>
    rw [List.all_cons, Bool.and_eq_true] at hl
    obtain ⟨he, hl⟩ := hl
    rw [applyEffs_cons, ih hl]
    exact applyEff_nodes he s

/-! ## The Lift Coordinator (chapter 04) -/

section Lift

variable {env : LEnv} {a : LAcc} (h : a.Spares)
include h

theorem Acc.Spares.recomputeLockout (n : Nat) : (a.recomputeLockout env n).Spares := by
  unfold LAcc.recomputeLockout
  split
  · exact h
  · exact Acc.Spares.emitIf h rfl

theorem Acc.Spares.replaceCar (old new : Car) : (a.replaceCar env old new).Spares := by
  refine .emitIf (.emitIf (.emitIf ?_ rfl) rfl) rfl
  exact h

theorem Acc.Spares.command (g : Group) (service : Service) (cmd : Command) (c : Car) :
    (a.command env g service cmd c).Spares := (h.replaceCar ..).emit rfl

theorem Acc.Spares.recallCar (n : Nat) : (a.recallCar env n).Spares := by
  unfold LAcc.recallCar
  split
  · exact h
  · split
    · exact h
    · split
      · exact h.command ..
      · exact .ite (h.replaceCar ..) (h.command ..)

theorem Acc.Spares.releaseCar (n : Nat) : (a.releaseCar env n).Spares := by
  unfold LAcc.releaseCar
  split
  · exact h
  · split
    · exact h
    · exact h.command ..

theorem Acc.Spares.eachCar {step : LAcc → Nat → LAcc} (hstep : ∀ b m, b.Spares → (step b m).Spares) (g : Nat)
    (p : Car → Bool) : (a.eachCar g p step).Spares := by
  refine h.foldl (fun b m hb => ?_) _
  split
  · exact .ite (hstep b m hb) hb
  · exact hb

theorem Acc.Spares.groupReport (cause : GroupCause) (n : Nat) : (a.groupReport env cause n).Spares := by
  unfold LAcc.groupReport
  split
  · exact h
  · exact Acc.Spares.emit h rfl

theorem Acc.Spares.startRecall (name : TriggerName) (zone : Option TriggerZone) (n : Nat) :
    (a.startRecall env name zone n).Spares := by
  have reported (f k : Group → Group) (cause : GroupCause) :
      (((a.modGroup n f).groupReport env cause n).modGroup n k).Spares := Acc.Spares.groupReport (a := a.modGroup n f) h ..
  exact ((reported ..).recomputeLockout n).eachCar (fun _ _ hb => hb.recallCar _) ..

theorem Acc.Spares.trigger (name : TriggerName) (zone : Option TriggerZone) (n : Nat) :
    (a.trigger env name zone n).Spares := by
  unfold LAcc.trigger
  split
  · exact h
  · exact .ite h (h.startRecall ..)

theorem Acc.Spares.retarget (n : Nat) (reaches : Car → Bool) : (a.retarget env n reaches).Spares := by
  unfold LAcc.retarget
  split
  · exact h
  · refine (Acc.Spares.eachCar (.ite ?_ ?_) (fun _ _ hb => hb.recallCar _) ..).recomputeLockout n
    · exact h
    · exact Acc.Spares.groupReport (a := a.modGroup n _) h ..

theorem Acc.Spares.recallRequest (n : Nat) : (a.recallRequest env n).Spares := by
  unfold LAcc.recallRequest
  split
  · exact h
  · exact .ite (Acc.Spares.retarget (a := a.modGroup n _) h ..) (h.startRecall ..)

theorem Acc.Spares.endRecall (cause : EndOrigin) (n : Nat) : (a.endRecall env cause n).Spares :=
  ((Acc.Spares.groupReport (a := a.modGroup n _) h ..).eachCar (fun _ _ hb => hb.releaseCar _) ..).recomputeLockout n

theorem Acc.Spares.clearance (link : Line) (number n : Nat) : (a.clearance env link number n).Spares := by
  unfold LAcc.clearance
  split
  · exact h
  · exact .ite (.ite (Acc.Spares.endRecall (a := a.modGroup n _) h ..) h) h

theorem Acc.Spares.lockedOut (f n : Nat) : (a.lockedOut env f n).Spares := by
  unfold LAcc.lockedOut
  split
  · exact h
  · exact .ite (h.retarget ..) (.ite (h.recomputeLockout _) h)

theorem Acc.Spares.lockoutCleared (f n : Nat) : (a.lockoutCleared env f n).Spares := by
  unfold LAcc.lockoutCleared
  split
  · exact h
  · exact .ite (.ite (h.retarget ..) (h.recomputeLockout _)) h

theorem Acc.Spares.lockoutChange (f : Nat) : (a.lockoutChange env f).Spares := by
  refine h.foldl (fun b n hb => ?_) _
  split
  · exact hb.lockedOut ..
  · exact hb.lockoutCleared ..

theorem Acc.Spares.fail (g : Group) (c : Car) : (a.fail env g c).Spares := (h.replaceCar ..).emit rfl

theorem Acc.Spares.defer (g : Group) (c : Car) : (a.defer env g c).Spares :=
  .ite (Acc.Spares.fail (a := a.putCar _) h ..) h

theorem Acc.Spares.uncommand (g : Group) (service : Service) (c : Car) : (a.uncommand env g service c).Spares :=
  (h.replaceCar ..).emitIf rfl

theorem Acc.Spares.accept (g : Group) (c : Car) : (a.accept env g c).Spares := by
  unfold LAcc.accept
  dsimp only
  split
  · exact h.uncommand ..
  · exact h.replaceCar ..
  · exact .ite (Acc.Spares.recallCar (a := a.putCar _) h _) (h.uncommand ..)
  · exact h

theorem Acc.Spares.answer (n : Nat) (b : AnswerBlock) : (a.answer env n b).Spares := by
  unfold LAcc.answer
  split
  · exact h
  · split
    · exact h
    · refine .ite ?_ h
      cases b.answer with
      | accept => exact h.accept ..
      | defer => exact h.defer ..
      | reject => exact h.fail ..

theorem Acc.Spares.answerTo (n : Nat) (c : Carried) (b : Option AnswerBlock) : (a.answerTo env n c b).Spares := by
  unfold LAcc.answerTo
  split
  · exact h.answer ..
  · exact h

theorem Acc.Spares.missed (car : Nat) : (a.missed env car).Spares := by
  unfold LAcc.missed
  split
  · exact h
  · split
    · exact h
    · exact .ite ((h.defer ..).emit rfl) h

theorem Acc.Spares.retryExpired (car : Nat) : (a.retryExpired car).Spares := by
  unfold LAcc.retryExpired
  split
  · exact h
  · split
    · exact h
    · exact .ite (Acc.Spares.emit (a := a.putCar _) h rfl) h

theorem Acc.Spares.echo (n : Nat) (echo : LandingMask) (clean : Bool) : (a.echo n echo clean).Spares := by
  unfold LAcc.echo
  split
  · exact h
  · exact Acc.Spares.emitIf (a := a.modGroup n _) h rfl

theorem Acc.Spares.makeCar (n place : Nat) : (a.makeCar env n place).Spares := by
  refine .ite ?_ h
  split
  · exact h
  · exact Acc.Spares.emit (a := a.lc _) h rfl

theorem Acc.Spares.parkTest (c : Car) : (a.parkTest env c).Spares := by
  unfold LAcc.parkTest
  split
  · exact .ite (h.replaceCar ..) h
  · exact h

theorem Acc.Spares.inspectionTest (g : Group) (mode : GroupMode) (c : Car) : (a.inspectionTest env g mode c).Spares :=
  .ite (.ite (h.uncommand ..) h) (.ite (.ite (h.recallCar _) (h.uncommand ..)) h)

theorem Acc.Spares.noteLanding (n landing : Nat) : (a.noteLanding env n landing).Spares := by
  refine .ite ?_ h
  split
  · exact h
  · exact .ite (Acc.Spares.retarget (a := a.modGroup n _) h ..) h

theorem Acc.Spares.entry (n : Nat) (e : CarEntry) : (a.entry env n e).Spares := by
  have made := h.makeCar (env := env) n e.place
  unfold LAcc.entry
  dsimp only
  split
  case h_2 => exact made
  case h_1 =>
    have noted (c : Car) : (((a.makeCar env n e.place).putCar c).noteLanding env n e.landing).Spares :=
      Acc.Spares.noteLanding (a := (a.makeCar env n e.place).putCar c) made ..
    split
    · exact noted _
    · split
      · exact ((noted _).parkTest _).inspectionTest ..
      · exact (noted _).parkTest _

theorem Acc.Spares.reviveCar (g : Group) (c : Car) : (a.reviveCar env g c).Spares := by
  refine .ite ?_ h
  split
  · exact h.replaceCar ..
  · exact h.replaceCar ..
  · exact .ite (h.replaceCar ..) (h.releaseCar _)
  · exact .ite (h.recallCar _) (h.releaseCar _)
  · exact h

theorem Acc.Spares.carUp (g : Group) (n : Nat) : (a.carUp env g n).Spares := by
  unfold LAcc.carUp
  split
  · exact h
  · dsimp only
    split
    · exact h.reviveCar ..
    · exact .ite (h.reviveCar ..) (h.reviveCar ..)

theorem Acc.Spares.nodeUp (n : Nat) : (a.nodeUp env n).Spares := by
  unfold LAcc.nodeUp
  dsimp only
  split
  · exact h
  · exact Acc.Spares.foldl (fun b m hb => hb.carUp ..) _ (a := a.modGroup n _) h

theorem Acc.Spares.fireOn (car : Nat) : (a.fireOn env car).Spares := by
  unfold LAcc.fireOn
  split
  · exact h
  · split
    · exact h
    · exact .ite (h.command ..) h

theorem Acc.Spares.fireOff (car : Nat) : (a.fireOff env car).Spares := by
  unfold LAcc.fireOff
  split
  · exact h
  · split
    · exact h
    · exact .ite (h.command ..) (.ite (h.recallCar _) h)

/-- R18: no operation of the Lift Coordinator moves the node count. -/
theorem LiftOp.spares {f : LAcc → LAcc} (hf : LiftOp env f) : (f a).Spares := by
  cases hf with
  | rebuildLockouts => exact h.foldl (fun _ _ hb => hb.recomputeLockout _) _
  | lockoutChange => exact h.lockoutChange _
  | triggers => exact h.foldl (fun _ _ hb => hb.trigger ..) _
  | clearances => exact h.foldl (fun _ _ hb => hb.clearance ..) _
  | recallRequest => exact h.recallRequest _
  | endRecall => exact h.endRecall ..
  | regimeEnded => exact h.foldl (fun _ _ hb => hb.endRecall ..) _
  | reply => exact ((h.echo ..).answerTo ..).foldl (fun _ _ hb => hb.entry ..) _
  | missed => exact h.missed _
  | retryExpired => exact h.retryExpired _
  | fireOn => exact h.fireOn _
  | fireOff => exact h.fireOff _
  | nodeDown => exact h
  | nodeUp => exact h.nodeUp _

end Lift

/-! ## The Door Supervisor (chapter 05) -/

section Doors

variable {env : DEnv} {a : DAcc} (h : a.Spares)
include h

theorem Acc.Spares.put (d : Door) : (a.put d).Spares :=
  .ite (Acc.Spares.emit h rfl) h

theorem Acc.Spares.setDrive (goal : Drive) (d : Door) : (a.setDrive env goal d).Spares :=
  .ite h (((h.put _).emitIf rfl).emitIf rfl)

theorem Acc.Spares.recompute (p : Door → Bool) : (a.recompute env p).Spares := h.foldl (fun _ _ hb => hb.setDrive ..) _

theorem Acc.Spares.testPoint (d : Door) : (a.testPoint env d).Spares :=
  .ite ((((h.put _).emitIf rfl).emitIf rfl).emitIf rfl) h

theorem Acc.Spares.moduleReply (loop : Line) (address : Nat) (sensed : List Sensed) (answered : Bool) :
    (a.moduleReply env loop address sensed answered).Spares := by
  have pointed := Acc.Spares.foldl (a := a.ds (fun x => { x with doors := writeSensed loop address sensed x.doors }))
    (fun _ d hb => hb.testPoint (env := env) d)
    (pointsOf (writeSensed loop address sensed a.st.doors) loop address) h
  exact .ite pointed pointed

theorem Acc.Spares.dwellExpired (index : Nat) : (a.dwellExpired env index).Spares := by
  unfold DAcc.dwellExpired
  split
  · exact h
  · exact .ite (((h.put _).emit rfl).emit rfl) h

theorem Acc.Spares.heldOpenExpired (index : Nat) : (a.heldOpenExpired env index).Spares := by
  unfold DAcc.heldOpenExpired
  split
  · exact h
  · exact .ite (.ite ((h.put _).emit rfl) (h.put _)) h

theorem Acc.Spares.endHeldOpen (d : Door) : (a.endHeldOpen env d).Spares :=
  .ite ((h.put _).emit rfl) (.ite (h.put _) h)

theorem Acc.Spares.moduleDown (loop : Line) (address : Nat) : (a.moduleDown loop address).Spares := by
  unfold DAcc.moduleDown
  exact Acc.Spares.foldl (fun _ _ hb => hb.emit rfl) _ (Acc.Spares.emit h rfl)

theorem Acc.Spares.moduleUp (loop : Line) (address : Nat) : (a.moduleUp loop address).Spares := by
  unfold DAcc.moduleUp
  exact Acc.Spares.foldl (fun _ _ hb => hb.emit rfl) _ (.ite (Acc.Spares.emit h rfl) h)

theorem Acc.Spares.generalEntered : (a.generalEntered env).Spares := by
  unfold DAcc.generalEntered
  exact Acc.Spares.foldl (fun _ _ hb => hb.emit rfl) _
    (Acc.Spares.foldl (fun _ _ hb => hb.setDrive ..) _ ((Acc.Spares.emit h rfl).emit rfl))

/-- R18: no operation of the Door Supervisor moves the node count. -/
theorem DoorOp.spares {f : DAcc → DAcc} (hf : DoorOp env f) : (f a).Spares := by
  cases hf with
  | moduleReply => exact h.moduleReply ..
  | dwellExpired => exact h.dwellExpired _
  | heldOpenExpired => exact h.heldOpenExpired _
  | regimeEntered => exact h.recompute _
  | regimeEnded => exact (h.foldl (fun _ _ hb => hb.endHeldOpen _) _).recompute _
  | floorAdmitted => exact h.recompute _
  | generalEntered => exact h.generalEntered
  | manualChange => exact Acc.Spares.recompute (a := a.ds _) h _
  | moduleDown => exact h.moduleDown ..
  | moduleUp => exact h.moduleUp ..

end Doors

/-! ## The Announcement Router (chapter 06) -/

section Announce

variable {env : AEnv} {a : AAcc} (h : a.Spares)
include h

theorem Acc.Spares.report (cause : AnnCause) (id : Nat) (floors : Option FloorSet) : (a.report cause id floors).Spares := by
  unfold AAcc.report
  split
  · exact Acc.Spares.emit h rfl
  · exact h

theorem Acc.Spares.modChannel (n : Nat) (f : Channel → Channel) : (a.modChannel env n f).Spares := by
  unfold AAcc.modChannel
  split
  · exact h
  · exact Acc.Spares.emitIf h rfl

theorem Acc.Spares.enterWaiting (id : Nat) : (a.enterWaiting id).Spares := by
  rw [Acc.Spares, AAcc.enterWaiting_out]
  exact h

theorem Acc.Spares.gain (id f : Nat) : (a.gain id f).Spares := by
  unfold AAcc.gain
  split
  · exact h
  · have waiting (k : Rec → Rec) := Acc.Spares.enterWaiting (a := a.modRec id k) h id
    exact .ite (.ite (waiting _) ((waiting _).report ..)) h

theorem Acc.Spares.promote (f : Nat) : (a.promote env f).Spares := by
  unfold AAcc.promote
  dsimp only
  split
  · exact h
  · exact Acc.Spares.gain (a := a.setClaims f _) h ..

theorem Acc.Spares.endClaimOfEnded (id f : Nat) : (a.endClaimOfEnded env id f).Spares :=
  .ite (Acc.Spares.promote (a := a.setClaims f _) h _) (.ite h h)

theorem Acc.Spares.flushDisplaced (id : Nat) : (a.flushDisplaced id).Spares := by
  unfold AAcc.flushDisplaced
  split
  · exact h
  · exact h.report ..

theorem Acc.Spares.releaseOf (id : Nat) : (a.releaseOf env id).Spares := by
  unfold AAcc.releaseOf
  split
  · exact h
  · exact h.modChannel ..

theorem Acc.Spares.grant (id n : Nat) : (a.grant env id n).Spares := by
  unfold AAcc.grant
  split
  · exact h
  · exact Acc.Spares.report (a := (((a.modChannel env n _).modRec id _).ar _).touch) (h.modChannel ..) ..

theorem Acc.Spares.endRecord (cause : AnnCause) (id : Nat) : (a.endRecord env cause id).Spares := by
  unfold AAcc.endRecord
  split
  · exact h
  · simp only [Acc.Spares, AAcc.touch_out, AAcc.ar_out, AAcc.ev_out]
    refine Acc.Spares.report (Acc.Spares.releaseOf ?_ id) ..
    refine Acc.Spares.foldl (fun _ _ hb => hb.endClaimOfEnded ..) _ (a := AAcc.modRec id _ _) ?_
    exact h.flushDisplaced id

theorem Acc.Spares.suspend (id : Nat) : (a.suspend id).Spares :=
  Acc.Spares.report (a := (a.modRec id _).ar _) h ..

theorem Acc.Spares.lose (id f : Nat) : (a.lose env id f).Spares := by
  have lost : (a.modRec id (fun r => { r with owned := dropBit r.owned f })).Spares := h
  unfold AAcc.lose
  dsimp only
  split
  · exact lost
  · refine .ite lost ?_
    split
    · split
      · exact lost.suspend id
      · exact .ite (lost.suspend id) (lost.endRecord ..)
    · split
      · exact lost.suspend id
      · exact .ite (lost.suspend id) (lost.endRecord ..)
    · exact lost.endRecord ..
    · exact lost

theorem Acc.Spares.dropClaim (f id : Nat) : (a.dropClaim env f id).Spares := by
  unfold AAcc.dropClaim
  dsimp only
  split
  · exact h
  · exact .ite (Acc.Spares.endRecord (a := (a.modRec id _).ev _) h ..) h

theorem Acc.Spares.claimFloor (id f : Nat) : (a.claimFloor env id f).Spares := by
  have gained (c : Claims) : ((a.setClaims f c).gain id f).Spares := Acc.Spares.gain (a := a.setClaims f c) h ..
  have cut {b : AAcc} (hb : b.Spares) (full : List Nat) : (if Config.stackCap < full.length then
      match full.getLast? with
      | some low => b.dropClaim env f low
      | none => b
    else b).Spares := by
    refine .ite ?_ hb
    split
    · exact hb.dropClaim ..
    · exact hb
  unfold AAcc.claimFloor
  dsimp only
  split
  · exact h
  · split
    · exact gained _
    · split
      · exact gained _
      · refine .ite (cut ?_ _) (cut ?_ _)
        · exact (Acc.Spares.lose (a := a.setClaims f _) h ..).gain ..
        · exact h

theorem Acc.Spares.endClaim (f id : Nat) : (a.endClaim env f id).Spares :=
  .ite ((Acc.Spares.lose (a := a.setClaims f _) h ..).promote _) h

theorem Acc.Spares.testFloor (f : Nat) : (a.testFloor env f).Spares := by
  unfold AAcc.testFloor
  exact Acc.Spares.foldl (fun _ _ hb => hb.claimFloor ..) _ (h.foldl (fun _ _ hb => hb.endClaim ..) _)

theorem Acc.Spares.make (cls : RecClass) (source : RecSource) (message : Option Nat) (repeats : Nat)
    (requested : Option FloorSet) : (a.make env cls source message repeats requested).Spares := by
  unfold AAcc.make
  split
  · exact h
  · refine Acc.Spares.foldl (fun _ _ hb => hb.claimFloor ..) _ (.report ?_ ..)
    exact h

theorem Acc.Spares.yieldChannel (id : Nat) : (a.yieldChannel env id).Spares := ((h.releaseOf id).enterWaiting id).report ..

theorem Acc.Spares.serve (id : Nat) : (a.serve env id).Spares := by
  have granted (n : Nat) := h.grant (env := env) id n
  unfold AAcc.serve
  split
  · exact h
  · dsimp only
    split
    · split
      · exact .ite (granted _) h
      · exact h
    · split
      · exact granted _
      · refine .ite h ?_
        split
        · exact h
        · split
          · exact h
          · exact .ite ((h.endRecord ..).grant ..) ((h.yieldChannel _).grant ..)

omit h in
theorem Acc.Spares.servePass (n : Nat) (met : List Nat) {a : AAcc} (h : a.Spares) : (AAcc.servePass env n met a).Spares := by
  induction n generalizing met a with
  | zero => exact h
  | succ n ih =>
    unfold AAcc.servePass
    split
    · exact h
    · exact ih _ (h.serve _)

theorem Acc.Spares.routeHeld : (a.routeHeld env).Spares := by
  refine h.foldl (fun b r hb => ?_) _
  split
  · exact hb.modChannel ..
  · exact hb

theorem Acc.Spares.settle : (a.settle env).Spares := by
  have released : (a.flushAllDisplaced.releaseIdle env).Spares :=
    Acc.Spares.foldl (fun _ _ hb => hb.releaseOf _) _ (h.foldl (fun _ _ hb => hb.flushDisplaced _) _)
  have routed := (Acc.Spares.servePass (env := env) 64 [] (released.routeHeld (env := env))).routeHeld (env := env)
  refine .ite ?_ routed
  split
  · exact routed.report ..
  · exact routed

theorem Acc.Spares.countPlay (n : Nat) : (a.countPlay env n).Spares := by
  unfold AAcc.countPlay
  split
  · exact h
  · rename_i id _
    have counted : ((a.modRec id (fun r => { r with plays := min 255 (r.plays + 1) })).modChannel env n
        (fun c => { c with playTimer := none })).Spares := Acc.Spares.modChannel (a := a.modRec id _) h ..
    dsimp only
    split
    · exact counted
    · exact .ite (counted.endRecord ..) (.ite (counted.modChannel ..) (counted.endRecord ..))

theorem Acc.Spares.takeMark (nm : Nat × Nat) : (a.takeMark env nm).Spares := by
  unfold AAcc.takeMark
  split
  · exact h
  · exact .ite (Acc.Spares.countPlay (a := a.ar _) h _) h

theorem Acc.Spares.endRecords (cause : AnnCause) (ids : List Nat) :
    (ids.foldl (fun b id => b.endRecord env cause id) a).Spares := h.foldl (fun _ _ hb => hb.endRecord ..) ids

theorem Acc.Spares.regimeEntered : (a.regimeEntered env).Spares := by
  unfold AAcc.regimeEntered
  dsimp only
  split
  · exact (((h.endRecords ..).endRecords ..).make ..).make ..
  · exact ((h.endRecords ..).endRecords ..).make ..

theorem Acc.Spares.regimeEnded : (a.regimeEnded env).Spares := by
  unfold AAcc.regimeEnded
  dsimp only
  split
  · exact ((h.endRecords ..).endRecords ..).make ..
  · exact (h.endRecords ..).endRecords ..

/-- R18: no operation of the Announcement Router moves the node count. -/
theorem AnnOp.spares {f : AAcc → AAcc} (hf : AnnOp env f) : (f a).Spares := by
  cases hf with
  | floorAdmitted => exact h.testFloor _
  | regimeEntered => exact h.regimeEntered
  | regimeEnded => exact h.regimeEnded
  | matrixDown => exact Acc.Spares.emit (a := a.ar _) h rfl
  | matrixUp => exact Acc.Spares.foldl (fun _ _ hb => hb.modChannel ..) _ (a := a.ar _) h
  | takeMarks => exact h.foldl (fun _ _ hb => hb.takeMark _) _
  | overrun =>
    unfold AAcc.overrun
    split
    · exact h
    · split
      · exact (h.report ..).countPlay _
      · exact h
  | makeTenant => exact h.make ..
  | cancelTenant id =>
    unfold AAcc.cancelTenant
    split
    · exact h
    · split
      · exact Acc.Spares.report (a := (a.modRec id _).touch) h ..
      · exact h.endRecord ..
      · exact h.endRecord ..
      · exact h
  | beginLive =>
    unfold AAcc.beginLive
    dsimp only
    split
    · exact (h.endRecord ..).make ..
    · exact h.make ..
  | endLive =>
    unfold AAcc.endLive
    split
    · exact h.endRecord ..
    · exact h
  | settle => exact h.settle

end Announce

/-! ## The changes carried out -/

theorem liftLc_nodes {f : LAcc → LAcc} {s : State} (h : LiftOp s.lenv f) :
    (s.liftLc f).rc.trouble.nodes = s.rc.trouble.nodes := applyEffs_nodes (h.spares (.nil s.lc)) _

theorem liftDs_nodes {f : DAcc → DAcc} {s : State} (h : DoorOp s.denv f) :
    (s.liftDs f).rc.trouble.nodes = s.rc.trouble.nodes := applyEffs_nodes (h.spares (.nil s.ds)) _

theorem liftAr_nodes {f : AAcc → AAcc} {s : State} (h : AnnOp s.aenv f) :
    (s.liftAr f).rc.trouble.nodes = s.rc.trouble.nodes := by
  unfold State.liftAr
  exact applyEffs_nodes (h.spares (.nil ⟨s.ar, s.ev⟩)) _

end Sys2Proof.Machine
end

section
/-!
R103: the state that the latch of a door point requires, the latches of a Door Supervisor that are in it, and the operations of
chapter 05 that keep them so.
-/

namespace Sys2Proof.Machine

/-! ## The required state -/

theorem hasBit_setWhere (w n : Nat) (p : Nat → Bool) (i : Nat) :
    hasBit (setWhere w n p) i = (decide (i < w) && decide (i < n) && p i) := by
  unfold hasBit setWhere
  induction n with
  | zero => simp
  | succ n ih =>
    rw [List.range_succ, List.foldl_append, List.foldl_cons, List.foldl_nil]
    generalize List.foldl _ _ _ = set at ih ⊢
    by_cases hin : n = i
    · subst hin
      cases hp : p n <;> simp [hp, ih]
    · have hlt : i < n + 1 ↔ i < n := by omega
      split <;> simp [ih, hin, hlt]

theorem inManual_iff {manual : List FloorSet} {floor stair : Nat} :
    inManual manual floor stair = true ↔ ∃ set, manual[stair]? = some set ∧ hasBit set floor = true := by
  unfold inManual
  cases manual[stair]? <;> simp

/-- R103: a point requires its normal state where no reason for RELEASE holds. -/
theorem doorReasons_eq_zero {env : DEnv} {manual : List FloorSet} {d : Door} : doorReasons env manual d = 0 ↔
    env.level ≠ .general ∧ ¬(env.level = .phased ∧ ∃ fl, env.floors[d.floor]? = some fl ∧ fl.reEntry = true) ∧
      (¬∃ fl, env.floors[d.floor]? = some fl ∧ fl.state = .evac) ∧ inManual manual d.floor d.stair = false := by
  have hbits (p : Nat → Bool) : setWhere 4 4 p = 0 ↔ p 0 = false ∧ p 1 = false ∧ p 2 = false ∧ p 3 = false := by
    refine ⟨fun h => ?_, fun ⟨h0, h1, h2, h3⟩ => BitVec.eq_of_getLsbD_eq fun i hi => ?_⟩
    · have bit (i : Nat) (hi : i < 4) : p i = false := by
        have := hasBit_setWhere 4 4 p i
        rw [h] at this
        simpa [hasBit, hi] using this.symm
      exact ⟨bit 0 (by decide), bit 1 (by decide), bit 2 (by decide), bit 3 (by decide)⟩
    · have hp : p i = false := by
        obtain rfl | rfl | rfl | rfl : i = 0 ∨ i = 1 ∨ i = 2 ∨ i = 3 := by omega
        all_goals assumption
      have := hasBit_setWhere 4 4 p i
      simpa [hasBit, hp] using this
  unfold doorReasons
  rw [hbits]
  cases env.floors[d.floor]? <;> simp

/-- R103: the required state is RELEASE where a reason holds or the point is normally FREE. -/
theorem requiredDrive_eq_release {env : DEnv} {manual : List FloorSet} {d : Door} :
    requiredDrive env manual d = .release ↔ env.level = .general ∨
      (env.level = .phased ∧ ∃ fl, env.floors[d.floor]? = some fl ∧ fl.reEntry = true) ∨
      (∃ fl, env.floors[d.floor]? = some fl ∧ fl.state = .evac) ∨
      (∃ set, manual[d.stair]? = some set ∧ hasBit set d.floor = true) ∨ d.normal = .free := by
  have hnormal : normalDrive d.normal = .release ↔ d.normal = .free := by cases d.normal <;> simp [normalDrive]
  rw [← inManual_iff]
  unfold requiredDrive
  split
  · rename_i h
    obtain ⟨hgeneral, hphased, hevac, hmanual⟩ := doorReasons_eq_zero.mp h
    simp only [hnormal, hgeneral, hphased, hevac, hmanual, false_or, Bool.false_eq_true]
  · rename_i h
    rw [doorReasons_eq_zero] at h
    refine iff_of_true rfl ?_
    by_contra hnone
    simp only [not_or] at hnone
    exact h ⟨hnone.1, hnone.2.1, hnone.2.2.1, by simpa using hnone.2.2.2.1⟩

/-- R103: what a point reads of its floor. -/
def Floor.opens (fl : Floor) : Bool × FloorState := (fl.reEntry, fl.state)

theorem requiredDrive_env {env env' : DEnv} {manual : List FloorSet} {d : Door} (hlevel : env'.level = env.level)
    (hfloor : env'.floors[d.floor]?.map Floor.opens = env.floors[d.floor]?.map Floor.opens) :
    requiredDrive env' manual d = requiredDrive env manual d := by
  have hre : env'.floors[d.floor]?.map (·.reEntry) = env.floors[d.floor]?.map (·.reEntry) := by
    simpa [Floor.opens, Function.comp_def] using congrArg (Option.map Prod.fst) hfloor
  have hstate : env'.floors[d.floor]?.map (·.state) = env.floors[d.floor]?.map (·.state) := by
    simpa [Floor.opens, Function.comp_def] using congrArg (Option.map Prod.snd) hfloor
  have hreasons : doorReasons env' manual d = doorReasons env manual d := by
    unfold doorReasons
    dsimp only
    rw [hlevel, hre, hstate]
  unfold requiredDrive
  rw [hreasons]

theorem requiredDrive_latch {env : DEnv} {manual : List FloorSet} {d e : Door} (h : e.latch = d.latch) :
    requiredDrive env manual e = requiredDrive env manual d := by
  simp only [Door.latch, Prod.mk.injEq] at h
  obtain ⟨-, hfloor, hstair, hnormal, -⟩ := h
  unfold requiredDrive doorReasons
  rw [hfloor, hstair, hnormal]

/-- R114: of the manual release set a point reads its own pair. -/
theorem requiredDrive_manual {env : DEnv} {manual manual' : List FloorSet} {d : Door}
    (h : inManual manual' d.floor d.stair = inManual manual d.floor d.stair) :
    requiredDrive env manual' d = requiredDrive env manual d := by
  unfold requiredDrive doorReasons
  rw [h]

/-! ## Latches in the required state -/

/-- R103: the indices are distinct and every latch is in the state that its point requires. -/
structure DS.Latched (env : DEnv) (x : DS) : Prop where
  indices : (x.doors.map (·.index)).Nodup
  required : ∀ d ∈ x.doors, d.drive = requiredDrive env x.manual d

theorem DS.Latched.of_env {env env' : DEnv} {x : DS} (h : x.Latched env) (hlevel : env'.level = env.level)
    (hfloors : env'.floors.map Floor.opens = env.floors.map Floor.opens) : x.Latched env' := by
  refine ⟨h.indices, fun d hd => (h.required d hd).trans (requiredDrive_env hlevel ?_).symm⟩
  rw [← List.getElem?_map, ← List.getElem?_map, hfloors]

theorem DS.Latched.of_sameLatches {env : DEnv} {x y : DS} (h : x.Latched env) (hsame : x.SameLatches y) : y.Latched env := by
  refine ⟨hsame.indices ▸ h.indices, fun e he => ?_⟩
  obtain ⟨d, hd, hlatch⟩ := List.mem_map.mp (hsame.doors ▸ List.mem_map_of_mem (f := Door.latch) he)
  have hdrive : e.drive = d.drive := congrArg (fun l => l.2.2.2.2) hlatch.symm
  rw [hsame.manual, requiredDrive_latch hlatch.symm, hdrive]
  exact h.required d hd

theorem Repointed.latched {env : DEnv} {x y : DS} {g : Door → Door} (h : Repointed x g y)
    (hnd : (x.doors.map (·.index)).Nodup)
    (hg : ∀ d ∈ x.doors, (g d).config = d.config ∧ (g d).drive = requiredDrive env x.manual d) : y.Latched env := by
  obtain ⟨hmanual, -, -⟩ := DS.settings_eq h.settings
  constructor
  · have hsame : x.doors.map ((·.index) ∘ g) = x.doors.map (·.index) :=
      List.map_congr_left fun d hd => Door.index_eq (hg d hd).1
    rwa [h.doors, List.map_map, hsame]
  · intro e he
    rw [h.doors] at he
    obtain ⟨d, hd, rfl⟩ := List.mem_map.mp he
    rw [hmanual, requiredDrive_config (hg d hd).1]
    exact (hg d hd).2

/-! ## The operations of chapter 05 -/

section Operations

variable {env : DEnv} {a : DAcc}

/-- R104: points recomputed, where the others are in their required state, leave every latch in it. -/
theorem DAcc.recompute_latched {p : Door → Bool} (hnd : (a.st.doors.map (·.index)).Nodup)
    (h : ∀ d ∈ a.st.doors, p d = false → d.drive = requiredDrive env a.st.manual d) :
    (a.recompute env p).st.Latched env := by
  refine (DAcc.recompute_repointed hnd p).latched hnd fun d hd => ?_
  cases hp : p d with
  | false => simpa using h d hd hp
  | true => simpa [recomputed] using (driven_leaves ..).1

/-- R104, R110: regime entry sets every latch afresh. -/
theorem DAcc.regimeEntered_latched (hnd : (a.st.doors.map (·.index)).Nodup) : (a.regimeEntered env).st.Latched env := by
  refine (DAcc.recompute_latched (p := fun _ => true) hnd fun _ _ h => nomatch h).of_sameLatches (DAcc.modDoors_sameLatches ?_ _)
  exact fun _ => rfl

/-- R104, R112: reset completion sets every latch afresh. -/
theorem DAcc.regimeEnded_latched (hnd : (a.st.doors.map (·.index)).Nodup) : (a.regimeEnded env).st.Latched env := by
  refine DAcc.recompute_latched ?_ fun _ _ h => nomatch h
  rw [DAcc.foldl_indexed (DAcc.endHeldOpen_indexed env) _ a]
  exact hnd

/-- R104: an admission sets the latches of its floor, where those of the other floors are in their required state. -/
theorem DAcc.floorAdmitted_latched {f : Nat} (hnd : (a.st.doors.map (·.index)).Nodup)
    (h : ∀ d ∈ a.st.doors, d.floor ≠ f → d.drive = requiredDrive env a.st.manual d) :
    (a.floorAdmitted env f).st.Latched env :=
  DAcc.recompute_latched hnd fun d hd hf => h d hd (of_decide_eq_false hf)

/-- R113: in GENERAL every latch requires RELEASE. -/
theorem DAcc.generalEntered_latched (hlevel : env.level = .general) (hnd : (a.st.doors.map (·.index)).Nodup) :
    (a.generalEntered env).st.Latched env :=
  (DAcc.generalEntered_repointed hnd).latched hnd fun d _ =>
    ⟨(driven_leaves ..).1, by rw [driven_drive, requiredDrive_eq_release.mpr (.inl hlevel)]⟩

theorem DAcc.moduleReply_latched (h : a.st.Latched env) (loop : Line) (address : Nat) (sensed : List Sensed)
    (answered : Bool) : (a.moduleReply env loop address sensed answered).st.Latched env :=
  h.of_sameLatches (DAcc.moduleReply_keeps h.indices ..).1

theorem DAcc.dwellExpired_latched (h : a.st.Latched env) (index : Nat) : (a.dwellExpired env index).st.Latched env :=
  h.of_sameLatches (DAcc.dwellExpired_keeps h.indices _).1

theorem DAcc.heldOpenExpired_latched (h : a.st.Latched env) (index : Nat) :
    (a.heldOpenExpired env index).st.Latched env := h.of_sameLatches (DAcc.heldOpenExpired_keeps h.indices _).1

theorem DAcc.moduleDown_latched (h : a.st.Latched env) (loop : Line) (address : Nat) :
    (a.moduleDown loop address).st.Latched env := h.of_sameLatches (DAcc.moduleDown_keeps ..).1

theorem DAcc.moduleUp_latched (h : a.st.Latched env) (loop : Line) (address : Nat) :
    (a.moduleUp loop address).st.Latched env := h.of_sameLatches (DAcc.moduleUp_keeps ..).1

/-- R114: a change of the manual release set sets the latches of the pairs that changed. -/
theorem DAcc.manualChange_latched (h : a.st.Latched env) (add : Bool) (floors : FloorSet) (stairs : QuadSet) :
    (a.manualChange env add floors stairs).st.Latched env := by
  refine DAcc.recompute_latched (a := a.ds _) h.indices fun d hd hp => ?_
  have hpair : inManual a.st.manual d.floor d.stair =
      inManual (changeManual add floors stairs a.st.manual) d.floor d.stair := by simpa [DAcc.ds] using hp
  exact (h.required d hd).trans (requiredDrive_manual hpair.symm).symm

end Operations

end Sys2Proof.Machine
end

section
/-!
R103, R104: an operation of an event with its responses. It leaves every latch in the state that its point requires where it found
them so, and it does not move the node count. One lemma per operation that a reply or a command can bring about, from the
effects of a block up to the delivery of a reply.
-/

namespace Sys2Proof.Machine

/-! ## The relation -/

/-- R103: the indices of the points are distinct and every latch is in the state that its point requires. -/
def State.Latched (s : State) : Prop := s.ds.Latched s.denv

theorem latched_iff (s : State) : s.Latched ↔ (s.ds.doors.map (·.index)).Nodup ∧ s.LatchesRequired := by
  have agree (d e : Drive) : d = e ↔ (d = .release ↔ e = .release) := by cases d <;> cases e <;> decide
  have required (d : Door) : d.drive = requiredDrive s.denv s.ds.manual d ↔ (d.drive = .release ↔
      s.rc.level = .general ∨ (s.rc.level = .phased ∧ ∃ fl, s.rc.floors[d.floor]? = some fl ∧ fl.reEntry = true) ∨
        (∃ fl, s.rc.floors[d.floor]? = some fl ∧ fl.state = .evac) ∨
        (∃ set, s.ds.manual[d.stair]? = some set ∧ hasBit set d.floor = true) ∨ d.normal = .free) := by
    rw [agree, requiredDrive_eq_release]
    rfl
  exact ⟨fun h => ⟨h.indices, fun d hd => (required d).mp (h.required d hd)⟩,
    fun h => ⟨h.1, fun d hd => (required d).mpr (h.2 d hd)⟩⟩

/-- R103, R18: the latches stay in their required states, and the node count stays. -/
structure Responds (s t : State) : Prop where
  latched : s.Latched → t.Latched
  nodes : t.rc.trouble.nodes = s.rc.trouble.nodes

theorem Responds.refl {s : State} : Responds s s := ⟨id, rfl⟩

theorem Responds.trans {a b c : State} (h : Responds a b) (k : Responds b c) : Responds a c :=
  ⟨k.latched ∘ h.latched, k.nodes.trans h.nodes⟩

theorem Responds.ite {c : Prop} [Decidable c] {s a b : State} (h : Responds s a) (k : Responds s b) :
    Responds s (if c then a else b) := by
  split
  · exact h
  · exact k

theorem Responds.foldl {α : Type} {op : State → α → State} (h : ∀ s a, Responds s (op s a)) (l : List α) (s : State) :
    Responds s (l.foldl op s) := foldl_keeps (P := Responds s) (fun b a hb => hb.trans (h b a)) l s .refl

/-- What the latches follow is the level, and of the floors their states and re-entry flags. -/
theorem State.Latched.of_opens {s t : State} (h : s.Latched) (hds : t.ds = s.ds) (hlevel : t.rc.level = s.rc.level)
    (hfloors : t.rc.floors.map Floor.opens = s.rc.floors.map Floor.opens) : t.Latched := by
  rw [State.Latched, hds]
  exact DS.Latched.of_env h hlevel hfloors

/-- A change that leaves the points, the level, the floors and the node count. -/
theorem Responds.of_opens {s t : State} (hds : t.ds = s.ds) (hlevel : t.rc.level = s.rc.level)
    (hfloors : t.rc.floors.map Floor.opens = s.rc.floors.map Floor.opens)
    (hnodes : t.rc.trouble.nodes = s.rc.trouble.nodes) : Responds s t :=
  ⟨fun h => h.of_opens hds hlevel hfloors, hnodes⟩

/-- A change that leaves the points and the Regime Core. -/
theorem Responds.of_eq {s t : State} (hds : t.ds = s.ds) (hrc : t.rc = s.rc) : Responds s t :=
  .of_opens hds (by rw [hrc]) (by rw [hrc]) (by rw [hrc])

/-! ## The shared operations -/

theorem modFlc_responds (f : FLC → FLC) (s : State) : Responds s (s.modFlc f) := .of_eq rfl rfl

theorem modZe_responds (f : ZE → ZE) (s : State) : Responds s (s.modZe f) := .of_eq rfl rfl

theorem modEs_responds (f : ES → ES) (s : State) : Responds s (s.modEs f) := .of_eq rfl rfl

theorem modCs_responds (f : CS → CS) (s : State) : Responds s (s.modCs f) := .of_eq rfl rfl

theorem modFloor_opens {f : Nat} {g : Floor → Floor} (hg : ∀ fl, (g fl).opens = fl.opens) (r : RC) :
    (r.modFloor f g).floors.map Floor.opens = r.floors.map Floor.opens := by
  refine List.ext_getElem? fun i => ?_
  simp only [RC.modFloor, List.getElem?_map, List.getElem?_modify]
  cases r.floors[i]? with
  | none => rfl
  | some fl => by_cases hi : f = i <;> simp [hi, hg]

theorem modFloor_responds {f : Nat} {g : Floor → Floor} (hg : ∀ fl, (g fl).opens = fl.opens) (s : State) :
    Responds s (s.modRc (fun r => r.modFloor f g)) := .of_opens rfl rfl (modFloor_opens hg s.rc) rfl

theorem setPending_responds (b : Bool) (s : State) : Responds s (s.modRc (fun r => { r with resetPending := b })) :=
  .of_opens rfl rfl rfl rfl

theorem offer_responds (cls : Cls) (body : Body) (s : State) : Responds s (offer cls body s) := .of_eq (by simp) (by simp)

/-- R18: a rise or fall of another source than the nodes. -/
theorem troubleMove_responds {src : Source} (hsrc : src ≠ .nodes) (rise : Bool) (s : State) :
    Responds s (troubleMove src rise s) := by
  refine .of_opens (by simp) (by simp) (by simp) ?_
  rw [troubleMove_trouble]
  cases src with
  | nodes => exact absurd rfl hsrc
  | _ => rfl

theorem liftLc_responds {f : LAcc → LAcc} {s : State} (h : LiftOp s.lenv f) : Responds s (s.liftLc f) :=
  .of_opens (by simp) (by simp) (by simp) (liftLc_nodes h)

theorem liftAr_responds {f : AAcc → AAcc} {s : State} (h : AnnOp s.aenv f) : Responds s (s.liftAr f) :=
  .of_opens (by simp) (by simp) (by simp) (liftAr_nodes h)

theorem liftDs_latched {f : DAcc → DAcc} {s : State} (h : (f ⟨s.ds, []⟩).st.Latched s.denv) : (s.liftDs f).Latched := by
  unfold State.Latched State.denv
  rw [liftDs_ds, liftDs_rc_level, liftDs_rc_floors]
  exact h

theorem liftDs_responds {f : DAcc → DAcc} {s : State} (h : DoorOp s.denv f)
    (hf : s.ds.Latched s.denv → (f ⟨s.ds, []⟩).st.Latched s.denv) : Responds s (s.liftDs f) :=
  ⟨fun hs => liftDs_latched (hf hs), liftDs_nodes h⟩

/-! ## Admissions and the Egress Scheduler (R6, chapter 03) -/

theorem reportFloor_responds (cls : Cls) (cause : FloorCause) (f : Nat) (s : State) :
    Responds s (reportFloor cls cause f s) := by
  unfold reportFloor
  split
  · exact offer_responds ..
  · exact .refl

theorem reportStair_responds (cause : StairCause) (i : Nat) (floor : Option (Nat × Label)) (s : State) :
    Responds s (reportStair cause i floor s) := by
  unfold reportStair
  split
  · exact offer_responds ..
  · exact .refl

/-- R104: a floor admitted, and the latches of its points set afresh. -/
theorem floorAdmitted_latched {f : Nat} {g : Floor → Floor} {s u : State} (hs : s.Latched) (hds : u.ds = s.ds)
    (hrc : u.rc = s.rc.modFloor f g) : (u.liftDs (DAcc.floorAdmitted u.denv f)).Latched := by
  refine liftDs_latched (DAcc.floorAdmitted_latched (hds ▸ hs.indices) fun d hd hf => ?_)
  rw [hds] at hd ⊢
  refine (hs.required d hd).trans (requiredDrive_env ?_ ?_).symm
  · have hlevel : u.rc.level = s.rc.level := by rw [hrc]; rfl
    exact hlevel
  · have hfloor : u.rc.floors[d.floor]? = s.rc.floors[d.floor]? := by simp [hrc, RC.modFloor, hf.symm]
    exact congrArg _ hfloor

@[simp] theorem reportFloor_ds (cls : Cls) (cause : FloorCause) (f : Nat) (s : State) :
    (reportFloor cls cause f s).ds = s.ds := by
  unfold reportFloor
  split <;> simp

theorem admitFloor_responds (kind : AdmKind) (shares : Option (List (Nat × Nat))) (told : Bool) (f : Nat) (s : State) :
    Responds s (admitFloor kind shares told f s) := by
  refine .ite (Responds.trans ?_ (liftAr_responds (.floorAdmitted f))) .refl
  refine ⟨fun hs => ?_, ?_⟩
  · exact floorAdmitted_latched (g := admittedFloor kind shares s.rc.secondCount) hs (by split <;> simp) (by split <;> simp)
  · rw [liftDs_nodes (.floorAdmitted f)]
    split <;> simp [RC.modFloor]

theorem addShare_responds (s : State) (e : Nat × Nat) : Responds s (addShare s e) := by
  unfold addShare
  split
  · exact .refl
  · rename_i st _
    have added := modEs_responds (ES.modStair e.1 (loadedStair e.2)) s
    have told := Responds.ite (c := (loadedStair e.2 st).cond = st.cond) added
      (added.trans (reportStair_responds .congested e.1 none _))
    exact .ite .refl (.ite told (told.trans (reportStair_responds ..)))

theorem admitStep_responds (kind : AdmKind) (f : Nat) (s : State) : Responds s (admitStep kind f s) := by
  have off : Responds s (s.modEs (fun x => { x with waiting := x.waiting.erase f })) := modEs_responds _ s
  unfold admitStep
  split
  · exact off
  · refine .ite ?_ off
    dsimp only
    split
    · exact (off.trans (admitFloor_responds ..)).trans (reportStair_responds ..)
    · exact (off.trans (admitFloor_responds ..)).trans (Responds.foldl addShare_responds _ _)

theorem restartAdvance_responds (s : State) : Responds s (restartAdvance s) := modEs_responds _ s

theorem stopAdvance_responds (s : State) : Responds s (stopAdvance s) := modEs_responds _ s

theorem attemptRounds_responds (n : Nat) (s : State) : Responds s (attemptRounds n s) := by
  induction n generalizing s with
  | zero => exact .refl
  | succ n ih =>
    have round (f : Nat) : Responds s (attemptRounds n (restartAdvance (admitStep .ordered f s))) :=
      ((admitStep_responds ..).trans (restartAdvance_responds _)).trans (ih _)
    unfold attemptRounds
    split
    · exact .refl
    · split
      · exact round _
      · exact .ite .refl (round _)

theorem attempt_responds (s : State) : Responds s (attempt s) := attemptRounds_responds _ s

theorem regimeStart_responds (o : Nat) (s : State) : Responds s (regimeStart o s) := by
  have built : Responds s (s.modEs (fun x => { x with waiting := buildList o s })) := modEs_responds _ s
  exact .trans (.ite (built.trans (admitStep_responds ..)) built) ((restartAdvance_responds _).trans (attempt_responds _))

theorem newOrigin_responds (o : Nat) (s : State) : Responds s (newOrigin o s) := by
  have promoted : Responds s ((if s.es.waiting.contains o then admitStep .origin o s else s).modEs
      (fun x => { x with waiting := promoteNeighbours o x.waiting })) :=
    .trans (.ite (admitStep_responds ..) .refl) (modEs_responds _ _)
  exact .ite promoted (promoted.trans (attempt_responds _))

theorem evacuateFloor_responds (s : State) (f : Nat) : Responds s (evacuateFloor s f) :=
  .ite (admitStep_responds ..) (.ite (admitFloor_responds ..) .refl)

theorem evacuateSpan_responds (floors : List Nat) (s : State) : Responds s (evacuateSpan floors s) := by
  have span := Responds.foldl evacuateFloor_responds floors s
  unfold evacuateSpan
  dsimp only
  exact .ite (.trans (.ite (span.trans (restartAdvance_responds _)) span) (attempt_responds _))
    (.ite (span.trans (restartAdvance_responds _)) span)

theorem drainExpired_responds (i : Nat) (s : State) : Responds s (drainExpired i s) := by
  unfold drainExpired
  split
  · exact .refl
  · have drained := modEs_responds (ES.modStair i (fun x => reopenedStair (drainedStair x))) s
    exact .ite (.ite drained (drained.trans ((reportStair_responds ..).trans (attempt_responds _)))) .refl

theorem advanceExpired_responds (s : State) : Responds s (advanceExpired s) := by
  refine .ite ?_ .refl
  split
  · exact stopAdvance_responds s
  · exact ((admitStep_responds ..).trans (restartAdvance_responds _)).trans (attempt_responds _)

theorem compromise_responds (i : Nat) (s : State) : Responds s (compromise i s) := by
  have marked := modEs_responds (ES.modStair i (fun x => { x with compromised := true })) s
  unfold compromise
  split
  · exact .refl
  · exact .ite .refl ((marked.trans (reportStair_responds ..)).trans (attempt_responds _))

theorem bulkAdmission_responds (s : State) : Responds s (bulkAdmission s) :=
  (Responds.foldl (op := fun b f => admitStep .general f b) (fun b f => admitStep_responds .general f b) _ s).trans
    (stopAdvance_responds _)


/-! ## The Regime Core (chapter 01) -/

/-! The level that changes, and the latches that the Door Supervisor's response sets afresh. -/

theorem changeLevel_nodes (new : Level) (cause : RegimeCause) (s : State) :
    (changeLevel new cause s).rc.trouble.nodes = s.rc.trouble.nodes := by simp

@[simp] theorem changeLevel_ds (new : Level) (cause : RegimeCause) (s : State) : (changeLevel new cause s).ds = s.ds := by
  simp [changeLevel]

theorem abortSession_responds (s : State) : Responds s (abortSession s) :=
  .ite ((modCs_responds _ s).trans (offer_responds ..)) .refl

theorem enterRegime_responds (level : Level) (cause : RegimeCause) (s : State) :
    Responds s (enterRegime level cause s) := by
  refine Responds.trans ?_ ((liftLc_responds .rebuildLockouts).trans (abortSession_responds _))
  refine ⟨fun hs => liftDs_latched (DAcc.regimeEntered_latched ?_), ?_⟩
  · simpa using hs.indices
  · rw [liftDs_nodes .regimeEntered, liftAr_nodes .regimeEntered]
    simp [RC.eachFloor]

theorem admitQuietly_responds (kind : AdmKind) (floors : List Nat) (s : State) :
    Responds s (admitQuietly kind floors s) :=
  Responds.foldl (fun b f => admitFloor_responds kind none false f b) _ s

theorem enterPhased_responds (origin : Nat) (s : State) : Responds s (enterPhased origin s) :=
  (enterRegime_responds ..).trans ((admitQuietly_responds ..).trans (regimeStart_responds ..))

/-- R11 steps 1 to 3. -/
def generalRecalled (s : State) : State := (generalAdmitted s).liftLc (recallAll (generalAdmitted s).lenv)

theorem generalSteps_eq_liftDs (s : State) :
    generalSteps s = (generalRecalled s).liftDs (DAcc.generalEntered (generalRecalled s).denv) := rfl

theorem generalRecalled_responds (s : State) : Responds s (generalRecalled s) :=
  ((bulkAdmission_responds s).trans (admitQuietly_responds ..)).trans (liftLc_responds (.triggers .general none groupNumbers))

theorem generalSteps_nodes (s : State) : (generalSteps s).rc.trouble.nodes = s.rc.trouble.nodes := by
  rw [generalSteps_eq_liftDs, liftDs_nodes .generalEntered]
  exact (generalRecalled_responds s).nodes

/-- R11, R113: GENERAL opens every latch, and in GENERAL every latch requires RELEASE. -/
theorem generalSteps_latched {s : State} (hlevel : s.rc.level = .general) (hnd : (s.ds.doors.map (·.index)).Nodup) :
    (generalSteps s).Latched := by
  have admits := generalAdmitted_admits s
  rw [generalSteps_eq_liftDs]
  refine liftDs_latched (DAcc.generalEntered_latched ?_ ?_)
  · exact (liftLc_rc_level ..).trans (admits.level.trans hlevel)
  · rw [generalRecalled, liftLc_ds, admits.doors]
    exact hnd

theorem enterGeneral_responds (cause : RegimeCause) (s : State) : Responds s (enterGeneral cause s) := by
  unfold enterGeneral
  split
  · exact .refl
  · refine ⟨fun hs => generalSteps_latched (by simp) ?_, (generalSteps_nodes _).trans (changeLevel_nodes ..)⟩
    simpa using hs.indices
  · have entered := enterRegime_responds .general cause s
    exact ⟨fun hs => generalSteps_latched (enterRegime_rc ..).1 (entered.latched hs).indices,
      (generalSteps_nodes _).trans entered.nodes⟩

theorem recordOrigin_responds (o : Nat) (s : State) : Responds s (recordOrigin o s) :=
  .ite (.of_opens rfl rfl (modFloor_opens (g := fun fl => { fl with origin := true }) (fun _ => rfl) s.rc) rfl) .refl

theorem originAt_responds (o : Nat) (s : State) : Responds s (originAt o s) := by
  have entry : Responds s (match (recordOrigin o s).rc.level with
      | .normal => enterPhased o (recordOrigin o s)
      | .phased => if takesOrigin s.rc.origins o then newOrigin o (recordOrigin o s) else recordOrigin o s
      | .general => recordOrigin o s) := by
    refine (recordOrigin_responds o s).trans ?_
    split
    · exact enterPhased_responds ..
    · exact .ite (newOrigin_responds ..) .refl
    · exact .refl
  exact .ite (entry.trans (enterGeneral_responds ..)) entry

theorem recallByZone_responds (z : Zone) (s : State) : Responds s (recallByZone z s) :=
  liftLc_responds (.triggers _ _ (fun _ => members z.groups))

theorem confirmation_responds (z : Zone) (s : State) : Responds s (confirmation z s) := by
  refine .ite ((recordOrigin_responds 0 s).trans (enterGeneral_responds ..)) ?_
  cases z.kind with
  | smoke | heat | manualCall | sprinklerFlow => exact originAt_responds ..
  | liftLobby | hoistway | machineRoom => exact (originAt_responds ..).trans (recallByZone_responds z _)
  | stairSmoke =>
    cases z.stair with
    | none => exact originAt_responds ..
    | some i => exact (compromise_responds ..).trans (originAt_responds ..)
  | generalKey => exact enterGeneral_responds ..
  | recallKey => exact recallByZone_responds z s

theorem clearance_responds (z : Zone) (s : State) : Responds s (clearance z s) :=
  .ite .refl (liftLc_responds (.clearances ..))

theorem moveAlarmCount_responds (change : Nat → Nat) (f : Nat) (s : State) :
    Responds s (moveAlarmCount change f s) := by
  unfold moveAlarmCount
  split
  · exact .refl
  · rename_i fl _
    have moved : Responds s (s.modRc (fun r => r.modFloor f (fun x =>
        { x with alarmCount := change fl.alarmCount, lockout := decide (0 < change fl.alarmCount) }))) :=
      modFloor_responds (by exact fun _ => rfl) s
    exact .ite moved ((moved.trans (liftLc_responds (.lockoutChange f))).trans (reportFloor_responds ..))

theorem reportRegime_responds (cause : RegimeCause) (s : State) : Responds s (reportRegime cause s) := offer_responds ..

theorem abandonReset_responds (s : State) : Responds s (abandonReset s) :=
  .ite (((setPending_responds false s).trans (modZe_responds ..)).trans (reportRegime_responds ..)) .refl

/-- R17, R104: the level and the floors fall back, and the latches are set afresh. -/
theorem completeReset_responds (s : State) : Responds s (completeReset s) := by
  refine Responds.trans ?_ (liftAr_responds .regimeEnded)
  refine ⟨fun hs => liftDs_latched (DAcc.regimeEnded_latched ?_), ?_⟩
  · simpa [clearEgress] using hs.indices
  · rw [liftDs_nodes .regimeEnded, liftLc_nodes .regimeEnded]
    simp [clearEgress, RC.eachFloor]

theorem testCompletion_responds (s : State) : Responds s (testCompletion s) := .ite (completeReset_responds s) .refl

theorem riseNotice_responds (f : Nat) (s : State) : Responds s (riseNotice f s) :=
  ((abandonReset_responds s).trans (moveAlarmCount_responds ..)).trans (abortSession_responds _)

theorem fallNotice_responds (f : Nat) (s : State) : Responds s (fallNotice f s) :=
  (moveAlarmCount_responds ..).trans (testCompletion_responds _)

/-! ## The Zone Engine (chapter 02) -/

/-- R154: an action offered for a panel node. -/
theorem queueAction_responds (link : Line) (a : Action) (s : State) : Responds s (queueAction link a s) := by
  unfold queueAction
  split
  · exact modFlc_responds _ s
  · exact .refl

theorem offerReset_responds (z : Zone) (s : State) : Responds s (offerReset z s) :=
  .ite (queueAction_responds ..) .refl

theorem offerSnapshot_responds (link : Line) (s : State) : Responds s (offerSnapshot link s) :=
  (queueAction_responds ..).trans (modZe_responds _ _)

theorem zoneTrouble_responds (old new : Zone) (s : State) : Responds s (zoneTrouble old new s) :=
  .ite .refl (troubleMove_responds (by decide) _ _)

theorem zoneNotices_responds (old new : Zone) (s : State) : Responds s (zoneNotices old new s) := by
  unfold zoneNotices
  split
  · exact .refl
  · exact .refl
  · exact riseNotice_responds ..
  · exact confirmation_responds ..
  · exact (riseNotice_responds ..).trans (confirmation_responds ..)
  · exact (clearance_responds ..).trans (fallNotice_responds ..)
  · exact fallNotice_responds ..
  · exact .refl

theorem changeZone_responds (cls : Cls) (cause : ZoneCause) (old new : Zone) (s : State) :
    Responds s (changeZone cls cause old new s) :=
  ((modZe_responds _ s).trans (offer_responds ..)).trans ((zoneNotices_responds ..).trans (zoneTrouble_responds ..))

theorem corroborateZone_responds (s : State) (z : Zone) : Responds s (corroborateZone s z) := by
  unfold corroborateZone
  split
  · exact .ite (changeZone_responds ..) .refl
  · exact .refl

theorem corroborate_responds (z : Zone) (s : State) : Responds s (corroborate z s) :=
  (changeZone_responds ..).trans (Responds.foldl corroborateZone_responds _ _)

theorem takeAlarm_responds (z : Zone) (s : State) : Responds s (takeAlarm z s) := by
  have fresh : Responds s (if corroborated s.ze.zones z then corroborate z s else if z.verify then startWindow z s
      else changeZone .alarm .arrival z z.confirm s) :=
    .ite (corroborate_responds ..) (.ite ((changeZone_responds ..).trans (offerReset_responds ..)) (changeZone_responds ..))
  unfold takeAlarm
  cases z.state with
  | normal | unknown | trouble => exact fresh
  | verifying => exact .ite (changeZone_responds ..) .refl
  | confirmed | disabled => exact .refl

theorem takeNormal_responds (z : Zone) (s : State) : Responds s (takeNormal z s) := by
  unfold takeNormal
  cases z.state with
  | unknown | trouble => exact changeZone_responds ..
  | verifying => exact modZe_responds _ s
  | confirmed => exact .ite (changeZone_responds ..) .refl
  | normal | disabled => exact .refl

theorem takeFault_responds (cause : ZoneCause) (z : Zone) (s : State) : Responds s (takeFault cause z s) := by
  unfold takeFault
  cases z.state with
  | normal | unknown => exact changeZone_responds ..
  | trouble | verifying | confirmed | disabled => exact .refl

theorem takeInput_responds (cause : ZoneCause) (input : Input) (z : Zone) (s : State) :
    Responds s (takeInput cause input z s) := by
  refine (modZe_responds (ZE.putZone { z with lastInput := some input }) s).trans ?_
  cases input with
  | alarm => exact takeAlarm_responds ..
  | normal => exact takeNormal_responds ..
  | fault => exact takeFault_responds ..

theorem confirmWithoutRecord_responds (link : Line) (number : Nat) (s : State) :
    Responds s (confirmWithoutRecord link number s) := by
  unfold confirmWithoutRecord
  exact .trans (offer_responds ..) (confirmation_responds ..)

theorem arrive_responds (listed : Bool) (cause : ZoneCause) (link : Line) (number : Nat) (input : Input) (s : State) :
    Responds s (arrive listed cause link number input s) := by
  unfold arrive
  split
  · exact .ite .refl (takeInput_responds ..)
  · refine .ite (.ite ?_ (.ite (confirmWithoutRecord_responds ..) .refl)) .refl
    exact ((modZe_responds _ s).trans (troubleMove_responds (by decide) _ _)).trans (takeInput_responds ..)

theorem windowExpired_responds (link : Line) (number : Nat) (s : State) : Responds s (windowExpired link number s) := by
  unfold windowExpired
  split
  · exact .refl
  · split
    · exact .refl
    · refine .ite .refl (.ite (changeZone_responds ..) ?_)
      split <;> exact changeZone_responds ..

theorem takeChanges_responds (link : Line) (entries : List (Nat × Input)) (s : State) :
    Responds s (takeChanges link entries s) :=
  Responds.foldl (fun b (e : Nat × Input) => arrive_responds true .arrival link e.1 e.2 b) entries s

theorem takeSnapshot_responds (link : Line) (entries : List (Nat × Input)) (s : State) :
    Responds s (takeSnapshot link entries s) :=
  ((modZe_responds _ s).trans
    (Responds.foldl (fun b (e : Nat × Input) => arrive_responds false .arrival link e.1 e.2 b) entries _)).trans
    (Responds.foldl (fun b (z : Zone) => arrive_responds false .snapshotMissing link z.number .fault b) _ _)

theorem zonesDown_responds (link : Line) (s : State) : Responds s (zonesDown link s) :=
  ((modZe_responds _ s).trans (offer_responds ..)).trans (Responds.foldl (fun b _ => troubleMove_responds (by decide) true b) _ _)

theorem resetZone_responds (s : State) (z : Zone) : Responds s (resetZone s z) := by
  unfold resetZone
  split
  · exact .refl
  · split
    · exact .ite (((modZe_responds _ s).trans (clearance_responds ..)).trans (moveAlarmCount_responds ..)) (modZe_responds _ s)
    · exact ((modZe_responds _ s).trans (moveAlarmCount_responds ..)).trans (offerReset_responds ..)
    · exact .refl

theorem startReset_responds (s : State) : Responds s (startReset s) :=
  ((setPending_responds true s).trans
    (reportRegime_responds ..)).trans ((Responds.foldl resetZone_responds _ _).trans (testCompletion_responds _))

theorem enableZone_responds (z : Zone) (s : State) : Responds s (enableZone z s) := by
  unfold enableZone
  split
  · exact .ite ((changeZone_responds ..).trans (takeInput_responds ..)) (changeZone_responds ..)
  · exact changeZone_responds ..

theorem debounced_responds (n : Nat) (s : State) : Responds s (debounced n s) := by
  unfold debounced
  split
  · exact .refl
  · exact .ite (.ite (modZe_responds ..) ((modZe_responds ..).trans (arrive_responds ..))) .refl

/-! ## The delivery of a reply (R151) -/

theorem offerAgain_responds (port : Line) (s : State) : Responds s (offerAgain port s) :=
  .ite (offerSnapshot_responds ..) .refl

theorem deliverGroup_responds (n : Nat) (c : Carried) (echo : LandingMask) (answer : Option AnswerBlock)
    (entries : List CarEntry) (s : State) : Responds s (deliverGroup n c echo answer entries s) := by
  unfold deliverGroup
  exact liftLc_responds (.reply ..)

theorem deliver_responds (port : Line) (address : Nat) (c : Carried) (r : FieldReply) (s : State) :
    Responds s (deliver port address c r s) := by
  cases r with
  | quiet => exact offerAgain_responds ..
  | changes es => exact (takeChanges_responds ..).trans (offerAgain_responds ..)
  | snapshot es => exact (takeSnapshot_responds ..).trans (offerAgain_responds ..)
  | group echo answer es =>
    cases port with
    | g i => exact deliverGroup_responds ..
    | _ => exact .refl
  | module sensed => exact liftDs_responds (.moduleReply ..) fun h => DAcc.moduleReply_latched (a := ⟨s.ds, []⟩) h ..
  | matrix marks => exact liftAr_responds (.takeMarks marks)

end Sys2Proof.Machine
end

section
/-!
R103, R104: what a command does to the latches. Every operation from a slot's outcome, a restart and a request up to the step
leaves every latch in the state that its point requires, where it found them so.
-/

namespace Sys2Proof.Machine

/-! ## The relation -/

/-- R103: the latches stay in their required states. -/
structure KeepsLatched (s t : State) : Prop where
  latched : s.Latched → t.Latched

theorem Responds.kept {s t : State} (h : Responds s t) : KeepsLatched s t := ⟨h.latched⟩

theorem KeepsLatched.refl {s : State} : KeepsLatched s s := ⟨id⟩

theorem KeepsLatched.trans {a b c : State} (h : KeepsLatched a b) (k : KeepsLatched b c) : KeepsLatched a c :=
  ⟨k.latched ∘ h.latched⟩

theorem KeepsLatched.ite {c : Prop} [Decidable c] {s a b : State} (h : KeepsLatched s a) (k : KeepsLatched s b) :
    KeepsLatched s (if c then a else b) := by
  split
  · exact h
  · exact k

theorem KeepsLatched.foldl {α : Type} {op : State → α → State} (h : ∀ s a, KeepsLatched s (op s a)) (l : List α)
    (s : State) : KeepsLatched s (l.foldl op s) :=
  foldl_keeps (P := KeepsLatched s) (fun b a hb => hb.trans (h b a)) l s .refl

/-- A request turned away leaves the part as it stands. -/
theorem KeepsLatched.guard {c : Prop} [Decidable c] {a : Answer} {s : State} {p : Answer × State}
    (h : KeepsLatched s p.2) : KeepsLatched s (if c then (a, s) else p).2 := by
  split
  · exact .refl
  · exact h

/-! ## The shared operations -/

/-- A change that leaves the points and the Regime Core. -/
theorem KeepsLatched.of_eq {s t : State} (hds : t.ds = s.ds) (hrc : t.rc = s.rc) : KeepsLatched s t :=
  (Responds.of_eq hds hrc).kept

theorem modSp_latches (f : SP → SP) (s : State) : KeepsLatched s (s.modSp f) := .of_eq rfl rfl

theorem modFlc_latches (f : FLC → FLC) (s : State) : KeepsLatched s (s.modFlc f) := .of_eq rfl rfl

theorem modZe_latches (f : ZE → ZE) (s : State) : KeepsLatched s (s.modZe f) := .of_eq rfl rfl

theorem modCs_latches (f : CS → CS) (s : State) : KeepsLatched s (s.modCs f) := .of_eq rfl rfl

theorem modNodeAt_latches (port : Line) (address : Nat) (f : Node → Node) (s : State) :
    KeepsLatched s (modNodeAt port address f s) := modFlc_latches _ s

theorem offer_latches (cls : Cls) (body : Body) (s : State) : KeepsLatched s (offer cls body s) :=
  (offer_responds ..).kept

theorem troubleMove_latches (src : Source) (rise : Bool) (s : State) : KeepsLatched s (troubleMove src rise s) :=
  ⟨fun h => h.of_opens (by simp) (by simp) (by simp)⟩

theorem liftLc_latches (f : LAcc → LAcc) (s : State) : KeepsLatched s (s.liftLc f) :=
  ⟨fun h => h.of_opens (by simp) (by simp) (by simp)⟩

theorem liftAr_latches (f : AAcc → AAcc) (s : State) : KeepsLatched s (s.liftAr f) :=
  ⟨fun h => h.of_opens (by simp) (by simp) (by simp)⟩

theorem liftDs_latches {f : DAcc → DAcc} {s : State} (h : s.ds.Latched s.denv → (f ⟨s.ds, []⟩).st.Latched s.denv) :
    KeepsLatched s (s.liftDs f) := ⟨fun hs => liftDs_latched (h hs)⟩

/-! ## The field lines (chapter 07) -/

theorem startSlot_latches (port : Line) (s : State) : KeepsLatched s (startSlot port s) := by
  unfold startSlot
  split
  · exact .refl
  · split
    · exact modFlc_latches _ s
    · exact .refl

theorem tellUp_latches (port : Line) (address : Nat) (s : State) : KeepsLatched s (tellUp port address s) := by
  cases port with
  | p i => exact modZe_latches _ s
  | g i => exact liftLc_latches ..
  | d i => exact liftDs_latches fun h => DAcc.moduleUp_latched (a := ⟨s.ds, []⟩) h ..
  | a => exact liftAr_latches ..
  | l => exact .refl

theorem tellDown_latches (port : Line) (address : Nat) (s : State) : KeepsLatched s (tellDown port address s) := by
  cases port with
  | p i => exact (zonesDown_responds _ s).kept
  | g i => exact liftLc_latches ..
  | d i => exact liftDs_latches fun h => DAcc.moduleDown_latched (a := ⟨s.ds, []⟩) h ..
  | a => exact liftAr_latches ..
  | l => exact .refl

theorem reportNode_latches (cls : Cls) (cause : NodeCause) (port : Line) (address : Nat) (s : State) :
    KeepsLatched s (reportNode cls cause port address s) := by
  unfold reportNode
  split
  · exact offer_latches ..
  · exact .refl

theorem enterLive_latches (port : Line) (address : Nat) (s : State) : KeepsLatched s (enterLive port address s) := by
  have live := modNodeAt_latches port address Node.goLive s
  have asked := KeepsLatched.ite (c := port.isPanel = true) (live.trans (offerSnapshot_responds port _).kept) live
  exact ((asked.trans (reportNode_latches ..)).trans (tellUp_latches ..)).trans (troubleMove_latches ..)

theorem enterLost_latches (port : Line) (address : Nat) (s : State) : KeepsLatched s (enterLost port address s) :=
  ((modNodeAt_latches ..).trans (reportNode_latches ..)).trans ((tellDown_latches ..).trans (troubleMove_latches ..))

theorem stateAfterReply_latches (port : Line) (address : Nat) (n : Node) (s : State) :
    KeepsLatched s (stateAfterReply port address n s) := by
  unfold stateAfterReply
  cases n.link with
  | offline | lost => exact modNodeAt_latches ..
  | training => exact .ite (enterLive_latches ..) .refl
  | live => exact .refl
  | suspect => exact (modNodeAt_latches ..).trans (reportNode_latches ..)

theorem stateAfterMiss_latches (port : Line) (address : Nat) (n : Node) (s : State) :
    KeepsLatched s (stateAfterMiss port address n s) := by
  unfold stateAfterMiss
  cases n.link with
  | offline | lost => exact .refl
  | training => exact (modNodeAt_latches ..).trans (tellDown_latches ..)
  | live => exact .ite ((modNodeAt_latches ..).trans (reportNode_latches ..)) .refl
  | suspect => exact .ite (enterLost_latches ..) .refl

theorem supervise_latches (valid : Bool) (port : Line) (address : Nat) (s : State) :
    KeepsLatched s (supervise valid port address s) := by
  have counted := modNodeAt_latches port address (if valid then countGood else countMiss) s
  unfold supervise
  dsimp only
  split
  · exact counted
  · exact counted.trans (.ite (stateAfterReply_latches ..) (stateAfterMiss_latches ..))

theorem takeReply_latches (port : Line) (sl : Slot) (r : FieldReply) (s : State) :
    KeepsLatched s (takeReply port sl r s) := by
  have answered := (modFlc_latches (endSlot port) s).trans (modNodeAt_latches port sl.address (answeredNode sl.carried) _)
  have delivered := answered.trans (deliver_responds port sl.address sl.carried r _).kept
  exact (delivered.trans (modNodeAt_latches ..)).trans ((supervise_latches ..).trans (modNodeAt_latches ..))

theorem receiveReply_latches (kind : Byte) (port : Line) (address control : Byte) (payload : List Byte) (s : State) :
    KeepsLatched s (receiveReply kind port address control payload s) := by
  unfold receiveReply
  split
  · exact .refl
  · split
    · exact .refl
    · exact .ite (takeReply_latches ..) .refl

theorem missSlot_latches (port : Line) (s : State) : KeepsLatched s (missSlot port s) := by
  unfold missSlot
  split
  · exact .refl
  · rename_i sl _
    have ended := (modFlc_latches (endSlot port) s).trans (modNodeAt_latches port sl.address (missedNode sl.carried) _)
    dsimp only
    refine KeepsLatched.trans ?_ (supervise_latches ..)
    split
    · exact ended.trans (liftLc_latches ..)
    · exact ended

/-! ## Restarts and the store (chapters 08 and 09) -/

theorem interruptWrite_latches (s : State) : KeepsLatched s (interruptWrite s) := .ite (.of_eq rfl rfl) .refl

theorem losePower_latches (s : State) : KeepsLatched s (losePower s) :=
  (interruptWrite_latches s).trans (.of_eq rfl rfl)

/-- R23, R103: in the power-on state of any tables every latch is in its normal state, and no reason for RELEASE holds. -/
theorem BuiltFrom.latched {tb : Tables} {t : State} (h : BuiltFrom tb t) : t.Latched := by
  have booted := h.powerOnBlocks
  refine ⟨h.ds ▸ bootDoors_nodup _, fun d hd => ?_⟩
  have hreasons : doorReasons t.denv t.ds.manual d = 0 := by
    refine doorReasons_eq_zero.mpr ⟨?_, ?_, ?_, ?_⟩
    · simp [State.denv, booted.regime.1]
    · simp [State.denv, booted.regime.1]
    · rintro ⟨fl, hfl, hevac⟩
      have hquiet := (booted.floors fl (List.mem_of_getElem? hfl)).1
      simp [hevac] at hquiet
    · rw [booted.manual, Bool.eq_false_iff, ne_eq, inManual_iff]
      rintro ⟨set, hset, hbit⟩
      obtain rfl := List.eq_of_mem_replicate (List.mem_of_getElem? hset)
      simp [hasBit] at hbit
  obtain ⟨hsecure, hfree, -⟩ := booted.doors d hd
  rw [requiredDrive, if_pos hreasons]
  cases hnormal : d.normal with
  | secure => exact hsecure hnormal
  | free => exact hfree hnormal

/-- R175, R179: every block built afresh from the tables that are loaded. -/
theorem coldBoot_latches (tb : Tables) (cls : Cls) (report : Body) (s : State) :
    KeepsLatched s (coldBoot tb cls report s) := ⟨fun _ => (coldBoot_builtFrom tb cls report s).latched⟩

theorem powerUp_latches (s : State) : KeepsLatched s (powerUp s) := ⟨fun _ => (powerUp_builtFrom s).latched⟩

theorem restartCold_latches (s : State) : KeepsLatched s (restartCold s) := (modSp_latches _ s).trans (coldBoot_latches ..)

theorem warmDown_latches (s : State) (n : Node) : KeepsLatched s (warmDown s n) :=
  .ite (tellDown_latches ..) ((tellDown_latches ..).trans (troubleMove_latches ..))

theorem restartWarm_latches (s : State) : KeepsLatched s (restartWarm s) :=
  ((modSp_latches _ s).trans (offer_latches ..)).trans ((modFlc_latches _ _).trans (KeepsLatched.foldl warmDown_latches _ _))

/-- R184: the tables written are loaded, or a failed write leaves the store torn. -/
theorem writeComplete_latches (readBackEqual : Bool) (s : State) : KeepsLatched s (writeComplete readBackEqual s) := by
  unfold writeComplete
  split
  case h_1 check i _ _ =>
    have torn : KeepsLatched s { s with cs := { s.cs with store := .torn s.freeCount, writing := none },
                                        freeCount := s.freeCount + 1 } := .of_eq rfl rfl
    exact .ite ((modCs_latches ..).trans (coldBoot_latches ..)) (torn.trans (offer_latches ..))
  case h_2 => exact .refl

/-! ## Requests (R165) -/

theorem resetRegime_latches (s : State) : KeepsLatched s (resetRegime s).2 := .guard (.guard (startReset_responds s).kept)

theorem startGeneral_latches (s : State) : KeepsLatched s (startGeneral s).2 :=
  (abandonReset_responds s).kept.trans (enterGeneral_responds ..).kept

theorem evacuateFloors_latches (lo hi : Nat) (s : State) : KeepsLatched s (evacuateFloors lo hi s).2 := by
  refine .guard ?_
  split
  · exact .refl
  · exact .ite .refl (evacuateSpan_responds ..).kept

theorem setOccupancy_latches (f value : Nat) (s : State) : KeepsLatched s (setOccupancy f value s).2 := by
  unfold setOccupancy
  split
  · exact .refl
  · exact .guard (modFloor_responds (by exact fun _ => rfl) s).kept

theorem disableRequest_latches (link : Line) (number : Nat) (s : State) :
    KeepsLatched s (disableRequest link number s).2 := by
  unfold disableRequest
  split
  · exact .refl
  · rename_i z _
    cases z.state with
    | confirmed | disabled => exact .refl
    | verifying | normal | trouble | unknown => exact (changeZone_responds ..).kept

theorem enableRequest_latches (link : Line) (number : Nat) (s : State) :
    KeepsLatched s (enableRequest link number s).2 := by
  unfold enableRequest
  split
  · exact .refl
  · exact .ite (enableZone_responds ..).kept .refl

theorem recallGroup_latches (n : Nat) (s : State) : KeepsLatched s (recallGroup n s).2 := by
  unfold recallGroup
  split
  · exact .refl
  · exact liftLc_latches ..

theorem releaseGroup_latches (n : Nat) (s : State) : KeepsLatched s (releaseGroup n s).2 := by
  unfold releaseGroup
  split
  · exact .refl
  · refine .guard ?_
    split
    · exact liftLc_latches ..
    · exact .refl

theorem fireService_latches (n : Nat) (on : Bool) (s : State) : KeepsLatched s (fireService n on s).2 := by
  unfold fireService
  split
  · exact .refl
  · cases on with
    | false => exact liftLc_latches ..
    | true =>
      rw [if_pos rfl]
      split
      · exact liftLc_latches ..
      · exact .refl

theorem manualRequest_latches (add : Bool) (lo hi : Nat) (stairs : QuadSet) (s : State) :
    KeepsLatched s (manualRequest add lo hi stairs s).2 := by
  unfold manualRequest
  split
  · exact .refl
  · exact .ite .refl (liftDs_latches fun h => DAcc.manualChange_latched (a := ⟨s.ds, []⟩) h ..)

theorem announce_latches (message lo hi repeats : Nat) (s : State) :
    KeepsLatched s (announce message lo hi repeats s).2 := by
  unfold announce
  split
  · exact .refl
  · refine .guard (.guard ?_)
    split
    · exact .refl
    · exact .guard (.guard (.guard (liftAr_latches ..)))

theorem cancelAnnouncement_latches (id : Nat) (s : State) : KeepsLatched s (cancelAnnouncement id s).2 := by
  unfold cancelAnnouncement
  split
  · exact .refl
  · split
    · exact .refl
    · split
      · exact liftAr_latches ..
      · exact liftAr_latches ..

theorem beginLive_latches (lo hi : Nat) (s : State) : KeepsLatched s (beginLive lo hi s).2 := by
  unfold beginLive
  split
  · exact .refl
  · exact .guard (.guard (.guard (liftAr_latches ..)))

theorem endLive_latches (s : State) : KeepsLatched s (endLive s).2 := .guard (liftAr_latches ..)

theorem requestRestart_latches (form : RestartForm) (s : State) : KeepsLatched s (requestRestart form s).2 :=
  .guard (.guard (modSp_latches (fun p => { p with restart := some form, restartDue := false }) s))

theorem beginCommission_latches (s : State) : KeepsLatched s (beginCommission s).2 :=
  .guard (.guard (.guard ((modCs_latches ..).trans (offer_latches ..))))

theorem writeConfig_latches (index : Nat) (r : ConfigRecord) (s : State) :
    KeepsLatched s (writeConfig index r s).2 := by
  refine .guard ?_
  split
  case h_1 => exact .refl
  case h_2 => exact .guard (.of_eq rfl rfl)

theorem commitConfig_latches (s : State) : KeepsLatched s (commitConfig s).2 := by
  refine .guard ?_
  split
  case h_1 => exact .refl
  case h_2 =>
    dsimp only
    split
    · exact .refl
    · exact .of_eq rfl rfl

theorem abandonCommission_latches (s : State) : KeepsLatched s (abandonCommission s).2 :=
  .guard (.guard ((modCs_latches ..).trans (offer_latches ..)))

/-! ## Frames (R163, R164, R172) -/

theorem superviseHost_latches (s : State) : KeepsLatched s (superviseHost s) :=
  .ite (((modSp_latches _ s).trans (offer_latches ..)).trans (troubleMove_latches ..)) (modSp_latches _ s)

theorem hostSilence_latches (s : State) : KeepsLatched s (hostSilence s) :=
  .ite (((modSp_latches _ s).trans (offer_latches ..)).trans (troubleMove_latches ..)) .refl

theorem answerFrame_latches {ρ : Type} {lengthOk : Bool} {operands : Option ρ} {handle : ρ → State → Answer × State}
    (h : ∀ q s, KeepsLatched s (handle q s).2) (s : State) :
    KeepsLatched s (answerFrame lengthOk operands handle s).2 := by
  unfold answerFrame
  split
  · split
    case h_1 => exact .refl
    case h_2 q => exact .guard (h q s)
  · exact .refl

/-- R164, R165: a frame is taken by the supervision, and what its owner makes of the operands is answered. -/
theorem takeFrame_latches {ρ : Type} {operands : Option ρ} {handle : ρ → State → Answer × State}
    (h : ∀ q s, KeepsLatched s (handle q s).2) (kind tag : Byte) (lengthOk : Bool) (s : State) :
    KeepsLatched s (takeFrame kind tag lengthOk operands handle s) :=
  (superviseHost_latches s).trans (.ite .refl ((answerFrame_latches h _).trans (modSp_latches _ _)))

theorem takeUnknown_latches (kind tag : Byte) (s : State) : KeepsLatched s (takeUnknown kind tag s) :=
  (superviseHost_latches s).trans (.ite .refl (modSp_latches _ _))

/-- R190: a frame operation made of its owner's handler. -/
theorem frameOperation_latches {ρ : Type} {handle : ρ → State → Answer × State} {f : Byte → List Byte → State → State}
    {kind : Byte} {lengthOk : List Byte → Bool} {operands : List Byte → Option ρ}
    (hf : ∀ tag p, f tag p = takeFrame kind tag (lengthOk p) (operands p) handle)
    (h : ∀ q s, KeepsLatched s (handle q s).2) (tag : Byte) (p : List Byte) (s : State) : KeepsLatched s (f tag p s) :=
  hf tag p ▸ takeFrame_latches h ..

/-- R190: the frame operation of every request kind. -/
theorem frameTable_latches : ∀ f ∈ frameTable, ∀ tag p s, KeepsLatched s (f tag p s) := by
  simp only [frameTable, List.forall_mem_cons, List.not_mem_nil, false_imp_iff, implies_true, and_true]
  refine ⟨?_, ?_, ?_, ?_, ?_, ?_, ?_, ?_, ?acting⟩
  case acting =>
    exact ⟨frameOperation_latches (fun _ _ => rfl) (fun _ => resetRegime_latches),
      frameOperation_latches (fun _ _ => rfl) (fun _ => startGeneral_latches),
      frameOperation_latches (fun _ _ => rfl) (fun q => evacuateFloors_latches q.1 q.2),
      frameOperation_latches (fun _ _ => rfl) (fun q => setOccupancy_latches q.1 q.2),
      frameOperation_latches (fun _ _ => rfl) (fun q => disableRequest_latches q.1 q.2),
      frameOperation_latches (fun _ _ => rfl) (fun q => enableRequest_latches q.1 q.2),
      frameOperation_latches (fun _ _ => rfl) recallGroup_latches,
      frameOperation_latches (fun _ _ => rfl) releaseGroup_latches,
      frameOperation_latches (fun _ _ => rfl) (fun q => fireService_latches q.1 q.2),
      frameOperation_latches (fun _ _ => rfl) (fun q => manualRequest_latches true q.1 q.2.1 q.2.2),
      frameOperation_latches (fun _ _ => rfl) (fun q => manualRequest_latches false q.1 q.2.1 q.2.2),
      frameOperation_latches (fun _ _ => rfl) (fun q => announce_latches q.message q.lo q.hi q.repeats),
      frameOperation_latches (fun _ _ => rfl) cancelAnnouncement_latches,
      frameOperation_latches (fun _ _ => rfl) (fun q => beginLive_latches q.1 q.2),
      frameOperation_latches (fun _ _ => rfl) (fun _ => endLive_latches),
      frameOperation_latches (fun _ _ => rfl) requestRestart_latches,
      frameOperation_latches (fun _ _ => rfl) (fun _ => beginCommission_latches),
      frameOperation_latches (fun _ _ => rfl) (fun q => writeConfig_latches q.1 q.2),
      frameOperation_latches (fun _ _ => rfl) (fun _ => commitConfig_latches),
      frameOperation_latches (fun _ _ => rfl) (fun _ => abandonCommission_latches)⟩
  all_goals exact frameOperation_latches (fun _ _ => rfl) (fun _ _ => .refl)

theorem dispatchFrame_latches (kind tag : Byte) (p : List Byte) (s : State) :
    KeepsLatched s (dispatchFrame kind tag p s) := by
  unfold dispatchFrame
  split
  · exact takeUnknown_latches ..
  · split
    · rename_i f hf
      exact frameTable_latches f (List.mem_of_getElem? hf) tag p s
    · exact takeUnknown_latches ..

theorem hunt_latches (s : State) : KeepsLatched s s.hunt := modSp_latches _ s

theorem testFrame_latches (r : Receiver) (low high : Byte) (s : State) : KeepsLatched s (testFrame r low high s) := by
  refine .ite ?_ (hunt_latches s)
  split
  · exact (hunt_latches s).trans (dispatchFrame_latches ..)
  · exact hunt_latches s

theorem receiveByte_latches (b : Byte) (s : State) : KeepsLatched s (receiveByte b s) := by
  unfold receiveByte
  dsimp only
  split
  · exact .ite (modSp_latches _ s) .refl
  · exact .ite (modSp_latches _ s) (hunt_latches s)
  · exact modSp_latches _ s
  · split
    · exact modSp_latches _ s
    · exact testFrame_latches ..

theorem endSending_latches (s : State) : KeepsLatched s (endSending s) := by
  unfold endSending
  split
  · exact .refl
  · exact modSp_latches _ s

/-! ## Events -/

/-- R2: a tick moves the second count alone. -/
theorem countSecond_responds (s : State) : Responds s (s.modRc (fun r => { r with secondCount := r.secondCount + 1 })) :=
  .of_opens rfl rfl rfl rfl

theorem finish_latches (s : State) : KeepsLatched s (finish s) :=
  .trans (.ite (liftAr_latches ..) .refl) (.of_eq rfl rfl)

theorem event_latches {f : State → State} (h : ∀ s, KeepsLatched s (f s)) {s t : State} (ht : event f s = .next t) :
    KeepsLatched s t := by
  obtain rfl := Host.Outcome.next.inj ht
  have changed : KeepsLatched s (f { s with ev := Scratch.clear }) :=
    .trans (b := { s with ev := Scratch.clear }) (.of_eq rfl rfl) (h _)
  exact .ite ((changed.trans (modSp_latches _ _)).trans (finish_latches _)) .refl

theorem received_latches {f : State → State} (h : ∀ s, KeepsLatched s (f s)) {s t : State} (ht : received f s = .next t) :
    KeepsLatched s t := event_latches (f := fun s => f s.hunt) (fun s => (hunt_latches s).trans (h _)) ht

/-- R103: every command keeps the latches in their required states. -/
theorem exec_latches {c : Instr} {s t : State} (ht : exec c s = .next t) : KeepsLatched s t := by
  cases c
  case powerOn =>
    obtain rfl := Host.Outcome.next.inj ht
    exact (powerUp_latches s).trans (finish_latches _)
  case secondCountTick => exact event_latches (fun s => (countSecond_responds s).kept) ht
  case unknownKind kind tag p => exact received_latches (dispatchFrame_latches kind tag p) ht
  case supervisoryFrameDiscarded =>
    rw [exec, execSupervisoryFrameDiscarded] at ht
    refine event_latches (fun s => ?_) ht
    cases s.sp.rx.state with
    | length | check => exact hunt_latches s
    | hunting | body => exact .refl
  case receiveTimeout =>
    rw [exec, execReceiveTimeout] at ht
    refine event_latches (fun s => ?_) ht
    cases s.sp.rx.state with
    | length | body | check => exact hunt_latches s
    | hunting => exact .refl
  case hostSilent => exact event_latches hostSilence_latches ht
  case frameSent => exact event_latches endSending_latches ht
  case warmRestart => exact event_latches (fun s => .ite (restartWarm_latches s) .refl) ht
  case coldRestart => exact event_latches (fun s => .ite (restartCold_latches s) .refl) ht
  case storeWriteComplete b => exact event_latches (writeComplete_latches b) ht
  case localLineChange line level => exact event_latches (fun s => modZe_latches _ s) ht
  case debounceExpiry line => exact event_latches (fun s => (debounced_responds line.val s).kept) ht
  case windowExpiry link zone => exact event_latches (fun s => (windowExpired_responds link zone s).kept) ht
  case drainExpiry stair => exact event_latches (fun s => (drainExpired_responds stair s).kept) ht
  case forcedAdvance => exact event_latches (fun s => (advanceExpired_responds s).kept) ht
  case retryExpiry car => exact event_latches (fun s => liftLc_latches ..) ht
  case dwellExpired point =>
    exact event_latches (fun s => liftDs_latches fun h => DAcc.dwellExpired_latched (a := ⟨s.ds, []⟩) h point) ht
  case heldOpenExpiry point =>
    exact event_latches (fun s => liftDs_latches fun h => DAcc.heldOpenExpired_latched (a := ⟨s.ds, []⟩) h point) ht
  case playOverrun channel => exact event_latches (fun s => liftAr_latches ..) ht
  case slotStart port => exact event_latches (startSlot_latches port) ht
  case quiet port a c p => exact event_latches (receiveReply_latches _ port a c p) ht
  case changes port a c p => exact event_latches (receiveReply_latches _ port a c p) ht
  case snapshot port a c p => exact event_latches (receiveReply_latches _ port a c p) ht
  case groupStatus port a c p => exact event_latches (receiveReply_latches _ port a c p) ht
  case moduleStatus port a c p => exact event_latches (receiveReply_latches _ port a c p) ht
  case matrixStatus port a c p => exact event_latches (receiveReply_latches _ port a c p) ht
  case fieldFrameDiscarded port => exact event_latches (fun _ => .refl) ht
  case replyWindowMiss port => exact event_latches (missSlot_latches port) ht
  case byteReceived b => exact event_latches (receiveByte_latches b) ht
  case lossOfPower =>
    obtain rfl := Host.Outcome.next.inj ht
    exact .ite (losePower_latches s) .refl
  all_goals exact received_latches (frameTable_latches _ (by simp [frameTable]) _ _) ht

/-- One second moves the timers of the points. -/
theorem idleSecond_latched {s : State} (h : s.Latched) : (idleSecond s).Latched := by
  unfold idleSecond
  split
  · exact DS.Latched.of_sameLatches (env := s.denv) h (DS.second_sameLatches s.ds)
  · exact h

theorem step_latches {s t : State} (ht : step s = .next t) : KeepsLatched s t := by
  unfold step at ht
  split at ht
  · rename_i rest _
    exact .trans (b := { s with pending := rest }) (.of_eq rfl rfl) (exec_latches ht)
  · obtain rfl := Host.Outcome.next.inj ht
    exact ⟨idleSecond_latched⟩

/-- Settles O13: the latches by `step_latches`, a lemma per operation of a step; the output images by `step_outputsAgree`, every
part of a step putting the points it changes back with their image. -/
theorem doorLatchesKept : Obligations.DoorLatchesKept := by
  refine ⟨fun s t hkeys hs ht => ?_, fun s t hkeys hs ht => step_outputsAgree hkeys hs ht⟩
  exact ((latched_iff t).mp ((step_latches ht).latched ((latched_iff s).mpr ⟨hkeys.2, hs⟩))).2

end Sys2Proof.Machine
end

section
/-!
A change of the DS alone in an event, and RELEASE_DOORS and RESTORE_DOORS (R114): the pairs of the span and the stair set enter or
leave the manual release set, and the latches of the points of those pairs follow.
-/

namespace Sys2Proof.Machine

/-! ## A change of the DS in an event -/

/-- Every record but the DS's, the SP's and the field lines' as it was; the trouble set may have moved. -/
structure DoorsOnly (s t : State) : Prop where
  regime : SameRegime s t
  ze : t.ze = s.ze
  es : t.es = s.es
  lc : t.lc = s.lc
  ar : t.ar = s.ar
  cs : t.cs = s.cs

theorem DoorsOnly.trans {a b c : State} (h : DoorsOnly a b) (k : DoorsOnly b c) : DoorsOnly a c :=
  ⟨h.regime.trans k.regime, k.ze.trans h.ze, k.es.trans h.es, k.lc.trans h.lc, k.ar.trans h.ar, k.cs.trans h.cs⟩

theorem liftDs_doorsOnly (f : DAcc → DAcc) (s : State) : DoorsOnly s (s.liftDs f) where
  regime := by constructor <;> simp
  ze := liftDs_ze f s
  es := liftDs_es f s
  lc := liftDs_lc f s
  ar := liftDs_ar f s
  cs := liftDs_cs f s

theorem clear_doorsOnly (s : State) : DoorsOnly s { s with ev := Scratch.clear } :=
  ⟨⟨rfl, rfl, rfl, rfl, rfl, rfl, rfl, rfl⟩, rfl, rfl, rfl, rfl, rfl⟩

theorem asked_doorsOnly (s : State) : DoorsOnly s (asked s) :=
  have kept := asked_sameBlocks s
  ⟨asked_sameRegime s, kept.ze, kept.es, kept.lc, kept.ar, kept.cs⟩

/-- The end of an event that touches no announcement. -/
theorem EndsIn.doorsOnly {s t : State} (h : EndsIn s t) (hev : s.ev.arTouched = false) : DoorsOnly s t :=
  ⟨h.sameRegime, h.ze, h.es, h.lc, (h.flc_ar hev).2, h.cs⟩

/-! ## The manual release set -/

theorem hasBit_setOfList {l : List Nat} {f : Nat} (hf : f < 64) : hasBit (setOfList l) f = true ↔ f ∈ l := by
  have added (set : FloorSet) : hasBit (l.foldl addBit set) f = true ↔ hasBit set f = true ∨ f ∈ l := by
    induction l generalizing set with
    | nil => simp
    | cons g l ih =>
      have hadd : hasBit (addBit set g) f = true ↔ hasBit set f = true ∨ g = f := by
        rw [hasBit, addBit, BitVec.getLsbD_or, BitVec.getLsbD_twoPow, Bool.or_eq_true, hasBit]
        have hin : g < 64 ∧ g = f ↔ g = f := by omega
        simp [hf, hin]
      rw [List.foldl_cons, ih, List.mem_cons, ← or_assoc, hadd, eq_comm (a := f)]
  rw [setOfList, added]
  simp [hasBit]

/-- R114: what the change makes of the floors of one stair. -/
theorem changeManual_bit (add : Bool) (floors : FloorSet) (stairs : QuadSet) {manual : List FloorSet} {st : Nat}
    {set : FloorSet} (h : manual[st]? = some set) : ∃ set', (changeManual add floors stairs manual)[st]? = some set' ∧
      ∀ f, f < 64 → hasBit set' f = if hasBit stairs st then (if add then hasBit set f || hasBit floors f
        else hasBit set f && !hasBit floors f) else hasBit set f := by
  refine ⟨_, by rw [changeManual, List.getElem?_map, getElem?_indexedFrom, h]; rfl, fun f hf => ?_⟩
  simp only [Nat.zero_add]
  split
  · cases add <;> simp [hasBit, hf]
  · rfl

theorem changeManual_empty (add : Bool) (stairs : QuadSet) (manual : List FloorSet) :
    changeManual add 0 stairs manual = manual := by
  refine List.ext_getElem? fun i => ?_
  rw [changeManual, List.getElem?_map, getElem?_indexedFrom]
  cases manual[i]? with
  | none => rfl
  | some set =>
    have hkept : set &&& ~~~(0 : FloorSet) = set := BitVec.and_allOnes
    cases add
    · simp only [Option.map_some, Bool.false_eq_true, if_false, hkept, ite_self]
    · simp

/-! ## The points that follow -/

@[simp] theorem DAcc.setDrive_settings (env : DEnv) (goal : Drive) (a : DAcc) (d : Door) :
    (a.setDrive env goal d).st.settings = a.st.settings := by
  obtain h | ⟨-, h⟩ := DAcc.setDrive_st env goal a d <;> rw [h]
  exact DAcc.put_settings ..

@[simp] theorem DAcc.recompute_settings (env : DEnv) (p : Door → Bool) (a : DAcc) :
    (a.recompute env p).st.settings = a.st.settings :=
  foldl_keeps (P := fun b : DAcc => b.st.settings = a.st.settings) (fun _ _ h => (DAcc.setDrive_settings ..).trans h) _ a rfl

theorem DAcc.manualChange_manual (env : DEnv) (add : Bool) (floors : FloorSet) (stairs : QuadSet) (a : DAcc) :
    (a.manualChange env add floors stairs).st.manual = changeManual add floors stairs a.st.manual :=
  (DS.settings_eq (DAcc.recompute_settings ..)).1

/-- R114: without floors nothing changes. -/
theorem DAcc.manualChange_empty (env : DEnv) (add : Bool) (stairs : QuadSet) (a : DAcc) :
    (a.manualChange env add 0 stairs).st = a.st := by
  simp only [DAcc.manualChange, DAcc.recompute, DAcc.ds, Acc.upd, changeManual_empty, bne_self_eq_false, List.filter_false,
    List.foldl_nil]

/-- R103, R114: a point whose pair changed is in the state that it then requires; the others are as they were. -/
theorem DAcc.manualChange_follow {env : DEnv} {add : Bool} {floors : FloorSet} {stairs : QuadSet} {a : DAcc}
    (hnd : (a.st.doors.map (·.index)).Nodup) {d : Door} (hd : d ∈ a.st.doors) :
    ∃ d' ∈ (a.manualChange env add floors stairs).st.doors, d'.index = d.index ∧ d'.enable = d.enable ∧
      (inManual (changeManual add floors stairs a.st.manual) d.floor d.stair = inManual a.st.manual d.floor d.stair →
        d'.drive = d.drive) ∧
      (inManual (changeManual add floors stairs a.st.manual) d.floor d.stair ≠ inManual a.st.manual d.floor d.stair →
        d'.drive = requiredDrive env (changeManual add floors stairs a.st.manual) d) := by
  have pointed := DAcc.recompute_repointed (env := env)
    (a := a.ds (fun x => { x with manual := changeManual add floors stairs x.manual })) hnd
    (fun d => inManual a.st.manual d.floor d.stair !=
      inManual (changeManual add floors stairs a.st.manual) d.floor d.stair)
  refine ⟨_, pointed.doors ▸ List.mem_map_of_mem hd, ?_⟩
  by_cases hsame : inManual (changeManual add floors stairs a.st.manual) d.floor d.stair =
      inManual a.st.manual d.floor d.stair
  · simp [hsame]
  · obtain ⟨hconfig, henable⟩ := driven_leaves a.st.dwell
      (requiredDrive env (changeManual add floors stairs a.st.manual) d) d
    simp [hsame, Ne.symm hsame, recomputed, DAcc.ds, Acc.upd, Door.index_eq hconfig, henable]

/-! ## The requests -/

theorem stairSet_eq {q : Byte} (h : q.toNat < 16) : stairSet q = some (q.setWidth 4) := if_pos h

theorem doorOperands_eq {lo hi q : Byte} (hlo : lo.toNat ≤ 63) (hhi : hi.toNat ≤ 63) (hq : q.toNat < 16) :
    doorOperands [lo, hi, q] = some (lo.toNat, hi.toNat, q.setWidth 4) := by
  rw [doorOperands, floorIndex_eq hlo, floorIndex_eq hhi, stairSet_eq hq]

theorem releaseDoors_requests (tag : Byte) {lo hi q : Byte} (hlo : lo.toNat ≤ 63) (hhi : hi.toNat ≤ 63) (hq : q.toNat < 16) :
    Requests (.releaseDoors tag [lo, hi, q]) 0x12#8 tag (lo.toNat, hi.toNat, q.setWidth 4)
      (fun q => manualRequest true q.1 q.2.1 q.2.2) := ⟨_, _, rfl, doorOperands_eq hlo hhi hq, fun _ => rfl⟩

theorem restoreDoors_requests (tag : Byte) {lo hi q : Byte} (hlo : lo.toNat ≤ 63) (hhi : hi.toNat ≤ 63) (hq : q.toNat < 16) :
    Requests (.restoreDoors tag [lo, hi, q]) 0x13#8 tag (lo.toNat, hi.toNat, q.setWidth 4)
      (fun q => manualRequest false q.1 q.2.1 q.2.2) := ⟨_, _, rfl, doorOperands_eq hlo hhi hq, fun _ => rfl⟩

theorem manualRequest_done {add : Bool} {lo hi : Nat} {stairs : QuadSet} {s : State} (h : lo ≤ hi) :
    manualRequest add lo hi stairs s = (.doneOr (decide (s.rc.floors.length ≤ hi)) .empty,
      if (spanFloors s.rc.floors.length lo hi).isEmpty then s
      else s.liftDs (DAcc.manualChange s.denv add (setOfList (spanFloors s.rc.floors.length lo hi)) stairs)) := by
  rw [manualRequest, spanOf, if_neg (Nat.not_lt.mpr h)]
  rfl

theorem hasBit_spanFloors {n lo hi f : Nat} (hf : f < 64) :
    hasBit (setOfList (spanFloors n lo hi)) f = true ↔ lo ≤ f ∧ f ≤ hi ∧ f < n := by
  rw [hasBit_setOfList hf, spanFloors, List.mem_filter, List.mem_range, decide_eq_true_eq]
  omega

/-- R114: the request carried out: the reply, the DS with the change, and the rest as it was. -/
theorem Requests.manual {i : Instr} {kind tag : Byte} {add : Bool} {lo hi : Nat} {stairs : QuadSet}
    (request : Requests i kind tag (lo, hi, stairs) (fun q => manualRequest add q.1 q.2.1 q.2.2)) {s : State}
    (hs : s.answers) (h : lo ≤ hi) : ∃ t, exec i s = .next t ∧
      newestReply t = some (plainReply (replyKind kind) tag (if s.rc.floors.length ≤ hi then .clamped else .done)) ∧
      DoorsOnly s t ∧
      t.ds = (DAcc.manualChange s.denv add (setOfList (spanFloors s.rc.floors.length lo hi)) stairs ⟨s.ds, []⟩).st := by
  obtain ⟨t, ht, hreply, hend⟩ := request.answered hs
  have hfloors : (asked s).rc.floors = s.rc.floors := (asked_sameRegime s).floors
  have hdenv : (asked s).denv = s.denv := by rw [State.denv, State.denv, hfloors, (asked_sameRegime s).level]
  dsimp only at hreply hend
  rw [manualRequest_done h, hfloors] at hreply hend
  rw [doneOr_reply] at hreply
  refine ⟨t, ht, hreply, ?_⟩
  split at hend
  case isTrue hempty =>
    refine ⟨(asked_doorsOnly s).trans (hend.doorsOnly (by rw [asked_ev]; rfl)), ?_⟩
    rw [List.isEmpty_iff.mp hempty]
    exact (hend.ds.trans (asked_sameBlocks s).ds).trans (DAcc.manualChange_empty s.denv add stairs ⟨s.ds, []⟩).symm
  case isFalse =>
    refine ⟨((asked_doorsOnly s).trans (liftDs_doorsOnly ..)).trans (hend.doorsOnly ?_), ?_⟩
    · rw [liftDs_ev, asked_ev]
      rfl
    · rw [hend.ds, liftDs_ds, hdenv, (asked_sameBlocks s).ds]

/-- R103, R114: the latches of the pairs that changed follow, where the indices are distinct. -/
theorem latchesFollow_of_manualChange {s t : State} {add : Bool} {floors : FloorSet} {stairs : QuadSet} (h : DoorsOnly s t)
    (hds : t.ds = (DAcc.manualChange s.denv add floors stairs ⟨s.ds, []⟩).st) (hkeys : s.KeysDistinct) :
    LatchesFollow s t := by
  have hdenv : t.denv = s.denv := by rw [State.denv, State.denv, h.regime.floors, h.regime.level]
  refine ⟨?_, fun d hd => ?_⟩
  · rw [hds]
    exact (DoorOp.manualChange add floors stairs).indexed ⟨s.ds, []⟩
  · rw [hdenv, hds, DAcc.manualChange_manual]
    exact DAcc.manualChange_follow (a := ⟨s.ds, []⟩) hkeys.2 hd

/-- R114: the pairs of the span and the stair set. -/
theorem changedPair_iff {q : Byte} {n lo hi st f : Nat} (hf : f < 64) :
    hasBit (q.setWidth 4 : QuadSet) st = true ∧ hasBit (setOfList (spanFloors n lo hi)) f = true ↔
      q.getLsbD st = true ∧ st < 4 ∧ lo ≤ f ∧ f ≤ hi ∧ f < n := by
  rw [hasBit_spanFloors hf, hasBit, BitVec.getLsbD_setWidth, Bool.and_eq_true, decide_eq_true_eq]
  tauto

/-- Settles O42: both requests change the manual release set by `changeManual`, and the points of the changed pairs are
recomputed. -/
theorem manualReleaseRule : Obligations.ManualReleaseRule := by
  intro s tag lo hi q hs hspan hhi hq
  have hlo : lo.toNat ≤ 63 := hspan.trans hhi
  constructor
  · obtain ⟨t, ht, hreply, rest, hds⟩ := (releaseDoors_requests tag hlo hhi hq).manual hs hspan
    refine ⟨t, ht, hreply, rest.regime, rest.ze, rest.es, rest.lc, rest.ar, rest.cs, fun st set hset => ?_,
      latchesFollow_of_manualChange rest hds⟩
    obtain ⟨set', hset', hbits⟩ := changeManual_bit true _ (q.setWidth 4) hset
    refine ⟨set', by rw [hds, DAcc.manualChange_manual]; exact hset', fun f hf => ?_⟩
    rw [hbits f hf, ← changedPair_iff hf]
    split <;> simp [*]
  · obtain ⟨t, ht, hreply, rest, hds⟩ := (restoreDoors_requests tag hlo hhi hq).manual hs hspan
    refine ⟨t, ht, hreply, rest.regime, rest.ze, rest.es, rest.lc, rest.ar, rest.cs, fun st set hset => ?_,
      latchesFollow_of_manualChange rest hds⟩
    obtain ⟨set', hset', hbits⟩ := changeManual_bit false _ (q.setWidth 4) hset
    refine ⟨set', by rw [hds, DAcc.manualChange_manual]; exact hset', fun f hf => ?_⟩
    rw [hbits f hf, ← changedPair_iff hf]
    split <;> simp [*]

end Sys2Proof.Machine
end

section
/-!
DWELL_EXPIRED (R108) and HELD_OPEN_EXPIRY (R111): the point of the index is put back as the expiry leaves it, every other stays.
-/

namespace Sys2Proof.Machine

/-! ## One point put in its place -/

/-- A record put in the place of the point of an index: it is found there, the points of other indices stay, and so does the
manual release set. -/
theorem DAcc.put_found {d d' : Door} {n : Nat} {a : DAcc} (h : a.st.doors.find? (fun e => e.index = n) = some d)
    (hn : d'.index = n) : (a.put d').st.doors.find? (fun e => e.index = n) = some d' ∧
      (∀ m, m ≠ n → (a.put d').st.doors.find? (fun e => e.index = m) = a.st.doors.find? (fun e => e.index = m)) ∧
      (a.put d').st.manual = a.st.manual := by
  subst hn
  have hindex : d.index = d'.index := by simpa using List.find?_some h
  have through (m : Nat) : (fun e : Door => decide (e.index = m)) ∘ (fun e => if decide (e.index = d'.index) then d' else e) =
      fun e => decide (e.index = m) := by
    funext e
    by_cases he : e.index = d'.index <;> simp [he]
  have found (m : Nat) : (a.put d').st.doors.find? (fun e => e.index = m) =
      (a.st.doors.find? (fun e => e.index = m)).map (fun e => if decide (e.index = d'.index) then d' else e) := by
    rw [DAcc.put_doors, mapIf, List.find?_map, through]
  refine ⟨?_, fun m hm => ?_, (DS.settings_eq (DAcc.put_settings ..)).1⟩
  · rw [found, h]
    simp [hindex]
  · rw [found]
    cases hfind : a.st.doors.find? (fun e => e.index = m) with
    | none => rfl
    | some e =>
      have he : e.index = m := by simpa using List.find?_some hfind
      simp [he, hm]

/-! ## What the effects make of the Regime Core -/

/-- An effect that is no trouble notice. -/
def Eff.sparesRegime : Eff → Bool
  | .trouble .. => false
  | _ => true

/-- R18: without a trouble notice the Regime Core stays. -/
theorem applyEffs_rc {l : List Eff} (hl : l.all Eff.sparesRegime = true) (s : State) : (applyEffs l s).rc = s.rc := by
  induction l generalizing s with
  | nil => rfl
  | cons e l ih =>
    rw [List.all_cons, Bool.and_eq_true] at hl
    obtain ⟨he, hl⟩ := hl
    rw [applyEffs_cons, ih hl]
    cases e with
    | trouble => nomatch he
    | _ => simp [applyEff]

theorem applyEffs_append (l k : List Eff) (s : State) : applyEffs (l ++ k) s = applyEffs k (applyEffs l s) :=
  List.foldl_append

/-- R101: a point put back marks an output image at most. -/
theorem DAcc.put_sparesRegime (d : Door) {a : DAcc} (h : a.out.all Eff.sparesRegime = true) :
    (a.put d).out.all Eff.sparesRegime = true := by
  unfold DAcc.put DAcc.syncModule
  dsimp only
  split
  · simp [DAcc.tell, DAcc.ds, Acc.emit, Acc.upd, h, Eff.sparesRegime]
  · exact h

theorem DAcc.tell_sparesRegime {e : Eff} {a : DAcc} (h : a.out.all Eff.sparesRegime = true) (he : e.sparesRegime = true) :
    (a.tell e).out.all Eff.sparesRegime = true := by
  simp [DAcc.tell, Acc.emit, h, he]

/-! ## The two expiries -/

/-- R108: the dwell of a PENDING point has come down to 0. -/
theorem DAcc.dwellExpired_due {env : DEnv} {n : Nat} {a : DAcc} {d : Door}
    (h : a.st.doors.find? (fun e => e.index = n) = some d) (hcond : d.cond = .pending) (hdwell : d.dwell = some 0) :
    a.dwellExpired env n = ((a.put { d with cond := .fault, dwell := none }).tell
      (doorReport env .dwellExpired { d with cond := .fault, dwell := none })).tell (.trouble .doors true) := by
  simp only [DAcc.dwellExpired, h, hcond, hdwell, decide_true, Bool.and_self, if_true]

theorem DAcc.dwellExpired_notDue {env : DEnv} {n : Nat} {a : DAcc} {d : Door}
    (h : a.st.doors.find? (fun e => e.index = n) = some d) (hdwell : d.dwell ≠ some 0) : a.dwellExpired env n = a := by
  simp [DAcc.dwellExpired, h, hdwell]

/-- R111: the held-open timer of a point has come down to 0. -/
theorem DAcc.heldOpenExpired_due {env : DEnv} {n : Nat} {a : DAcc} {d : Door}
    (h : a.st.doors.find? (fun e => e.index = n) = some d) (hheld : d.heldOpen = some 0) :
    (a.heldOpenExpired env n).st =
      (a.put { d with cond := if d.cond = .normal then .heldOpen else d.cond, heldOpen := none }).st := by
  simp only [DAcc.heldOpenExpired, h, hheld, if_true]
  by_cases hcond : d.cond = .normal
  · simp only [hcond, if_true]
    rfl
  · simp only [hcond, if_false]

theorem DAcc.heldOpenExpired_sparesRegime (env : DEnv) (n : Nat) {a : DAcc} (h : a.out.all Eff.sparesRegime = true) :
    (a.heldOpenExpired env n).out.all Eff.sparesRegime = true := by
  unfold DAcc.heldOpenExpired
  split
  · exact h
  · split
    · split
      · exact DAcc.tell_sparesRegime (DAcc.put_sparesRegime _ h) rfl
      · exact DAcc.put_sparesRegime _ h
    · exact h

theorem DAcc.heldOpenExpired_notDue {env : DEnv} {n : Nat} {a : DAcc} {d : Door}
    (h : a.st.doors.find? (fun e => e.index = n) = some d) (hheld : d.heldOpen ≠ some 0) :
    a.heldOpenExpired env n = a := by
  simp [DAcc.heldOpenExpired, h, hheld]

/-! ## The events -/

/-- R18: what the expiry of a dwell makes of the trouble set. -/
theorem liftDs_dwellExpired_trouble {n : Nat} {s : State} {d : Door}
    (h : s.ds.doors.find? (fun e => e.index = n) = some d) (hcond : d.cond = .pending) (hdwell : d.dwell = some 0) :
    (s.liftDs (DAcc.dwellExpired s.denv n)).rc.trouble = { s.rc.trouble with doors := s.rc.trouble.doors + 1 } := by
  unfold State.liftDs
  rw [DAcc.dwellExpired_due (a := ⟨s.ds, []⟩) h hcond hdwell]
  dsimp only
  rw [DAcc.tell, Acc.emit, applyEffs_append]
  change (troubleMove .doors true (applyEffs _ _)).rc.trouble = _
  rw [troubleMove_trouble, applyEffs_rc (DAcc.tell_sparesRegime (DAcc.put_sparesRegime _ rfl) rfl)]
  rfl

theorem liftDs_heldOpenExpired_rc (n : Nat) (s : State) : (s.liftDs (DAcc.heldOpenExpired s.denv n)).rc = s.rc := by
  unfold State.liftDs
  exact applyEffs_rc (DAcc.heldOpenExpired_sparesRegime s.denv n rfl) _

/-- An event that changes the DS alone: the DS and the Regime Core as the change left them, the rest as it was. -/
theorem event_liftDs {s : State} (f : State → DAcc → DAcc) (h : s.powered = true) : ∃ t,
    event (fun s => s.liftDs (f s)) s = .next t ∧ DoorsOnly s t ∧
      t.ds = (f { s with ev := Scratch.clear } ⟨s.ds, []⟩).st ∧
      t.rc = (({ s with ev := Scratch.clear } : State).liftDs (f { s with ev := Scratch.clear })).rc := by
  obtain ⟨t, ht, hend⟩ := event_endsIn (fun s => s.liftDs (f s)) h
  have hev : (({ s with ev := Scratch.clear } : State).liftDs (f { s with ev := Scratch.clear })).ev.arTouched = false := by
    rw [liftDs_ev]
    rfl
  refine ⟨t, ht, ((clear_doorsOnly s).trans (liftDs_doorsOnly ..)).trans (hend.doorsOnly hev), ?_, ?_⟩
  · rw [hend.ds, liftDs_ds]
  · rw [hend.untouched hev]

/-- An event whose change of the DS comes to nothing. -/
theorem event_liftDs_none {s : State} (f : State → DAcc → DAcc) (h : s.powered = true)
    (hf : f { s with ev := Scratch.clear } ⟨s.ds, []⟩ = ⟨s.ds, []⟩) :
    ∃ t, event (fun s => s.liftDs (f s)) s = .next t ∧ SameBlocks s t ∧ SameRegime s t := by
  obtain ⟨t, ht, hend⟩ := event_endsIn (fun s => s.liftDs (f s)) h
  refine ⟨t, ht, EndsIn.of_clear ?_⟩
  unfold State.liftDs at hend
  dsimp only at hend
  rw [hf] at hend
  exact hend

/-- Settles O43: a timer that is due puts its point back, and one that is not leaves the DS. -/
theorem doorTimersRule : Obligations.DoorTimersRule := by
  intro s n d hpower hd
  have hindex : d.index = n := by simpa using List.find?_some hd
  subst hindex
  refine ⟨fun hcond hdwell => ?_, fun hheld => ?_, fun hdwell => ?_, fun hheld => ?_⟩
  · obtain ⟨t, ht, rest, hds, hrc⟩ := event_liftDs (fun s => DAcc.dwellExpired s.denv d.index) hpower
    rw [DAcc.dwellExpired_due (a := ⟨s.ds, []⟩) hd hcond hdwell] at hds
    obtain ⟨found, others, manual⟩ :=
      DAcc.put_found (d' := { d with cond := .fault, dwell := none }) (a := ⟨s.ds, []⟩) hd rfl
    refine ⟨t, ht, hds ▸ found, ?_, rest.regime, hds ▸ others, hds ▸ manual, rest.ze, rest.es, rest.lc, rest.ar,
      rest.cs⟩
    rw [hrc]
    exact liftDs_dwellExpired_trouble hd hcond hdwell
  · obtain ⟨t, ht, rest, hds, hrc⟩ := event_liftDs (fun s => DAcc.heldOpenExpired s.denv d.index) hpower
    rw [DAcc.heldOpenExpired_due (a := ⟨s.ds, []⟩) hd hheld] at hds
    obtain ⟨found, others, manual⟩ := DAcc.put_found
      (d' := { d with cond := if d.cond = .normal then .heldOpen else d.cond, heldOpen := none }) (a := ⟨s.ds, []⟩) hd rfl
    refine ⟨t, ht, hds ▸ found, ?_, hds ▸ others, hds ▸ manual, rest.ze, rest.es, rest.lc, rest.ar, rest.cs⟩
    rw [hrc]
    exact liftDs_heldOpenExpired_rc ..
  · exact event_liftDs_none (fun s => DAcc.dwellExpired s.denv d.index) hpower
      (DAcc.dwellExpired_notDue (a := ⟨s.ds, []⟩) hd hdwell)
  · exact event_liftDs_none (fun s => DAcc.heldOpenExpired s.denv d.index) hpower
      (DAcc.heldOpenExpired_notDue (a := ⟨s.ds, []⟩) hd hheld)

end Sys2Proof.Machine
end

section
/-!
R158 to R160: a node found again after a change of the lines. An effect changes the images of nodes alone; what a reply delivers
changes their images and actions alone; the notices of NODE_UP leave what is dirty dirty.
-/

namespace Sys2Proof.Machine

/-! ## A node but for its images -/

/-- A node without its images. -/
def Node.unmarked (n : Node) : Node := { n with images := [] }

theorem bare_unmarked (n : Node) : n.unmarked.bare = n.bare := rfl

/-- The nodes of two states agree in `g`. -/
def SameNodes {α : Type} (g : Node → α) (s t : State) : Prop := t.flc.nodes.map g = s.flc.nodes.map g

section Relation

variable {α : Type} {g : Node → α}

theorem SameNodes.refl {s : State} : SameNodes g s s := rfl

theorem SameNodes.trans {a b c : State} (h : SameNodes g a b) (k : SameNodes g b c) : SameNodes g a c := Eq.trans k h

theorem SameNodes.ite {c : Prop} [Decidable c] {s a b : State} (h : SameNodes g s a) (k : SameNodes g s b) :
    SameNodes g s (if c then a else b) := by
  split
  · exact h
  · exact k

theorem SameNodes.of_flc {s t : State} (h : t.flc = s.flc) : SameNodes g s t := by rw [SameNodes, h]

end Relation

/-- A node is found as it was, in what keeps its key. -/
theorem SameNodes.found {g : Node → Node} {s t : State} (h : SameNodes g s t)
    (hg : ∀ n, (g n).port = n.port ∧ (g n).address = n.address) {port : Line} {address : Nat} {n : Node}
    (hn : findNode s.flc.nodes port address = some n) : ∃ n', findNode t.flc.nodes port address = some n' ∧ g n' = g n := by
  have key (l : List Node) : (findNode l port address).map g = findNode (l.map g) port address := by
    rw [findNode, findNode, List.find?_map]
    simp only [Function.comp_def, hg]
  have hfound := key t.flc.nodes
  rw [h, ← key, hn] at hfound
  exact Option.map_eq_some_iff.mp hfound

theorem SameNodes.bare {s t : State} (h : SameNodes Node.unmarked s t) : SameNodes Node.bare s t := by
  simpa [SameNodes, Function.comp_def, bare_unmarked] using congrArg (List.map Node.bare) h

theorem Steady.sameNodes {s t : State} (h : Steady s t) : SameNodes Node.bare s t := h.nodes

/-! ## Effects -/

theorem modNode_images_unmarked (port : Line) (address : Nat) (f : Node → List ImageMark) (s : State) :
    SameNodes Node.unmarked s (s.modFlc (FLC.modNode port address (fun n => { n with images := f n }))) := by
  refine map_mapIf _ _ _ ?_ _
  exact fun _ => rfl

theorem applyEff_unmarked (s : State) (e : Eff) : SameNodes Node.unmarked s (applyEff s e) := by
  cases e with
  | report cls body => exact .of_flc (offer_flc cls body s)
  | trouble src rise => exact .of_flc (troubleMove_flc src rise s)
  | dirty port address name => exact modNode_images_unmarked ..
  | withdraw port address name => exact modNode_images_unmarked ..
  | addImage port address name => exact modNode_images_unmarked ..
  | broadcast loop =>
    change (s.flc.askBroadcast loop).nodes.map Node.unmarked = _
    unfold FLC.askBroadcast
    split <;> rfl

theorem applyEffs_unmarked (l : List Eff) (s : State) : SameNodes Node.unmarked s (applyEffs l s) :=
  foldl_keeps (P := SameNodes Node.unmarked s) (fun t e h => h.trans (applyEff_unmarked t e)) l s .refl

theorem liftLc_unmarked (f : LAcc → LAcc) (s : State) : SameNodes Node.unmarked s (s.liftLc f) :=
  SameNodes.trans (b := { s with lc := (f ⟨s.lc, []⟩).st }) (.of_flc rfl) (applyEffs_unmarked _ _)

theorem liftDs_unmarked (f : DAcc → DAcc) (s : State) : SameNodes Node.unmarked s (s.liftDs f) :=
  SameNodes.trans (b := { s with ds := (f ⟨s.ds, []⟩).st }) (.of_flc rfl) (applyEffs_unmarked _ _)

theorem liftAr_unmarked (f : AAcc → AAcc) (s : State) : SameNodes Node.unmarked s (s.liftAr f) :=
  SameNodes.trans (b := { s with ar := (f ⟨⟨s.ar, s.ev⟩, []⟩).st.ar, ev := (f ⟨⟨s.ar, s.ev⟩, []⟩).st.ev })
    (.of_flc rfl) (applyEffs_unmarked _ _)

/-! ## Notices and the end of the event -/

theorem reportNode_flc (cls : Cls) (cause : NodeCause) (port : Line) (address : Nat) (s : State) :
    (reportNode cls cause port address s).flc = s.flc := by
  unfold reportNode
  split <;> simp

theorem reportNode_rc (cls : Cls) (cause : NodeCause) (port : Line) (address : Nat) (s : State) :
    (reportNode cls cause port address s).rc = s.rc := by
  unfold reportNode
  split <;> simp

theorem zonesDown_flc (link : Line) (s : State) : (zonesDown link s).flc = s.flc := by
  unfold zonesDown
  dsimp only
  refine foldl_keeps (P := fun t : State => t.flc = s.flc) (fun t _ h => (troubleMove_flc ..).trans h) _ _ ?_
  simp

theorem tellUp_unmarked (port : Line) (address : Nat) (s : State) : SameNodes Node.unmarked s (tellUp port address s) := by
  cases port with
  | p i => exact .of_flc rfl
  | g i => exact liftLc_unmarked ..
  | d i => exact liftDs_unmarked ..
  | a => exact liftAr_unmarked ..
  | l => exact .refl

theorem tellDown_unmarked (port : Line) (address : Nat) (s : State) :
    SameNodes Node.unmarked s (tellDown port address s) := by
  cases port with
  | p i => exact .of_flc (zonesDown_flc ..)
  | g i => exact liftLc_unmarked ..
  | d i => exact liftDs_unmarked ..
  | a => exact liftAr_unmarked ..
  | l => exact .refl

/-- R18: a NODE_UP or NODE_DOWN does not move the node count. -/
theorem tellUp_nodes (port : Line) (address : Nat) (s : State) :
    (tellUp port address s).rc.trouble.nodes = s.rc.trouble.nodes := by
  cases port with
  | p i => rfl
  | g i => exact liftLc_nodes (.nodeUp _)
  | d i => exact liftDs_nodes (.moduleUp ..)
  | a => exact liftAr_nodes .matrixUp
  | l => rfl

theorem tellDown_nodes (port : Line) (address : Nat) (s : State) :
    (tellDown port address s).rc.trouble.nodes = s.rc.trouble.nodes := by
  cases port with
  | p i => exact (zonesDown_responds ..).nodes
  | g i => exact liftLc_nodes (.nodeDown _)
  | d i => exact liftDs_nodes (.moduleDown ..)
  | a => exact liftAr_nodes .matrixDown
  | l => rfl

theorem finish_orderLift_unmarked (k : Nat) (s : State) : SameNodes Node.unmarked s (finish (orderLift k s)) := by
  rw [finish_eq]
  refine SameNodes.trans (b := settled (orderLift k s)) ?_ (.of_flc rfl)
  exact .ite (SameNodes.trans (b := orderLift k s) (.of_flc rfl) (liftAr_unmarked ..)) (.of_flc rfl)

theorem finish_orderLift_nodes (k : Nat) (s : State) :
    (finish (orderLift k s)).rc.trouble.nodes = s.rc.trouble.nodes := by
  rw [finish_eq]
  change (settled (orderLift k s)).rc.trouble.nodes = s.rc.trouble.nodes
  unfold settled
  split
  · exact liftAr_nodes .settle
  · rfl

/-! ## The delivery of a reply -/

theorem offerSnapshot_bare (link : Line) (s : State) : SameNodes Node.bare s (offerSnapshot link s) :=
  (queueAction_steady link .askSnapshot s).sameNodes

theorem offerAgain_bare (port : Line) (s : State) : SameNodes Node.bare s (offerAgain port s) :=
  .ite (offerSnapshot_bare ..) .refl

/-- R151: the delivery of a reply leaves the nodes but for their images and actions. -/
theorem deliver_bare (port : Line) (address : Nat) (c : Carried) (r : FieldReply) (s : State) :
    SameNodes Node.bare s (deliver port address c r s) := by
  cases r with
  | quiet => exact offerAgain_bare ..
  | changes es =>
    exact (Steady.foldl (op := fun b (e : Nat × Input) => arrive true .arrival port e.1 e.2 b)
      (fun b e => arrive_steady true .arrival port e.1 e.2 b) es s).sameNodes.trans (offerAgain_bare ..)
  | snapshot es =>
    exact SameNodes.trans (b := snapshotTaken port s) (.of_flc rfl)
      ((takeSnapshot_steady port es s).sameNodes.trans (offerAgain_bare ..))
  | group echo answer es =>
    cases port with
    | g i => exact (deliverGroup_steady ..).sameNodes
    | _ => exact .refl
  | module sensed => exact (liftDs_unmarked ..).bare
  | matrix marks => exact (liftAr_unmarked ..).bare

theorem replyDelivered_bare (port : Line) (sl : Slot) (r : FieldReply) (s : State) :
    SameNodes Node.bare s (replyDelivered port sl r s) :=
  (slotAnswered_steady port sl s).sameNodes.trans (deliver_bare ..)

theorem replyDelivered_nodes (port : Line) (sl : Slot) (r : FieldReply) (s : State) :
    (replyDelivered port sl r s).rc.trouble.nodes = s.rc.trouble.nodes := (deliver_responds ..).nodes

/-! ## What is dirty stays dirty -/

/-- R160: every image of the nodes of a key is dirty. -/
def AllDirty (port : Line) (address : Nat) (x : FLC) : Prop :=
  ∀ n ∈ x.nodes, n.port = port → n.address = address → ∀ m ∈ n.images, m.dirty = true

theorem AllDirty.settles {port : Line} {address : Nat} {x y : FLC} (h : AllDirty port address x) (k : x.Settles y) :
    AllDirty port address y := by
  intro n' hn' hport haddress m' hm'
  obtain ⟨n, hn, hport', haddress', himages⟩ := k.marks n' hn'
  obtain ⟨m, hm, -, hdirty⟩ := himages m' hm'
  exact hdirty (h n hn (hport'.trans hport) (haddress'.trans haddress) m hm)

/-- A change of nodes that leaves their keys and images. -/
theorem AllDirty.modNode {port p : Line} {address a : Nat} {x : FLC} {f : Node → Node} (h : AllDirty port address x)
    (hf : ∀ n, (f n).port = n.port ∧ (f n).address = n.address ∧ (f n).images = n.images) :
    AllDirty port address (x.modNode p a f) := by
  intro n' hn' hport haddress m hm
  obtain ⟨n, hn, rfl⟩ := List.mem_map.mp hn'
  by_cases hkey : (decide (n.port = p) && decide (n.address = a)) = true
  · rw [if_pos hkey] at hport haddress hm
    obtain ⟨hp, ha, himages⟩ := hf n
    exact h n hn (hp ▸ hport) (ha ▸ haddress) m (himages ▸ hm)
  · rw [if_neg hkey] at hport haddress hm
    exact h n hn hport haddress m hm

/-- R160 step 1: a node that enters LIVE. -/
theorem allDirty_goLive (port : Line) (address : Nat) (x : FLC) :
    AllDirty port address (x.modNode port address Node.goLive) := by
  intro n' hn' hport haddress m hm
  obtain ⟨n, -, rfl⟩ := List.mem_map.mp hn'
  by_cases hkey : (decide (n.port = port) && decide (n.address = address)) = true
  · rw [if_pos hkey] at hm
    obtain ⟨m', -, rfl⟩ := List.mem_map.mp hm
    rfl
  · rw [if_neg hkey] at hport haddress
    exact absurd (by simp [hport, haddress]) hkey

theorem AllDirty.found {port : Line} {address : Nat} {x : FLC} (h : AllDirty port address x) {n : Node}
    (hn : findNode x.nodes port address = some n) : ∀ m ∈ n.images, m.dirty = true := by
  obtain ⟨hport, haddress⟩ : n.port = port ∧ n.address = address := by simpa using List.find?_some hn
  exact h n (List.mem_of_find?_eq_some hn) hport haddress

end Sys2Proof.Machine
end

section
/-!
R160: NODE_UP and NODE_DOWN at their owners, the entries to LIVE and to LOST, and the link states behind a reply and a miss
(R159).
-/

namespace Sys2Proof.Machine

/-! ## What NODE_UP tells -/

theorem AllTell.emitIf {σ : Type} {b : Bool} {e : Eff} {a : Acc σ} (he : e.tells = true) (h : AllTell a.out) :
    AllTell (a.emitIf b e).out := by
  cases b
  · exact h
  · exact .emit he h

theorem LAcc.replaceCar_tells (env : LEnv) (old new : Car) {a : LAcc} (h : AllTell a.out) :
    AllTell (a.replaceCar env old new).out := .emitIf rfl (.emitIf rfl (.emitIf rfl h))

theorem LAcc.command_tells (env : LEnv) (g : Group) (service : Service) (cmd : Command) (c : Car) {a : LAcc}
    (h : AllTell a.out) : AllTell (a.command env g service cmd c).out := .emit rfl (LAcc.replaceCar_tells _ _ _ h)

theorem LAcc.recallCar_tells (env : LEnv) (n : Nat) {a : LAcc} (h : AllTell a.out) : AllTell (a.recallCar env n).out := by
  unfold LAcc.recallCar
  split
  · exact h
  · split
    · exact h
    · split
      · exact LAcc.command_tells _ _ _ _ _ h
      · dsimp only
        split
        · exact LAcc.replaceCar_tells _ _ _ h
        · exact LAcc.command_tells _ _ _ _ _ h

theorem LAcc.releaseCar_tells (env : LEnv) (n : Nat) {a : LAcc} (h : AllTell a.out) : AllTell (a.releaseCar env n).out := by
  unfold LAcc.releaseCar
  split
  · exact h
  · split
    · exact h
    · exact LAcc.command_tells _ _ _ _ _ h

theorem LAcc.reviveCar_tells (env : LEnv) (g : Group) (c : Car) {a : LAcc} (h : AllTell a.out) :
    AllTell (a.reviveCar env g c).out := by
  unfold LAcc.reviveCar
  split
  · split
    · exact LAcc.replaceCar_tells _ _ _ h
    · exact LAcc.replaceCar_tells _ _ _ h
    · split
      · exact LAcc.replaceCar_tells _ _ _ h
      · exact LAcc.releaseCar_tells _ _ h
    · split
      · exact LAcc.recallCar_tells _ _ h
      · exact LAcc.releaseCar_tells _ _ h
    · exact h
  · exact h

theorem LAcc.carUp_tells (env : LEnv) (g : Group) (n : Nat) {a : LAcc} (h : AllTell a.out) :
    AllTell (a.carUp env g n).out := by
  unfold LAcc.carUp
  split
  · exact h
  · rename_i c _
    have revived := LAcc.reviveCar_tells env g c h
    dsimp only
    split
    · exact revived
    · split <;> exact revived

/-- R96: NODE_UP of a group's node reports and marks car commands. -/
theorem LAcc.nodeUp_tells (env : LEnv) (n : Nat) {a : LAcc} (h : AllTell a.out) : AllTell (a.nodeUp env n).out := by
  unfold LAcc.nodeUp
  dsimp only
  split
  · exact h
  · exact foldl_keeps (P := fun b : LAcc => AllTell b.out) (fun _ _ hb => LAcc.carUp_tells _ _ _ hb) _ _ h

/-- R116: NODE_UP of a module's node marks its output image. -/
theorem DAcc.moduleUp_tells (loop : Line) (address : Nat) (x : DS) : AllTell (DAcc.moduleUp loop address ⟨x, []⟩).out := by
  unfold DAcc.moduleUp
  dsimp only
  have falls (l : List Nat) (b : DAcc) : Tells b (l.foldl (fun b _ => b.tell (.trouble .doors false)) b) :=
    foldl_tells (fun b _ => tell_tells rfl b) l b
  obtain ⟨l, hout, hl⟩ := (syncModule_tells loop address _).trans (falls
    (List.range (x.doors.filter (fun d => d.onModule loop address && d.supervised && d.cond = .fault)).length) _)
  rw [hout]
  exact hl

/-- R142: NODE_UP of the matrix node marks the channel images. -/
theorem AAcc.matrixUp_tells (env : AEnv) {a : AAcc} (h : AllTell a.out) : AllTell (a.matrixUp env).out :=
  foldl_keeps (P := fun b : AAcc => AllTell b.out) (fun _ _ hb => AAcc.modChannel_tells hb) _ _ h

theorem liftLc_settles {f : LAcc → LAcc} {s : State} (h : AllTell (f ⟨s.lc, []⟩).out) :
    s.flc.Settles (s.liftLc f).flc := applyEffs_settles h { s with lc := (f ⟨s.lc, []⟩).st }

theorem liftDs_settles {f : DAcc → DAcc} {s : State} (h : AllTell (f ⟨s.ds, []⟩).out) :
    s.flc.Settles (s.liftDs f).flc := applyEffs_settles h { s with ds := (f ⟨s.ds, []⟩).st }

theorem liftAr_settles {f : AAcc → AAcc} {s : State} (h : AllTell (f ⟨⟨s.ar, s.ev⟩, []⟩).out) :
    s.flc.Settles (s.liftAr f).flc :=
  applyEffs_settles h { s with ar := (f ⟨⟨s.ar, s.ev⟩, []⟩).st.ar, ev := (f ⟨⟨s.ar, s.ev⟩, []⟩).st.ev }

/-- R160: NODE_UP leaves what is dirty dirty. -/
theorem tellUp_settles (port : Line) (address : Nat) (s : State) : s.flc.Settles (tellUp port address s).flc := by
  cases port with
  | p i => exact .refl _
  | g i => exact liftLc_settles (LAcc.nodeUp_tells s.lenv i.val fun _ he => nomatch he)
  | d i => exact liftDs_settles (DAcc.moduleUp_tells (.d i) address s.ds)
  | a => exact liftAr_settles (AAcc.matrixUp_tells s.aenv fun _ he => nomatch he)
  | l => exact .refl _

/-- R116: NODE_UP sets the enable of every point of a module. -/
theorem DAcc.moduleUp_enables (loop : Line) (address : Nat) (a : DAcc) :
    ∀ d ∈ (a.moduleUp loop address).st.doors, d.loop = loop → d.address = address → d.enable = true := by
  intro d' hd' hloop haddress
  unfold DAcc.moduleUp at hd'
  simp only [foldl_tell_st, DAcc.syncModule_doors] at hd'
  obtain ⟨d, -, rfl⟩ := List.mem_map.mp hd'
  by_cases hon : d.onModule loop address = true
  · rw [if_pos hon]
    dsimp only
    split <;> rfl
  · rw [if_neg hon] at hloop haddress
    exact absurd (by simp [Door.onModule, hloop, haddress]) hon

/-! ## The entry to LIVE (R160) -/

/-- R160: the part with the node LIVE, ahead of the notices. -/
def liveReported (port : Line) (address : Nat) (s : State) : State :=
  reportNode .routine .nodeUp port address
    (if port.isPanel then offerSnapshot port (modNodeAt port address Node.goLive s) else modNodeAt port address Node.goLive s)

theorem enterLive_eq (port : Line) (address : Nat) (s : State) :
    enterLive port address s = troubleMove .nodes false (tellUp port address (liveReported port address s)) := rfl

theorem liveReported_bare (port : Line) (address : Nat) (s : State) :
    SameNodes Node.bare (modNodeAt port address Node.goLive s) (liveReported port address s) :=
  SameNodes.trans (.ite (offerSnapshot_bare ..) .refl) (.of_flc (reportNode_flc ..))

theorem liveReported_allDirty (port : Line) (address : Nat) (s : State) :
    AllDirty port address (liveReported port address s).flc := by
  have live : AllDirty port address (modNodeAt port address Node.goLive s).flc := allDirty_goLive port address s.flc
  unfold liveReported
  rw [reportNode_flc]
  split
  · change AllDirty port address (queueAction port .askSnapshot (modNodeAt port address Node.goLive s)).flc
    unfold queueAction
    split
    · refine live.modNode fun n => ?_
      split <;> exact ⟨rfl, rfl, rfl⟩
    · exact live
  · exact live

theorem liveReported_nodes (port : Line) (address : Nat) (s : State) :
    (liveReported port address s).rc.trouble.nodes = s.rc.trouble.nodes := by
  unfold liveReported
  rw [reportNode_rc]
  split
  · exact (offerSnapshot_responds ..).nodes
  · rfl

/-- R160: the node that enters LIVE. -/
theorem enterLive_found {port : Line} {address : Nat} {s : State} {n : Node}
    (hn : findNode s.flc.nodes port address = some n) : ∃ n',
      findNode (enterLive port address s).flc.nodes port address = some n' ∧ n'.link = .live ∧ n'.rotation = 0 := by
  have live : findNode (modNodeAt port address Node.goLive s).flc.nodes port address = some n.goLive :=
    findNode_modNode (f := Node.goLive) (fun _ => ⟨rfl, rfl⟩) hn
  have kept : SameNodes Node.bare (modNodeAt port address Node.goLive s) (enterLive port address s) :=
    (liveReported_bare port address s).trans ((tellUp_unmarked ..).bare.trans (.of_flc (troubleMove_flc ..)))
  obtain ⟨n', hn', hbare⟩ := kept.found (fun _ => ⟨rfl, rfl⟩) live
  exact ⟨n', hn', congrArg Node.link hbare, congrArg Node.rotation hbare⟩

theorem enterLive_allDirty (port : Line) (address : Nat) (s : State) :
    AllDirty port address (enterLive port address s).flc := by
  rw [enterLive_eq, troubleMove_flc]
  exact (liveReported_allDirty port address s).settles (tellUp_settles ..)

theorem enterLive_nodes (port : Line) (address : Nat) (s : State) :
    (enterLive port address s).rc.trouble.nodes = s.rc.trouble.nodes - 1 := by
  rw [enterLive_eq, troubleMove_trouble]
  change (tellUp port address (liveReported port address s)).rc.trouble.nodes - 1 = _
  rw [tellUp_nodes, liveReported_nodes]

theorem enterLive_enables {port : Line} (hport : port.isDoor = true) (address : Nat) (s : State) :
    ∀ d ∈ (enterLive port address s).ds.doors, d.loop = port → d.address = address → d.enable = true := by
  rw [enterLive_eq, troubleMove_ds]
  cases port with
  | d i =>
    rw [tellUp, liftDs_ds]
    exact DAcc.moduleUp_enables (.d i) address _
  | _ => nomatch hport

/-! ## The entry to LOST (R160) -/

/-- R154, R160: the node that enters LOST, its action queue emptied. -/
theorem enterLost_found {port : Line} {address : Nat} {s : State} {n : Node}
    (hn : findNode s.flc.nodes port address = some n) : ∃ n',
      findNode (enterLost port address s).flc.nodes port address = some n' ∧ n'.link = .lost ∧ n'.actions = [] := by
  have lost : findNode (modNodeAt port address (Node.fallTo .lost) s).flc.nodes port address = some (n.fallTo .lost) :=
    findNode_modNode (f := Node.fallTo .lost) (fun _ => ⟨rfl, rfl⟩) hn
  have kept : SameNodes Node.unmarked (modNodeAt port address (Node.fallTo .lost) s) (enterLost port address s) :=
    SameNodes.trans (.of_flc (reportNode_flc ..)) ((tellDown_unmarked ..).trans (.of_flc (troubleMove_flc ..)))
  obtain ⟨n', hn', hsame⟩ := kept.found (fun _ => ⟨rfl, rfl⟩) lost
  exact ⟨n', hn', congrArg Node.link hsame, congrArg Node.actions hsame⟩

theorem enterLost_nodes (port : Line) (address : Nat) (s : State) :
    (enterLost port address s).rc.trouble.nodes = s.rc.trouble.nodes + 1 := by
  unfold enterLost
  rw [troubleMove_trouble]
  change (tellDown port address _).rc.trouble.nodes + 1 = _
  rw [tellDown_nodes, reportNode_rc]
  rfl

/-! ## The supervision of an outcome (R158, R159) -/

theorem supervise_reply {port : Line} {address : Nat} {s : State} {n : Node}
    (hn : findNode s.flc.nodes port address = some n) : supervise true port address s =
      stateAfterReply port address (countGood n) (modNodeAt port address countGood s) := by
  have counted : findNode (modNodeAt port address countGood s).flc.nodes port address = some (countGood n) :=
    findNode_modNode (f := countGood) (fun _ => ⟨rfl, rfl⟩) hn
  simp only [supervise, if_true, counted]

theorem supervise_miss {port : Line} {address : Nat} {s : State} {n : Node}
    (hn : findNode s.flc.nodes port address = some n) : supervise false port address s =
      stateAfterMiss port address (countMiss n) (modNodeAt port address countMiss s) := by
  have counted : findNode (modNodeAt port address countMiss s).flc.nodes port address = some (countMiss n) :=
    findNode_modNode (f := countMiss) (fun _ => ⟨rfl, rfl⟩) hn
  simp only [supervise, Bool.false_eq_true, if_false, counted]

theorem sequenceNode_good (c : Carried) (r : FieldReply) (n : Node) : (sequenceNode c r n).good = n.good := by
  unfold sequenceNode
  split <;> rfl

/-- R159: the fourth good reply of a node in TRAINING is its entry to LIVE. -/
theorem replySupervised_training {port : Line} {sl : Slot} {s : State} {n : Node} (r : FieldReply)
    (hn : findNode s.flc.nodes port sl.address = some n) (hlink : n.link = .training) (hgood : n.good = 3) :
    ∃ u, findNode u.flc.nodes port sl.address = some (countGood (sequenceNode sl.carried r n)) ∧
      u.rc = s.rc ∧ replySupervised port sl r s = modNodeAt port sl.address restRotation (enterLive port sl.address u) := by
  have sequenced : findNode (modNodeAt port sl.address (sequenceNode sl.carried r) s).flc.nodes port sl.address =
      some (sequenceNode sl.carried r n) :=
    findNode_modNode (f := sequenceNode sl.carried r) (fun n => (sequenceNode_keeps_link sl.carried r n).2) hn
  refine ⟨modNodeAt port sl.address countGood (modNodeAt port sl.address (sequenceNode sl.carried r) s),
    findNode_modNode (f := countGood) (fun _ => ⟨rfl, rfl⟩) sequenced, rfl, ?_⟩
  have htraining : (countGood (sequenceNode sl.carried r n)).link = .training :=
    (sequenceNode_keeps_link sl.carried r n).1.trans hlink
  have hfour : (countGood (sequenceNode sl.carried r n)).good = 4 := by simp [countGood, sequenceNode_good, hgood]
  rw [replySupervised, supervise_reply sequenced, stateAfterReply, htraining]
  simp only [hfour, if_true]

/-- R159: the fifteenth miss of a SUSPECT node is its entry to LOST. -/
theorem supervise_suspect {port : Line} {address : Nat} {s : State} {n : Node}
    (hn : findNode s.flc.nodes port address = some n) (hlink : n.link = .suspect) (hmiss : n.miss = 14) :
    supervise false port address s = enterLost port address (modNodeAt port address countMiss s) := by
  have hsuspect : (countMiss n).link = .suspect := hlink
  have hfifteen : (countMiss n).miss = 15 := by simp [countMiss, hmiss]
  rw [supervise_miss hn, stateAfterMiss, hsuspect]
  simp only [hfifteen, if_true]

/-! ## The reply and the miss -/

theorem restRotation_of_start {n : Node} (h : n.rotation = 0) : restRotation n = n := by
  unfold restRotation
  split
  · rfl
  · rw [← h]

/-- R102, R159, R160: the event of a reply that brings its node from TRAINING to LIVE. -/
theorem fourthReply {i : Instr} {s : State} {f : FieldReceipt} {sl : Slot} {v : FieldReply} {n : Node}
    (hpower : s.powered = true) (hi : fieldCommand i = some f) (hvalid : ValidReply s f sl v)
    (hn : findNode s.flc.nodes f.port sl.address = some n) (hlink : n.link = .training) (hgood : n.good = 3) :
    ∃ t n', exec i s = .next t ∧ findNode t.flc.nodes f.port sl.address = some n' ∧ n'.link = .live ∧
      (∀ m ∈ n'.images, m.dirty = true) ∧ n'.rotation = 0 ∧ t.rc.trouble.nodes = s.rc.trouble.nodes - 1 ∧
      (f.port.isDoor = true → ∀ d ∈ t.ds.doors, d.loop = f.port → d.address = sl.address → d.enable = true) := by
  obtain ⟨n1, hn1, hbare⟩ := (replyDelivered_bare f.port sl v s.cleared).found (fun _ => ⟨rfl, rfl⟩) hn
  obtain ⟨u, hu, hrc, hsupervised⟩ := replySupervised_training v hn1 ((congrArg Node.link hbare).trans hlink)
    ((congrArg Node.good hbare).trans hgood)
  obtain ⟨n2, hn2, hlive, hrotation⟩ := enterLive_found hu
  have dirty := enterLive_allDirty f.port sl.address u
  have rested : findNode (modNodeAt f.port sl.address restRotation (enterLive f.port sl.address u)).flc.nodes f.port
      sl.address = some n2 := by
    have hrest := findNode_modNode (f := restRotation) (fun n => by unfold restRotation; split <;> exact ⟨rfl, rfl⟩) hn2
    rwa [restRotation_of_start hrotation] at hrest
  have restedDirty : AllDirty f.port sl.address
      (modNodeAt f.port sl.address restRotation (enterLive f.port sl.address u)).flc :=
    dirty.modNode fun n => by unfold restRotation; split <;> exact ⟨rfl, rfl, rfl⟩
  have hend := finish_orderLift_endsIn s.sp.reports.length
    (modNodeAt f.port sl.address restRotation (enterLive f.port sl.address u))
  obtain ⟨n3, hn3, hsame⟩ := (finish_orderLift_unmarked s.sp.reports.length
    (modNodeAt f.port sl.address restRotation (enterLive f.port sl.address u))).found (fun _ => ⟨rfl, rfl⟩) rested
  refine ⟨_, n3, (hvalid.exec_eq hi hpower).trans (by rw [hsupervised]), hn3, (congrArg Node.link hsame).trans hlive,
    (restedDirty.settles hend.settles).found hn3, (congrArg Node.rotation hsame).trans hrotation, ?_, fun hdoor => ?_⟩
  · rw [finish_orderLift_nodes]
    change (enterLive f.port sl.address u).rc.trouble.nodes = _
    rw [enterLive_nodes, hrc, replyDelivered_nodes]
  · rw [hend.ds]
    exact enterLive_enables hdoor sl.address u

/-- R148, R152, R153: the part with the slot ended and the miss told, ahead of the supervision. -/
def missTold (port : Line) (sl : Slot) (s : State) : State :=
  match missedCar s.flc port sl with
  | some n => (modNodeAt port sl.address (missedNode sl.carried) (s.modFlc (endSlot port))).liftLc (LAcc.missed s.lenv n)
  | none => modNodeAt port sl.address (missedNode sl.carried) (s.modFlc (endSlot port))

theorem missSlot_eq {port : Line} {sl : Slot} {s : State} (h : (findPort s.flc.ports port).bind (·.slot) = some sl) :
    missSlot port s = supervise false port sl.address (missTold port sl s) := by
  rw [missSlot, h]
  rfl

theorem missTold_leaves (port : Line) (sl : Slot) (s : State) :
    SameNodes Node.unmarked s (missTold port sl s) ∧ (missTold port sl s).rc.trouble.nodes = s.rc.trouble.nodes := by
  have ended : SameNodes Node.unmarked s (modNodeAt port sl.address (missedNode sl.carried) (s.modFlc (endSlot port))) := by
    refine map_mapIf _ _ _ (fun n => ?_) _
    unfold missedNode
    split <;> rfl
  unfold missTold
  split
  · exact ⟨ended.trans (liftLc_unmarked ..), liftLc_nodes (.missed _)⟩
  · exact ⟨ended, rfl⟩

/-- R159, R160: the event of a miss that brings its node from SUSPECT to LOST. -/
theorem fifteenthMiss {s : State} {port : Line} {sl : Slot} {n : Node} (hpower : s.powered = true)
    (hslot : (findPort s.flc.ports port).bind (·.slot) = some sl)
    (hn : findNode s.flc.nodes port sl.address = some n) (hlink : n.link = .suspect) (hmiss : n.miss = 14) :
    ∃ t n', exec (.replyWindowMiss port) s = .next t ∧ findNode t.flc.nodes port sl.address = some n' ∧
      n'.link = .lost ∧ n'.actions = [] ∧ t.rc.trouble.nodes = s.rc.trouble.nodes + 1 := by
  obtain ⟨kept, hnodes⟩ := missTold_leaves port sl s.cleared
  obtain ⟨n1, hn1, hsame1⟩ := kept.found (s := s.cleared) (fun _ => ⟨rfl, rfl⟩) hn
  have hlost : missSlot port s.cleared =
      enterLost port sl.address (modNodeAt port sl.address countMiss (missTold port sl s.cleared)) :=
    (missSlot_eq (s := s.cleared) hslot).trans (supervise_suspect hn1 ((congrArg Node.link hsame1).trans hlink)
      ((congrArg Node.miss hsame1).trans hmiss))
  obtain ⟨n2, hn2, hlink2, hactions⟩ := enterLost_found
    (s := modNodeAt port sl.address countMiss (missTold port sl s.cleared))
    (findNode_modNode (f := countMiss) (fun _ => ⟨rfl, rfl⟩) hn1)
  rw [← hlost] at hn2
  obtain ⟨n3, hn3, hsame3⟩ := (finish_orderLift_unmarked s.sp.reports.length (missSlot port s.cleared)).found
    (fun _ => ⟨rfl, rfl⟩) hn2
  refine ⟨_, n3, event_powered (missSlot port) hpower, hn3, (congrArg Node.link hsame3).trans hlink2,
    (congrArg Node.actions hsame3).trans hactions, ?_⟩
  rw [finish_orderLift_nodes, hlost, enterLost_nodes]
  exact congrArg (· + 1) hnodes

/-- Settles O51: the fourth good reply by the entry to LIVE, the fifteenth miss by the entry to LOST. -/
theorem nodeLinkRule : Obligations.NodeLinkRule :=
  ⟨fun _ _ _ _ _ _ hpower hi hvalid hn hlink hgood => fourthReply hpower hi hvalid hn hlink hgood,
    fun _ _ _ _ hpower hslot hn hlink hmiss => fifteenthMiss hpower hslot hn hlink hmiss⟩

end Sys2Proof.Machine
end

section
/-!
The announcement table read by ids: what the record of an id is after each of the changes that the Announcement Router's operations
are made of (R122), and what these changes leave of the claims, the channels and the wait list.
-/

namespace Sys2Proof.Machine

/-! ## Records found -/

theorem findRec_spec {x : AR} {id : Nat} {r : Rec} (h : findRec x id = some r) : r ∈ x.records ∧ r.id = id :=
  ⟨List.mem_of_find?_eq_some h, by simpa using List.find?_some h⟩

theorem findRec_congr {x y : AR} (h : y.records = x.records) (id : Nat) : findRec y id = findRec x id := by
  rw [findRec, findRec, h]

theorem findRec_isSome {x : AR} {id : Nat} : (findRec x id).isSome = true ↔ ∃ r ∈ x.records, r.id = id := by
  simp [findRec]

/-- Where ids are given once, the record of a record's id is the record. -/
theorem findRec_of_mem {x : AR} (hids : (x.records.map (·.id)).Nodup) {r : Rec} (hr : r ∈ x.records) :
    findRec x r.id = some r := by
  obtain ⟨q, hq⟩ := Option.isSome_iff_exists.mp (findRec_isSome.mpr ⟨r, hr, rfl⟩)
  obtain ⟨hmem, hid⟩ := findRec_spec hq
  rw [hq, List.inj_on_of_nodup_map hids hmem hr hid]

theorem mem_records_iff {x : AR} (hids : (x.records.map (·.id)).Nodup) {id : Nat} {p : Rec → Prop} :
    (∃ r ∈ x.records, r.id = id ∧ p r) ↔ ∃ r, findRec x id = some r ∧ p r := by
  constructor
  · rintro ⟨r, hr, rfl, hp⟩
    exact ⟨r, findRec_of_mem hids hr, hp⟩
  · rintro ⟨r, hr, hp⟩
    obtain ⟨hmem, hid⟩ := findRec_spec hr
    exact ⟨r, hmem, hid, hp⟩

/-! ## Changes of the record -/

/-- A record in a given state. -/
def Rec.inState (st : RecState) (r : Rec) : Rec := { r with state := st }

/-- R123: a record with a floor added to its owned floors. -/
def Rec.gained (f : Nat) (r : Rec) : Rec := { r with owned := addBit r.owned f }

/-- R123: a record with a floor taken from its owned floors. -/
def Rec.lost (f : Nat) (r : Rec) : Rec := { r with owned := dropBit r.owned f }

/-- R125: a record with a floor taken from its requested floors. -/
def Rec.cut (f : Nat) (r : Rec) : Rec := { r with requested := r.requested.map (dropBit · f) }

/-- R122: a record that reaches ENDED. -/
def Rec.retired (r : Rec) : Rec := { r with state := .ended, owned := 0 }

/-- R132: a record without its channel. -/
def Rec.unchanneled (r : Rec) : Rec := { r with channel := none }

/-- R128: a record that is granted a channel. -/
def Rec.granted (n : Nat) (r : Rec) : Rec := { r with channel := some n, state := .playing }

theorem Rec.inState_id (st : RecState) (r : Rec) : (r.inState st).id = r.id := rfl
theorem Rec.gained_id (f : Nat) (r : Rec) : (r.gained f).id = r.id := rfl
theorem Rec.lost_id (f : Nat) (r : Rec) : (r.lost f).id = r.id := rfl
theorem Rec.cut_id (f : Nat) (r : Rec) : (r.cut f).id = r.id := rfl
theorem Rec.retired_id (r : Rec) : r.retired.id = r.id := rfl
theorem Rec.unchanneled_id (r : Rec) : r.unchanneled.id = r.id := rfl
theorem Rec.granted_id (n : Nat) (r : Rec) : (r.granted n).id = r.id := rfl
theorem Rec.played_id (r : Rec) : r.played.id = r.id := rfl

/-! ## Changes of the Announcement Router -/

/-- One record changed. -/
def AR.modRec (id : Nat) (f : Rec → Rec) (x : AR) : AR :=
  { x with records := mapIf (fun r => r.id = id) f x.records }

/-- The claims of one floor replaced. -/
def AR.setClaims (f : Nat) (c : Claims) (x : AR) : AR := { x with claims := x.claims.set f c }

/-- One channel changed. -/
def AR.modChannel (n : Nat) (f : Channel → Channel) (x : AR) : AR := { x with channels := x.channels.modify n f }

/-- One record taken out of the table. -/
def AR.without (id : Nat) (x : AR) : AR := { x with records := x.records.filter (fun r => r.id != id) }

/-- R122: a record put into the table. -/
def AR.insert (r : Rec) (x : AR) : AR :=
  { x with records := insertBy (fun r => r.slot) r x.records, nextId := nextIdAfter r.id }

/-- The wait list replaced. -/
def AR.relist (l : List Nat) (x : AR) : AR := { x with waitList := l }

@[simp] theorem AAcc.modRec_ar (id : Nat) (f : Rec → Rec) (a : AAcc) : (a.modRec id f).st.ar = a.st.ar.modRec id f := rfl

@[simp] theorem AAcc.setClaims_ar (f : Nat) (c : Claims) (a : AAcc) : (a.setClaims f c).st.ar = a.st.ar.setClaims f c := rfl

@[simp] theorem AAcc.report_ar (cause : AnnCause) (id : Nat) (a : AAcc) (floors : Option FloorSet) :
    (a.report cause id floors).st.ar = a.st.ar := by
  rw [AAcc.report_st]

@[simp] theorem AAcc.ev_ar (f : Scratch → Scratch) (a : AAcc) : (a.ev f).st.ar = a.st.ar := rfl

@[simp] theorem AAcc.touch_ar (a : AAcc) : a.touch.st.ar = a.st.ar := rfl

@[simp] theorem AAcc.ar_ar (f : AR → AR) (a : AAcc) : (a.ar f).st.ar = f a.st.ar := rfl

@[simp] theorem AAcc.modChannel_ar (env : AEnv) (n : Nat) (f : Channel → Channel) (a : AAcc) :
    (a.modChannel env n f).st.ar = a.st.ar.modChannel n f := by
  rw [AAcc.modChannel_st]
  rfl

@[simp] theorem AAcc.flushDisplaced_ar (id : Nat) (a : AAcc) : (a.flushDisplaced id).st.ar = a.st.ar := by
  unfold AAcc.flushDisplaced
  split
  · rfl
  · rw [AAcc.ev_ar, AAcc.report_ar]

/-! ## The record of an id after a change -/

theorem findRec_modRec {id : Nat} {f : Rec → Rec} (hf : ∀ r, (f r).id = r.id) (x : AR) (j : Nat) :
    findRec (x.modRec id f) j = if j = id then (findRec x id).map f else findRec x j := by
  have hkey : (fun r : Rec => decide (r.id = j)) ∘ (fun r => if decide (r.id = id) then f r else r) =
      fun r => decide (r.id = j) := by
    funext r
    by_cases hr : r.id = id <;> simp [hr, hf]
  rw [findRec, AR.modRec, mapIf, List.find?_map, hkey]
  change Option.map _ (findRec x j) = _
  cases hj : findRec x j with
  | none =>
    split
    case isTrue h => simp [← h, hj]
    case isFalse => rfl
  | some r =>
    have hid := (findRec_spec hj).2
    split
    case isTrue h => simp [← h, hj, hid]
    case isFalse h => simp [hid, h]

theorem findRec_modRec_self {id : Nat} {f : Rec → Rec} (hf : ∀ r, (f r).id = r.id) (x : AR) :
    findRec (x.modRec id f) id = (findRec x id).map f := by
  rw [findRec_modRec hf, if_pos rfl]

theorem findRec_modRec_ne {id j : Nat} {f : Rec → Rec} (hf : ∀ r, (f r).id = r.id) (h : j ≠ id) (x : AR) :
    findRec (x.modRec id f) j = findRec x j := by
  rw [findRec_modRec hf, if_neg h]

/-- What a change of one record leaves of a field, it leaves of every record. -/
theorem findRec_modRec_map {α : Type} {id : Nat} {f : Rec → Rec} (hf : ∀ r, (f r).id = r.id) (key : Rec → α)
    (hkey : ∀ r, key (f r) = key r) (x : AR) (j : Nat) :
    (findRec (x.modRec id f) j).map key = (findRec x j).map key := by
  rw [findRec_modRec hf]
  split
  case isTrue h =>
    subst h
    rw [Option.map_map]
    exact congrArg (fun k => Option.map k (findRec x j)) (funext hkey)
  case isFalse => rfl

theorem findRec_without (id : Nat) (x : AR) (j : Nat) :
    findRec (x.without id) j = if j = id then none else findRec x j := by
  split
  case isTrue h =>
    refine List.find?_eq_none.mpr fun r hr => ?_
    simpa [h] using (List.mem_filter.mp hr).2
  case isFalse h =>
    rw [findRec, AR.without, List.find?_filter, findRec]
    refine congrArg (fun p => List.find? p x.records) (funext fun r => ?_)
    by_cases hr : r.id = j
    · simp [hr, h]
    · simp [hr]

theorem find?_insertBy {α : Type} {key : α → Nat} {p : α → Bool} {x : α} {l : List α} (h : l.find? p = none) :
    (insertBy key x l).find? p = if p x then some x else none := by
  induction l with
  | nil =>
    cases hx : p x <;> simp [insertBy, hx]
  | cons y l ih =>
    have hy : p y = false := by simpa using List.find?_eq_none.mp h y List.mem_cons_self
    have hl : l.find? p = none := by simpa [List.find?_cons, hy] using h
    unfold insertBy
    split
    · cases hx : p x <;> simp [hx, hy, hl]
    · rw [List.find?_cons, hy, ih hl]

theorem find?_insertBy_false {α : Type} {key : α → Nat} {p : α → Bool} {x : α} (hx : p x = false) (l : List α) :
    (insertBy key x l).find? p = l.find? p := by
  induction l with
  | nil => simp [insertBy, hx]
  | cons y l ih =>
    unfold insertBy
    split
    · rw [List.find?_cons, hx]
    · rw [List.find?_cons, List.find?_cons, ih]

theorem findRec_insert {r : Rec} {x : AR} (h : findRec x r.id = none) (j : Nat) :
    findRec (x.insert r) j = if j = r.id then some r else findRec x j := by
  split
  case isTrue hj =>
    subst hj
    refine (find?_insertBy h).trans ?_
    simp
  case isFalse hj => exact find?_insertBy_false (by simpa using Ne.symm hj) x.records

/-- R122: a renumbering moves creation numbers alone. -/
theorem nextCreation_records (x : AR) : ∃ g : Rec → Nat,
    (nextCreation x).records = x.records.map (fun r => { r with creation := g r }) := by
  unfold nextCreation
  dsimp only
  split
  · exact ⟨Rec.creation, (List.map_id _).symm⟩
  · exact ⟨_, rfl⟩

theorem findRec_nextCreation (x : AR) : ∃ g : Rec → Nat, ∀ j,
    findRec (nextCreation x) j = (findRec x j).map (fun r => { r with creation := g r }) := by
  obtain ⟨g, hg⟩ := nextCreation_records x
  refine ⟨g, fun j => ?_⟩
  rw [findRec, hg, List.find?_map]
  rfl

/-- R122: a renumbering, and the counter raised, leave the rest. -/
theorem nextCreation_rest (x : AR) : (nextCreation x).claims = x.claims ∧ (nextCreation x).channels = x.channels ∧
    (nextCreation x).waitList = x.waitList ∧ (nextCreation x).nextId = x.nextId := by
  unfold nextCreation
  dsimp only
  split <;> exact ⟨rfl, rfl, rfl, rfl⟩

/-! ## Operations on one record -/

theorem insertId_perm (a : AR) (before : Rec → Rec → Bool) (x : Rec) (l : List Nat) :
    (insertId a before x l).Perm (x.id :: l) := by
  induction l with
  | nil => exact .refl _
  | cons y l ih =>
    have behind : (y :: insertId a before x l).Perm (x.id :: y :: l) := (ih.cons y).trans (.swap ..)
    unfold insertId
    split
    · split
      · exact .refl _
      · exact behind
    · exact behind

/-- R129: a record that enters WAITING joins the wait list. -/
theorem AAcc.enterWaiting_ar {id : Nat} {a : AAcc} {r : Rec} (h : findRec a.st.ar id = some r) : ∃ l,
    (a.enterWaiting id).st.ar = (a.st.ar.modRec id (Rec.inState .waiting)).relist l ∧
      l.Perm (id :: a.st.ar.waitList) := by
  have hfound : findRec (a.modRec id (Rec.inState .waiting)).st.ar id = some (r.inState .waiting) := by
    rw [AAcc.modRec_ar, findRec_modRec_self (Rec.inState_id _), h]
    rfl
  have hid := (findRec_spec h).2
  unfold AAcc.enterWaiting
  dsimp only
  split
  case h_1 hnone => exact absurd (hfound.symm.trans hnone) (Option.some_ne_none _)
  case h_2 q hq =>
    obtain rfl := Option.some.inj (hfound.symm.trans hq)
    exact ⟨_, rfl, hid ▸ insertId_perm ..⟩

/-- R123: what a gained floor makes of the Announcement Router: the floor is owned, and a SUSPENDED record that owned none enters
WAITING. -/
theorem AAcc.gain_ar {id f : Nat} {a : AAcc} {r : Rec} (h : findRec a.st.ar id = some r) :
    (a.gain id f).st.ar =
      if r.owned = 0 && r.state = .suspended then
        ((a.modRec id (Rec.gained f)).enterWaiting id).st.ar
      else a.st.ar.modRec id (Rec.gained f) := by
  unfold AAcc.gain
  rw [h]
  dsimp only
  split
  · split
    · rfl
    · exact AAcc.report_ar ..
  · rfl

theorem AAcc.gain_none {id f : Nat} {a : AAcc} (h : findRec a.st.ar id = none) : a.gain id f = a := by
  rw [AAcc.gain, h]

/-- R126: the entries of a floor's stack that remain where it passes on. -/
def remaining (env : AEnv) (x : AR) (f : Nat) : List Nat :=
  (claimsOf x f).stack.dropWhile (fun id =>
    match findRec x id with
    | some r => !eligible env r f
    | none => true)

theorem remaining_sublist (env : AEnv) (x : AR) (f : Nat) : (remaining env x f).Sublist (claimsOf x f).stack :=
  (List.dropWhile_suffix _).sublist

theorem AAcc.promote_nil {env : AEnv} {f : Nat} {a : AAcc} (h : remaining env a.st.ar f = []) :
    a.promote env f = a.setClaims f ⟨none, []⟩ := by
  unfold AAcc.promote
  dsimp only
  change (match remaining env a.st.ar f with
    | [] => _
    | id :: ids => _) = _
  rw [h]

theorem AAcc.promote_cons {env : AEnv} {f id : Nat} {ids : List Nat} {a : AAcc} (h : remaining env a.st.ar f = id :: ids) :
    a.promote env f = (a.setClaims f ⟨some id, ids⟩).gain id f := by
  unfold AAcc.promote
  dsimp only
  change (match remaining env a.st.ar f with
    | [] => _
    | id :: ids => _) = _
  rw [h]

theorem AAcc.releaseOf_some {env : AEnv} {id n : Nat} {a : AAcc} {r : Rec} (h : findRec a.st.ar id = some r)
    (hn : r.channel = some n) :
    (a.releaseOf env id).st.ar = (a.st.ar.modChannel n releaseChannel).modRec id Rec.unchanneled := by
  unfold AAcc.releaseOf
  rw [h, Option.bind_some, hn]
  dsimp only
  rw [AAcc.modRec_ar, AAcc.modChannel_ar]
  rfl

theorem AAcc.releaseOf_none {env : AEnv} {id : Nat} {a : AAcc} (h : ∀ r, findRec a.st.ar id = some r → r.channel = none) :
    a.releaseOf env id = a := by
  have hnone : (findRec a.st.ar id).bind (·.channel) = none := by
    cases hr : findRec a.st.ar id with
    | none => rfl
    | some r => exact h r hr
  rw [AAcc.releaseOf, hnone]

theorem findRec_releaseOf (env : AEnv) (id : Nat) (a : AAcc) (j : Nat) : findRec (a.releaseOf env id).st.ar j =
    if j = id then (findRec a.st.ar id).map Rec.unchanneled else findRec a.st.ar j := by
  cases hr : (findRec a.st.ar id).bind (·.channel) with
  | some n =>
    obtain ⟨r, hr, hn⟩ := Option.bind_eq_some_iff.mp hr
    rw [AAcc.releaseOf_some hr hn, findRec_modRec Rec.unchanneled_id]
    rfl
  | none =>
    have hnone : ∀ r, findRec a.st.ar id = some r → r.channel = none := fun r h => by simpa [h] using hr
    rw [AAcc.releaseOf_none hnone]
    split
    case isFalse => rfl
    case isTrue h =>
      subst h
      cases h : findRec a.st.ar j with
      | none => rfl
      | some r =>
        obtain hnone := hnone r h
        cases r
        cases hnone
        rfl

theorem AAcc.releaseOf_waitList (env : AEnv) (id : Nat) (a : AAcc) :
    (a.releaseOf env id).st.ar.waitList = a.st.ar.waitList ∧ (a.releaseOf env id).st.ar.claims = a.st.ar.claims := by
  unfold AAcc.releaseOf
  split
  · exact ⟨rfl, rfl⟩
  · rw [AAcc.modRec_ar, AAcc.modChannel_ar]
    exact ⟨rfl, rfl⟩

end Sys2Proof.Machine
end

section
/-!
The channel pool and the wait list in the course of an event (R122, R123, R128 to R131): every operation of the Announcement Router
keeps them. Between the retirement of a record and the freeing of its slot the wait list may hold it still; in a settlement no
record that waits or is suspended holds a channel.
-/

namespace Sys2Proof.Machine

/-! ## The pool and the wait list -/

/-- R128: the holder of a channel. -/
def holderOf (x : AR) (n : Nat) : Option Nat := (x.channels[n]?).bind (·.holder)

/-- R128, R129: the pool and the wait list, with the records of `gone` being ended. -/
structure AR.Pooled (settling : Prop) (gone : Nat → Prop) (x : AR) : Prop where
  held : ∀ n id, holderOf x n = some id ↔ ∃ r, findRec x id = some r ∧ r.channel = some n
  once : x.waitList.Nodup
  waiting : ∀ id, ¬ gone id → (id ∈ x.waitList ↔ ∃ r, findRec x id = some r ∧ r.state = .waiting)
  ended : ∀ id r, gone id → findRec x id = some r → r.state = .ended
  rested : settling → ∀ id r, findRec x id = some r → r.state = .waiting ∨ r.state = .suspended → r.channel = none

/-- No record is being ended. -/
abbrev noneGone : Nat → Prop := fun _ => False

/-- What the pool and the wait list read of a record. -/
def Rec.place (r : Rec) : Option Nat × RecState := (r.channel, r.state)

section Pooled

variable {settling : Prop} {gone : Nat → Prop} {x y : AR}

/-- A change that leaves the holders, the wait list, and what the pool reads of each record. -/
theorem AR.Pooled.of_same (h : x.Pooled settling gone) (hholder : ∀ n, holderOf y n = holderOf x n)
    (hlist : y.waitList = x.waitList) (hrec : ∀ i, (findRec y i).map Rec.place = (findRec x i).map Rec.place) :
    y.Pooled settling gone := by
  have back {i : Nat} {r : Rec} (hr : findRec y i = some r) :
      ∃ q, findRec x i = some q ∧ q.channel = r.channel ∧ q.state = r.state := by
    obtain ⟨q, hq, hplace⟩ := Option.map_eq_some_iff.mp ((hrec i).symm.trans (congrArg (Option.map Rec.place) hr))
    exact ⟨q, hq, congrArg Prod.fst hplace, congrArg Prod.snd hplace⟩
  have forth {i : Nat} {q : Rec} (hq : findRec x i = some q) :
      ∃ r, findRec y i = some r ∧ r.channel = q.channel ∧ r.state = q.state := by
    obtain ⟨r, hr, hplace⟩ := Option.map_eq_some_iff.mp ((hrec i).trans (congrArg (Option.map Rec.place) hq))
    exact ⟨r, hr, congrArg Prod.fst hplace, congrArg Prod.snd hplace⟩
  refine ⟨fun n id => ?_, hlist ▸ h.once, fun id hid => ?_, fun id r hid hr => ?_, fun hs id r hr hstate => ?_⟩
  · rw [hholder, h.held]
    constructor
    · rintro ⟨q, hq, hn⟩
      obtain ⟨r, hr, hchannel, -⟩ := forth hq
      exact ⟨r, hr, hchannel.trans hn⟩
    · rintro ⟨r, hr, hn⟩
      obtain ⟨q, hq, hchannel, -⟩ := back hr
      exact ⟨q, hq, hchannel.trans hn⟩
  · rw [hlist, h.waiting id hid]
    constructor
    · rintro ⟨q, hq, hn⟩
      obtain ⟨r, hr, -, hstate⟩ := forth hq
      exact ⟨r, hr, hstate.trans hn⟩
    · rintro ⟨r, hr, hn⟩
      obtain ⟨q, hq, -, hstate⟩ := back hr
      exact ⟨q, hq, hstate.trans hn⟩
  · obtain ⟨q, hq, -, hsame⟩ := back hr
    exact hsame.symm.trans (h.ended id q hid hq)
  · obtain ⟨q, hq, hchannel, hsame⟩ := back hr
    exact hchannel.symm.trans (h.rested hs id q hq (hsame ▸ hstate))

theorem AR.Pooled.of_eq (h : x.Pooled settling gone) (hc : y.channels = x.channels) (hlist : y.waitList = x.waitList)
    (hr : y.records = x.records) : y.Pooled settling gone :=
  h.of_same (fun n => by rw [holderOf, hc, holderOf]) hlist (fun i => by rw [findRec_congr hr])

/-- A change of one record that leaves its channel and its state. -/
theorem AR.Pooled.modRec {f : Rec → Rec} (h : x.Pooled settling gone) (hf : ∀ r, (f r).id = r.id)
    (hplace : ∀ r, (f r).place = r.place) (id : Nat) : (x.modRec id f).Pooled settling gone :=
  h.of_same (fun _ => rfl) rfl (findRec_modRec_map hf Rec.place hplace x)

theorem holderOf_modChannel (n : Nat) (f : Channel → Channel) (x : AR) (m : Nat) :
    holderOf (x.modChannel n f) m = if m = n then (x.channels[n]?).bind (fun c => (f c).holder) else holderOf x m := by
  rw [holderOf, AR.modChannel, List.getElem?_modify]
  by_cases hm : m = n
  · subst hm
    rw [if_pos rfl]
    cases x.channels[m]? <;> simp
  · rw [if_neg hm, holderOf]
    cases x.channels[m]? <;> simp [Ne.symm hm]

/-- A change of one channel that leaves its holder. -/
theorem AR.Pooled.modChannel {f : Channel → Channel} (h : x.Pooled settling gone) (hf : ∀ c, (f c).holder = c.holder)
    (n : Nat) : (x.modChannel n f).Pooled settling gone := by
  refine h.of_same (fun m => ?_) rfl fun _ => rfl
  rw [holderOf_modChannel]
  split
  case isTrue hm =>
    subst hm
    simp only [hf]
    rfl
  case isFalse => rfl

/-! ## Moves of a record (R123) -/

/-- R129: a record that neither waits nor is ended enters WAITING and the wait list. -/
theorem AR.Pooled.enter {id : Nat} {r : Rec} (h : x.Pooled settling gone) (hr : findRec x id = some r)
    (hstate : r.state ≠ .waiting) (hended : r.state ≠ .ended) (hchannel : settling → r.channel = none) {l : List Nat}
    (hl : l.Perm (id :: x.waitList)) : ((x.modRec id (Rec.inState .waiting)).relist l).Pooled settling gone := by
  have hgone : ¬ gone id := fun hid => hended (h.ended id r hid hr)
  have hout : id ∉ x.waitList := by
    rw [h.waiting id hgone]
    rintro ⟨q, hq, hwaits⟩
    exact hstate (Option.some.inj (hr.symm.trans hq) ▸ hwaits)
  have hfind := findRec_modRec (Rec.inState_id .waiting) (id := id) x
  have hself : findRec (x.modRec id (Rec.inState .waiting)) id = some (r.inState .waiting) := by
    rw [hfind, if_pos rfl, hr]
    rfl
  have hother {j : Nat} (hj : j ≠ id) : findRec (x.modRec id (Rec.inState .waiting)) j = findRec x j := by
    rw [hfind, if_neg hj]
  refine ⟨fun n j => (h.held n j).trans ?_, hl.nodup_iff.mpr (List.nodup_cons.mpr ⟨hout, h.once⟩), fun j hj => ?_,
    fun j q hj hq => ?_, fun hs j q hq hplace => ?_⟩
  · by_cases hid : j = id
    · subst hid
      change _ ↔ ∃ q, findRec (x.modRec j (Rec.inState .waiting)) j = some q ∧ q.channel = some n
      rw [hself, hr]
      simp [Rec.inState]
    · change _ ↔ ∃ q, findRec (x.modRec id (Rec.inState .waiting)) j = some q ∧ q.channel = some n
      rw [hother hid]
  · change j ∈ l ↔ ∃ q, findRec (x.modRec id (Rec.inState .waiting)) j = some q ∧ q.state = .waiting
    rw [hl.mem_iff, List.mem_cons]
    by_cases hid : j = id
    · subst hid
      rw [hself]
      simp [Rec.inState]
    · rw [hother hid, ← h.waiting j hj]
      simp [hid]
  · obtain rfl | hid := eq_or_ne j id
    · exact absurd hj hgone
    · exact h.ended j q hj ((hother hid).symm.trans hq)
  · obtain rfl | hid := eq_or_ne j id
    · obtain rfl := Option.some.inj (hself.symm.trans hq)
      exact hchannel hs
    · exact h.rested hs j q ((hother hid).symm.trans hq) hplace

/-- R123, R129: a record goes to a state other than WAITING, out of the wait list. -/
theorem AR.Pooled.leave {id : Nat} (h : x.Pooled settling gone) {st : RecState} (hst : st ≠ .waiting)
    (hended : gone id → st = .ended) (hrests : settling → st ≠ .suspended) :
    ((x.modRec id (Rec.inState st)).relist (x.waitList.erase id)).Pooled settling gone := by
  have hfind := findRec_modRec (Rec.inState_id st) (id := id) x
  have hother {j : Nat} (hj : j ≠ id) : findRec (x.modRec id (Rec.inState st)) j = findRec x j := by
    rw [hfind, if_neg hj]
  have hself {q : Rec} (hq : findRec (x.modRec id (Rec.inState st)) id = some q) :
      ∃ r, findRec x id = some r ∧ r.inState st = q := by
    rw [hfind, if_pos rfl] at hq
    exact Option.map_eq_some_iff.mp hq
  refine ⟨fun n j => (h.held n j).trans ?_, h.once.erase id, fun j hj => ?_, fun j q hj hq => ?_,
    fun hs j q hq hplace => ?_⟩
  · change _ ↔ ∃ q, findRec (x.modRec id (Rec.inState st)) j = some q ∧ q.channel = some n
    by_cases hid : j = id
    · subst hid
      rw [hfind, if_pos rfl]
      cases findRec x j <;> simp [Rec.inState]
    · rw [hother hid]
  · change j ∈ x.waitList.erase id ↔ ∃ q, findRec (x.modRec id (Rec.inState st)) j = some q ∧ q.state = .waiting
    by_cases hid : j = id
    · subst hid
      refine iff_of_false (fun hmem => ?_) ?_
      · exact (h.once.mem_erase_iff.mp hmem).1 rfl
      · rintro ⟨q, hq, hwaits⟩
        obtain ⟨r, -, rfl⟩ := hself hq
        exact hst hwaits
    · rw [List.mem_erase_of_ne hid, hother hid, h.waiting j hj]
  · obtain rfl | hid := eq_or_ne j id
    · obtain ⟨r, -, rfl⟩ := hself hq
      exact hended hj
    · exact h.ended j q hj ((hother hid).symm.trans hq)
  · obtain rfl | hid := eq_or_ne j id
    · obtain ⟨r, -, rfl⟩ := hself hq
      obtain hplace | hplace := hplace
      · exact absurd hplace hst
      · exact absurd hplace (hrests hs)
    · exact h.rested hs j q ((hother hid).symm.trans hq) hplace

/-! ## Channels (R128, R132) -/

/-- The holder of a channel is one record, and a record holds one channel. -/
theorem AR.Pooled.holds {n id : Nat} {r : Rec} (h : x.Pooled settling gone) (hr : findRec x id = some r)
    (hn : r.channel = some n) : holderOf x n = some id := (h.held n id).mpr ⟨r, hr, hn⟩

theorem AR.Pooled.release {n id : Nat} {r : Rec} (h : x.Pooled settling gone) (hr : findRec x id = some r)
    (hn : r.channel = some n) : ((x.modChannel n releaseChannel).modRec id Rec.unchanneled).Pooled settling gone := by
  have hfind (j : Nat) : findRec ((x.modChannel n releaseChannel).modRec id Rec.unchanneled) j =
      if j = id then some r.unchanneled else findRec x j := by
    rw [findRec_modRec Rec.unchanneled_id]
    change (if j = id then (findRec x id).map Rec.unchanneled else findRec x j) = _
    rw [hr, Option.map_some]
  have hfree : holderOf (x.modChannel n releaseChannel) n = none := by
    rw [holderOf_modChannel, if_pos rfl]
    cases x.channels[n]? <;> rfl
  refine ⟨fun m j => ?_, h.once, fun j hj => ?_, fun j q hj hq => ?_, fun hs j q hq hplace => ?_⟩
  · change holderOf (x.modChannel n releaseChannel) m = some j ↔ _
    rw [hfind]
    by_cases hid : j = id
    · subst hid
      rw [if_pos rfl]
      refine iff_of_false (fun hholds => ?_) (by simp [Rec.unchanneled])
      obtain rfl | hm := eq_or_ne m n
      · rw [hfree] at hholds
        cases hholds
      · rw [holderOf_modChannel, if_neg hm, h.held, hr] at hholds
        obtain ⟨q, hq, hchannel⟩ := hholds
        obtain rfl := Option.some.inj hq
        exact hm (Option.some.inj (hchannel.symm.trans hn))
    · rw [if_neg hid]
      obtain rfl | hm := eq_or_ne m n
      · rw [hfree]
        refine iff_of_false (by simp) fun hholds => ?_
        have htwice := (h.held m j).mpr hholds
        rw [h.holds hr hn] at htwice
        exact hid (Option.some.inj htwice).symm
      · rw [holderOf_modChannel, if_neg hm, h.held]
  · change j ∈ x.waitList ↔ _
    rw [h.waiting j hj, hfind]
    by_cases hid : j = id
    · subst hid
      rw [if_pos rfl, hr]
      simp [Rec.unchanneled]
    · rw [if_neg hid]
  · rw [hfind] at hq
    split at hq
    case isTrue hid =>
      obtain rfl := Option.some.inj hq
      exact h.ended id r (hid ▸ hj) hr
    case isFalse => exact h.ended j q hj hq
  · rw [hfind] at hq
    split at hq
    · obtain rfl := Option.some.inj hq
      rfl
    · exact h.rested hs j q hq hplace

/-- R128: a record without channel is granted a free one, and leaves the wait list. -/
theorem AR.Pooled.grant {n id : Nat} {r : Rec} {f : Channel → Channel} (h : x.Pooled settling gone)
    (hr : findRec x id = some r) (hnone : r.channel = none) (hended : ¬ gone id) (hn : (x.channels[n]?).isSome = true)
    (hfree : holderOf x n = none) (hf : ∀ c, (f c).holder = some id) :
    (((x.modChannel n f).modRec id (Rec.granted n)).relist (x.waitList.erase id)).Pooled settling gone := by
  have hfind (j : Nat) : findRec ((x.modChannel n f).modRec id (Rec.granted n)) j =
      if j = id then some (r.granted n) else findRec x j := by
    rw [findRec_modRec (Rec.granted_id n)]
    change (if j = id then (findRec x id).map (Rec.granted n) else findRec x j) = _
    rw [hr, Option.map_some]
  have hholder : holderOf (x.modChannel n f) n = some id := by
    obtain ⟨c, hc⟩ := Option.isSome_iff_exists.mp hn
    rw [holderOf_modChannel, if_pos rfl, hc]
    exact hf c
  refine ⟨fun m j => ?_, h.once.erase id, fun j hj => ?_, fun j q hj hq => ?_, fun hs j q hq hplace => ?_⟩
  · change holderOf (x.modChannel n f) m = some j ↔
      ∃ q, findRec ((x.modChannel n f).modRec id (Rec.granted n)) j = some q ∧ q.channel = some m
    rw [hfind]
    obtain rfl | hm := eq_or_ne m n
    · rw [hholder]
      by_cases hid : j = id
      · subst hid
        simp [Rec.granted]
      · rw [if_neg hid, ← h.held, hfree]
        simp [Ne.symm hid]
    · rw [holderOf_modChannel, if_neg hm, h.held]
      by_cases hid : j = id
      · subst hid
        rw [if_pos rfl, hr]
        simp [Rec.granted, hnone, Ne.symm hm]
      · rw [if_neg hid]
  · change j ∈ x.waitList.erase id ↔
      ∃ q, findRec ((x.modChannel n f).modRec id (Rec.granted n)) j = some q ∧ q.state = .waiting
    rw [hfind]
    by_cases hid : j = id
    · subst hid
      refine iff_of_false (fun hmem => (h.once.mem_erase_iff.mp hmem).1 rfl) ?_
      simp [Rec.granted]
    · rw [if_neg hid, List.mem_erase_of_ne hid, h.waiting j hj]
  · change findRec ((x.modChannel n f).modRec id (Rec.granted n)) j = some q at hq
    rw [hfind] at hq
    split at hq
    case isTrue hid => exact absurd (hid ▸ hj) hended
    case isFalse => exact h.ended j q hj hq
  · change findRec ((x.modChannel n f).modRec id (Rec.granted n)) j = some q at hq
    rw [hfind] at hq
    split at hq
    · obtain rfl := Option.some.inj hq
      simp [Rec.granted] at hplace
    · exact h.rested hs j q hq hplace

/-! ## Records that come and go (R122) -/

/-- R122: a record reaches ENDED. -/
theorem AR.Pooled.retire (h : x.Pooled settling noneGone) (id : Nat) :
    (x.modRec id Rec.retired).Pooled settling (· = id) := by
  have hfind := findRec_modRec Rec.retired_id (id := id) x
  have hself {q : Rec} (hq : findRec (x.modRec id Rec.retired) id = some q) : ∃ r, findRec x id = some r ∧ r.retired = q := by
    rw [hfind, if_pos rfl] at hq
    exact Option.map_eq_some_iff.mp hq
  refine ⟨fun n j => (h.held n j).trans ?_, h.once, fun j hj => ?_, fun j q hj hq => ?_, fun hs j q hq hplace => ?_⟩
  · rw [hfind]
    by_cases hid : j = id
    · subst hid
      rw [if_pos rfl]
      cases findRec x j <;> simp [Rec.retired]
    · rw [if_neg hid]
  · change j ∈ x.waitList ↔ _
    rw [hfind, if_neg hj, h.waiting j not_false]
  · subst hj
    obtain ⟨r, -, rfl⟩ := hself hq
    rfl
  · obtain rfl | hid := eq_or_ne j id
    · obtain ⟨r, -, rfl⟩ := hself hq
      simp [Rec.retired] at hplace
    · rw [hfind, if_neg hid] at hq
      exact h.rested hs j q hq hplace

/-- R122: an ended record out of the wait list and without channel leaves the table. -/
theorem AR.Pooled.drop {id : Nat} (h : x.Pooled settling (· = id)) (hlist : id ∉ x.waitList)
    (hchannel : ∀ r, findRec x id = some r → r.channel = none) : (x.without id).Pooled settling noneGone := by
  have hfind := findRec_without id x
  refine ⟨fun n j => (h.held n j).trans ?_, h.once, fun j _ => ?_, nofun, fun hs j q hq hplace => ?_⟩
  · rw [hfind]
    by_cases hid : j = id
    · subst hid
      rw [if_pos rfl]
      refine iff_of_false ?_ (by simp)
      rintro ⟨r, hr, hn⟩
      rw [hchannel r hr] at hn
      cases hn
    · rw [if_neg hid]
  · change j ∈ x.waitList ↔ _
    rw [hfind]
    by_cases hid : j = id
    · subst hid
      simp [hlist]
    · rw [if_neg hid, h.waiting j hid]
  · rw [hfind] at hq
    split at hq
    · cases hq
    · exact h.rested hs j q hq hplace

/-- R122: a record is made, SUSPENDED and without channel. -/
theorem AR.Pooled.insert {r : Rec} (h : x.Pooled settling noneGone) (hfresh : findRec x r.id = none)
    (hchannel : r.channel = none) (hstate : r.state = .suspended) : (x.insert r).Pooled settling noneGone := by
  have hfind := findRec_insert hfresh
  refine ⟨fun n j => (h.held n j).trans ?_, h.once, fun j _ => (h.waiting j not_false).trans ?_, nofun,
    fun hs j q hq hplace => ?_⟩
  · rw [hfind]
    by_cases hid : j = r.id
    · subst hid
      simp [hfresh, hchannel]
    · rw [if_neg hid]
  · rw [hfind]
    by_cases hid : j = r.id
    · subst hid
      simp [hfresh, hstate]
    · rw [if_neg hid]
  · rw [hfind] at hq
    split at hq
    · obtain rfl := Option.some.inj hq
      exact hchannel
    · exact h.rested hs j q hq hplace

end Pooled

end Sys2Proof.Machine
end

section
/-!
What each operation of the Announcement Router can do (R123 to R136): one inversion lemma per operation, in the changes of which it
is made.
-/

namespace Sys2Proof.Machine

/-! ## The end of a record (R122, R123) -/

theorem AAcc.endRecord_none {env : AEnv} {cause : AnnCause} {id : Nat} {a : AAcc} (h : findRec a.st.ar id = none) :
    a.endRecord env cause id = a := by
  rw [AAcc.endRecord, h]

theorem AAcc.suspend_ar (id : Nat) (a : AAcc) : (a.suspend id).st.ar =
    (a.st.ar.modRec id (Rec.inState .suspended)).relist (a.st.ar.waitList.erase id) := AAcc.report_ar ..

/-- R123: what follows where a record has lost a floor. -/
def AAcc.bereft (env : AEnv) (id : Nat) (b : AAcc) : AAcc :=
  match findRec b.st.ar id with
  | none => b
  | some r =>
    if r.owned != 0 then b
    else
      match r.state with
      | .waiting | .playing =>
        match r.source with
        | .system => b.suspend id
        | .requested => if onSomeStack b.st.ar id then b.suspend id else b.endRecord env .displaced id
      | .ending => b.endRecord env .cancelled id
      | _ => b

theorem AAcc.lose_eq (env : AEnv) (id f : Nat) (a : AAcc) :
    a.lose env id f = (a.modRec id (Rec.lost f)).bereft env id := rfl

/-- R123: it moves, is ended, or stays as it is. -/
theorem AAcc.bereft_cases (env : AEnv) (id : Nat) (b : AAcc) : b.bereft env id = b ∨ b.bereft env id = b.suspend id ∨
    ∃ cause, b.bereft env id = b.endRecord env cause id := by
  unfold AAcc.bereft
  split
  case h_1 => exact .inl rfl
  case h_2 r _ =>
    split
    case isTrue => exact .inl rfl
    case isFalse =>
      cases r.state with
      | waiting | playing =>
        cases r.source with
        | system => exact .inr (.inl rfl)
        | requested =>
          dsimp only
          split
          · exact .inr (.inl rfl)
          · exact .inr (.inr ⟨_, rfl⟩)
      | ending => exact .inr (.inr ⟨_, rfl⟩)
      | suspended | ended => exact .inl rfl

/-! ## Claims (R125) -/

/-- R125: a dropped claim takes its floor from the record's requested floors, and ends a record that it leaves without any. -/
theorem AAcc.dropClaim_cases (env : AEnv) (f id : Nat) (a : AAcc) :
    (∃ e, a.dropClaim env f id = (a.modRec id (Rec.cut f)).ev e) ∨
    ∃ e, a.dropClaim env f id = ((a.modRec id (Rec.cut f)).ev e).endRecord env .displaced id := by
  unfold AAcc.dropClaim
  dsimp only
  split
  case h_1 => exact .inl ⟨_, rfl⟩
  case h_2 =>
    split
    · exact .inr ⟨_, rfl⟩
    · exact .inl ⟨_, rfl⟩

/-- R125: the lowest of four claims is dropped. -/
def AAcc.cutLowest (env : AEnv) (f : Nat) (full : List Nat) (b : AAcc) : AAcc :=
  if Config.stackCap < full.length then
    match full.getLast? with
    | some low => b.dropClaim env f low
    | none => b
  else b

theorem AAcc.cutLowest_cases (env : AEnv) (f : Nat) (full : List Nat) (b : AAcc) : b.cutLowest env f full = b ∨
    ∃ low, 3 < full.length ∧ full.getLast? = some low ∧ b.cutLowest env f full = b.dropClaim env f low := by
  unfold AAcc.cutLowest
  split
  case isTrue hlength =>
    split
    case h_1 low hlow => exact .inr ⟨low, hlength, hlow, rfl⟩
    case h_2 => exact .inl rfl
  case isFalse => exact .inl rfl

/-- R125: the steps by which a record claims a floor: without an owner, above the owner, or below it. -/
theorem AAcc.claimFloor_cases (env : AEnv) (id : Nat) (a : AAcc) (f : Nat) :
    (findRec a.st.ar id = none ∧ AAcc.claimFloor env id a f = a) ∨
    ∃ x, findRec a.st.ar id = some x ∧
      (((∀ old, (claimsOf a.st.ar f).owner = some old → findRec a.st.ar old = none) ∧
        AAcc.claimFloor env id a f = (a.setClaims f ⟨some id, (claimsOf a.st.ar f).stack⟩).gain id f) ∨
      ∃ old o full, (claimsOf a.st.ar f).owner = some old ∧ findRec a.st.ar old = some o ∧
        ((beats x o = true ∧ full = insertId a.st.ar beats o (claimsOf a.st.ar f).stack ∧ AAcc.claimFloor env id a f =
          (((a.setClaims f ⟨some id, full.take Config.stackCap⟩).lose env old f).gain id f).cutLowest env f full) ∨
        (beats x o = false ∧ full = insertId a.st.ar beats x (claimsOf a.st.ar f).stack ∧ AAcc.claimFloor env id a f =
          (a.setClaims f ⟨some old, full.take Config.stackCap⟩).cutLowest env f full))) := by
  unfold AAcc.claimFloor
  split
  case h_1 hnone => exact .inl ⟨hnone, rfl⟩
  case h_2 x hx =>
    refine .inr ⟨x, hx, ?_⟩
    dsimp only
    split
    case h_1 howner =>
      rw [howner]
      exact .inl ⟨nofun, rfl⟩
    case h_2 old howner =>
      rw [howner]
      split
      case h_1 hnone => exact .inl ⟨fun _ h => Option.some.inj h ▸ hnone, rfl⟩
      case h_2 o ho =>
        refine .inr ⟨old, o, ?_⟩
        split
        case isTrue hbeats => exact ⟨_, rfl, ho, .inl ⟨hbeats, rfl, rfl⟩⟩
        case isFalse hbeats => exact ⟨_, rfl, ho, .inr ⟨by simpa using hbeats, rfl, rfl⟩⟩

/-! ## Making a record (R122) -/

/-- R122: the record that is made. -/
def newRecord (cls : RecClass) (source : RecSource) (message : Option Nat) (repeats : Nat) (requested : Option FloorSet)
    (slot : Nat) (x : AR) : Rec :=
  ⟨slot, freshId x 256 x.nextId, (nextCreation x).creation, cls, source, message, repeats, 0, requested, 0, none, .suspended⟩

/-- R122: no slot is free, or the record is put into the table and claims its floors in ascending order. -/
theorem AAcc.make_cases (env : AEnv) (cls : RecClass) (source : RecSource) (message : Option Nat) (repeats : Nat)
    (requested : Option FloorSet) (a : AAcc) :
    (freeSlot a.st.ar = none ∧ a.make env cls source message repeats requested = a) ∨
    ∃ slot r, ∃ b : AAcc, freeSlot a.st.ar = some slot ∧
      r = newRecord cls source message repeats requested slot a.st.ar ∧ b.st.ar = (nextCreation a.st.ar).insert r ∧
      a.make env cls source message repeats requested =
        ((List.range env.states.length).filter (eligible env r)).foldl (AAcc.claimFloor env r.id) b := by
  unfold AAcc.make
  split
  case h_1 hnone => exact .inl ⟨hnone, rfl⟩
  case h_2 slot hslot =>
    refine .inr ⟨slot, _, _, hslot, rfl, ?_, rfl⟩
    exact AAcc.report_ar ..

/-! ## The pool (R128, R130, R131) -/

theorem mem_freeChannels {x : AR} {n : Nat} : n ∈ freeChannels x ↔ (x.channels[n]?).isSome = true ∧ holderOf x n = none := by
  rw [freeChannels, List.mem_filter, List.mem_range, holderOf]
  by_cases hn : n < x.channels.length
  · rw [List.getElem?_eq_getElem hn]
    cases (x.channels[n]).holder <;> simp [hn]
  · simp [hn]

theorem mem_of_head?_sortBy {α : Type} {key : α → Nat} {l : List α} {x : α} (h : (sortBy key l).head? = some x) : x ∈ l :=
  (sortBy_perm key l).mem_iff.mp (List.mem_of_mem_head? h)

/-- R131: a victim holds a channel; it is a TENANT record, PLAYING or ENDING, or one of class ALERT, PLAYING. -/
theorem victim_spec {x : AR} {v : Rec} (h : victim x = some v) : v ∈ x.records ∧ v.channel.isSome = true ∧
    (v.cls = .tenant ∧ v.state = .ending ∨ (v.cls = .tenant ∨ v.cls = .alert) ∧ v.state = .playing) := by
  unfold victim at h
  dsimp only at h
  split at h
  case h_1 r hr =>
    obtain rfl := Option.some.inj h
    obtain ⟨hmem, hkind⟩ := List.mem_filter.mp (mem_of_head?_sortBy hr)
    obtain ⟨hmem, hchannel⟩ := List.mem_filter.mp hmem
    simp only [Bool.and_eq_true, Bool.or_eq_true, decide_eq_true_eq] at hkind
    obtain ⟨hcls, hstate | hstate⟩ := hkind
    · exact ⟨hmem, hchannel, .inr ⟨.inl hcls, hstate⟩⟩
    · exact ⟨hmem, hchannel, .inl ⟨hcls, hstate⟩⟩
  case h_2 =>
    obtain ⟨hmem, hkind⟩ := List.mem_filter.mp (mem_of_head?_sortBy h)
    obtain ⟨hmem, hchannel⟩ := List.mem_filter.mp hmem
    simp only [Bool.and_eq_true, decide_eq_true_eq] at hkind
    exact ⟨hmem, hchannel, .inr ⟨.inr hkind.1, hkind.2⟩⟩

/-- R132: the channel that a record is granted. -/
def grantedChannel (x : AR) (r : Rec) (c : Channel) : Channel :=
  { c with
    holder := some r.id
    routing := r.owned
    programme := programmeOf r
    generation := raiseGeneration c.generation
    playTimer := startedTimer x (programmeOf r) }

/-- R128: what a grant makes of the Announcement Router. -/
theorem AAcc.grant_ar {env : AEnv} {id n : Nat} {a : AAcc} {r : Rec} (h : findRec a.st.ar id = some r) :
    (a.grant env id n).st.ar = ((a.st.ar.modChannel n (grantedChannel a.st.ar r)).modRec id (Rec.granted n)).relist
      (a.st.ar.waitList.erase id) := by
  obtain rfl := (findRec_spec h).2
  unfold AAcc.grant
  rw [h]
  dsimp only
  rw [AAcc.report_ar, AAcc.touch_ar, AAcc.ar_ar, AAcc.modRec_ar, AAcc.modChannel_ar]
  rfl

theorem AAcc.grant_none {env : AEnv} {id n : Nat} {a : AAcc} (h : findRec a.st.ar id = none) : a.grant env id n = a := by
  rw [AAcc.grant, h]

/-- R130, R131: a waiter is left, is granted a free channel, or takes a victim's. -/
theorem AAcc.serve_cases (env : AEnv) (id : Nat) (a : AAcc) : a.serve env id = a ∨
    (∃ n ∈ freeChannels a.st.ar, a.serve env id = a.grant env id n) ∨
    ∃ v n, victim a.st.ar = some v ∧ v.channel = some n ∧
      ((v.state = .ending ∧ a.serve env id = (a.endRecord env .cancelled v.id).grant env id n) ∨
      (v.state ≠ .ending ∧ a.serve env id = (a.yieldChannel env v.id).grant env id n)) := by
  unfold AAcc.serve
  split
  case h_1 => exact .inl rfl
  case h_2 r _ =>
    dsimp only
    split
    case h_1 =>
      split
      case h_1 n ns hfree =>
        split
        · exact .inr (.inl ⟨n, hfree ▸ List.mem_cons_self, rfl⟩)
        · exact .inl rfl
      case h_2 => exact .inl rfl
    case h_2 =>
      split
      case h_1 n ns hfree => exact .inr (.inl ⟨n, hfree ▸ List.mem_cons_self, rfl⟩)
      case h_2 =>
        split
        case isTrue => exact .inl rfl
        case isFalse =>
          split
          case h_1 => exact .inl rfl
          case h_2 v hv =>
            split
            case h_1 => exact .inl rfl
            case h_2 n hn =>
              refine .inr (.inr ⟨v, n, hv, hn, ?_⟩)
              split
              case isTrue hending => exact .inl ⟨hending, rfl⟩
              case isFalse hending => exact .inr ⟨hending, rfl⟩

/-- R130: a property that the service of each waiter keeps, the pass over the wait list keeps. -/
theorem AAcc.servePass_keeps {P : AAcc → Prop} {env : AEnv}
    (h : ∀ b id, id ∈ b.st.ar.waitList → P b → P (b.serve env id)) (n : Nat) (met : List Nat) {a : AAcc} (ha : P a) :
    P (AAcc.servePass env n met a) := by
  induction n generalizing met a with
  | zero => exact ha
  | succ n ih =>
    unfold AAcc.servePass
    split
    case h_1 => exact ha
    case h_2 id hid => exact ih _ (h a id (List.mem_of_find?_eq_some hid) ha)

theorem AAcc.reportNoChannel_ar (a : AAcc) : a.reportNoChannel.st.ar = a.st.ar := by
  unfold AAcc.reportNoChannel
  split
  · split
    · exact AAcc.report_ar ..
    · rfl
  · rfl

theorem AAcc.flushAllDisplaced_ar (a : AAcc) : a.flushAllDisplaced.st.ar = a.st.ar :=
  foldl_keeps (P := fun b : AAcc => b.st.ar = a.st.ar) (fun b id hb => (AAcc.flushDisplaced_ar id b).trans hb) _ a rfl

/-- R130: the steps of a settlement, for a property that is read of the AR's record. -/
theorem AAcc.settle_steps {P Q : AR → Prop} {env : AEnv} {a : AAcc}
    (release : ∀ b : AAcc, P b.st.ar → Q (b.releaseIdle env).st.ar)
    (route : ∀ x n set, Q x → Q (x.modChannel n (fun c => { c with routing := set })))
    (serve : ∀ b : AAcc, ∀ id ∈ b.st.ar.waitList, Q b.st.ar → Q (b.serve env id).st.ar) (ha : P a.st.ar) :
    Q (a.settle env).st.ar := by
  have routed (b : AAcc) (hb : Q b.st.ar) : Q (b.routeHeld env).st.ar := by
    refine foldl_keeps (P := fun c : AAcc => Q c.st.ar) (fun c r hc => ?_) _ b hb
    split
    · rw [AAcc.modChannel_ar]
      exact route _ _ _ hc
    · exact hc
  unfold AAcc.settle
  dsimp only
  rw [AAcc.reportNoChannel_ar]
  refine routed _ (AAcc.servePass_keeps (P := fun b : AAcc => Q b.st.ar) serve 64 [] (routed _ (release _ ?_)))
  rw [AAcc.flushAllDisplaced_ar]
  exact ha

/-! ## Plays (R133, R134) -/

/-- R133: a channel without holder counts nothing; else the play is counted, and the record plays on or is ended. -/
theorem AAcc.countPlay_cases (env : AEnv) (n : Nat) (a : AAcc) : a.countPlay env n = a ∨
    ∃ id, a.countPlay env n = a.counted env n id ∨
      (∃ cause, a.countPlay env n = (a.counted env n id).endRecord env cause id) ∨
      ∃ f : Channel → Channel, (∀ c, (f c).holder = c.holder) ∧
        a.countPlay env n = (a.counted env n id).modChannel env n f := by
  unfold AAcc.countPlay
  split
  case h_1 => exact .inl rfl
  case h_2 id _ =>
    refine .inr ⟨id, ?_⟩
    dsimp only
    split
    case h_1 => exact .inl rfl
    case h_2 =>
      split
      · exact .inr (.inl ⟨_, rfl⟩)
      · split
        · refine .inr (.inr ⟨_, ?_, rfl⟩)
          exact fun _ => rfl
        · exact .inr (.inl ⟨_, rfl⟩)

/-! ## Responses -/

/-- R136: a PLAYING record enters ENDING, one that waits or is suspended is ended, others stay. -/
theorem AAcc.cancelTenant_cases (env : AEnv) (id : Nat) (a : AAcc) : a.cancelTenant env id = a ∨
    (∃ r, findRec a.st.ar id = some r ∧ r.state = .playing ∧
      (a.cancelTenant env id).st.ar = a.st.ar.modRec id (Rec.inState .ending)) ∨
    a.cancelTenant env id = a.endRecord env .cancelled id := by
  unfold AAcc.cancelTenant
  split
  case h_1 => exact .inl rfl
  case h_2 r hr =>
    split
    case h_1 hstate => exact .inr (.inl ⟨r, hr, hstate, AAcc.report_ar ..⟩)
    case h_2 | h_3 => exact .inr (.inr rfl)
    case h_4 => exact .inl rfl

end Sys2Proof.Machine
end

section
/-!
The pool and the wait list through the operations of the Announcement Router (R122, R123, R128 to R138).
-/

namespace Sys2Proof.Machine

/-- The pool and the wait list as they stand in the course of a change. -/
abbrev AAcc.Pooled (settling : Prop) (gone : Nat → Prop) (a : AAcc) : Prop := a.st.ar.Pooled settling gone

section Operations

variable {settling : Prop} {gone : Nat → Prop} {env : AEnv} {a : AAcc}

/-! ## Claims -/

theorem AAcc.Pooled.setClaims (h : a.Pooled settling gone) (f : Nat) (c : Claims) :
    (a.setClaims f c).Pooled settling gone := h.of_eq rfl rfl rfl

theorem AAcc.Pooled.gain (h : a.Pooled settling gone) (id f : Nat) : (a.gain id f).Pooled settling gone := by
  cases hr : findRec a.st.ar id with
  | none =>
    rw [AAcc.gain_none hr]
    exact h
  | some r =>
    have owned := AR.Pooled.modRec h (Rec.gained_id f) (fun _ => rfl) id
    rw [AAcc.Pooled, AAcc.gain_ar hr]
    split
    case isFalse => exact owned
    case isTrue hfirst =>
      simp only [Bool.and_eq_true, decide_eq_true_eq] at hfirst
      have hsuspended : r.state = .suspended := hfirst.2
      have hfound : findRec (a.modRec id (Rec.gained f)).st.ar id = some (r.gained f) := by
        rw [AAcc.modRec_ar, findRec_modRec_self (Rec.gained_id f), hr]
        rfl
      obtain ⟨l, hl, hperm⟩ := AAcc.enterWaiting_ar hfound
      rw [hl]
      refine AR.Pooled.enter owned hfound ?_ ?_ (fun hs => h.rested hs id r hr (.inr hsuspended)) hperm
      · exact hsuspended ▸ by decide
      · exact hsuspended ▸ by decide

theorem AAcc.Pooled.promote (h : a.Pooled settling gone) (f : Nat) : (a.promote env f).Pooled settling gone := by
  cases hrest : remaining env a.st.ar f with
  | nil => exact AAcc.promote_nil hrest ▸ h.setClaims ..
  | cons id ids => exact AAcc.promote_cons hrest ▸ (h.setClaims ..).gain ..

theorem AAcc.Pooled.endClaimOfEnded (h : a.Pooled settling gone) (id f : Nat) :
    (a.endClaimOfEnded env id f).Pooled settling gone := by
  unfold AAcc.endClaimOfEnded
  dsimp only
  split
  · exact (h.setClaims ..).promote f
  · split
    · exact h.setClaims ..
    · exact h

/-! ## The end of a record -/

theorem AAcc.Pooled.releaseOf (h : a.Pooled settling gone) (id : Nat) : (a.releaseOf env id).Pooled settling gone := by
  cases hr : (findRec a.st.ar id).bind (·.channel) with
  | none =>
    rw [AAcc.releaseOf_none fun r hfound => by simpa [hfound] using hr]
    exact h
  | some n =>
    obtain ⟨r, hr, hn⟩ := Option.bind_eq_some_iff.mp hr
    rw [AAcc.Pooled, AAcc.releaseOf_some hr hn]
    exact AR.Pooled.release h hr hn

theorem AAcc.Pooled.withdrawn (h : a.Pooled settling noneGone) (id : Nat) :
    (a.withdrawn env id).Pooled settling (· = id) ∧ id ∉ (a.withdrawn env id).st.ar.waitList := by
  have flushed : (a.flushDisplaced id).Pooled settling noneGone := by
    rw [AAcc.Pooled, AAcc.flushDisplaced_ar]
    exact h
  have unclaimed : ((a.flushDisplaced id).unclaimed env id).Pooled settling (· = id) :=
    foldl_keeps (P := fun b : AAcc => b.Pooled settling (· = id)) (fun _ f hb => hb.endClaimOfEnded id f) _ _
      (AR.Pooled.retire flushed id)
  have unlisted : (((a.flushDisplaced id).unclaimed env id).ar
      (fun x => { x with waitList := x.waitList.erase id })).Pooled settling (· = id) :=
    { held := unclaimed.held
      once := unclaimed.once.erase id
      waiting := fun j hj => (List.mem_erase_of_ne hj).trans (unclaimed.waiting j hj)
      ended := unclaimed.ended
      rested := unclaimed.rested }
  refine ⟨unlisted.releaseOf id, ?_⟩
  rw [AAcc.withdrawn, (AAcc.releaseOf_waitList ..).1]
  exact fun hmem => (unclaimed.once.mem_erase_iff.mp hmem).1 rfl

theorem AAcc.endRecord_without {cause : AnnCause} {id : Nat} {r : Rec} (h : findRec a.st.ar id = some r) :
    (a.endRecord env cause id).st.ar = (a.withdrawn env id).st.ar.without id := AAcc.endRecord_ar h

theorem AAcc.Pooled.endRecord (h : a.Pooled settling noneGone) (cause : AnnCause) (id : Nat) :
    (a.endRecord env cause id).Pooled settling noneGone := by
  cases hr : findRec a.st.ar id with
  | none =>
    rw [AAcc.endRecord_none hr]
    exact h
  | some r =>
    obtain ⟨withdrawn, hlist⟩ := h.withdrawn (env := env) id
    rw [AAcc.Pooled, AAcc.endRecord_without hr]
    refine AR.Pooled.drop withdrawn hlist fun q hq => ?_
    rw [AAcc.withdrawn, findRec_releaseOf, if_pos rfl] at hq
    obtain ⟨p, -, rfl⟩ := Option.map_eq_some_iff.mp hq
    rfl

/-! ## Claims lost and made, before the settlement -/

theorem AAcc.Pooled.bereft (h : a.Pooled False noneGone) (id : Nat) : (a.bereft env id).Pooled False noneGone := by
  obtain hstays | hsuspends | ⟨cause, hends⟩ := AAcc.bereft_cases env id a
  · rw [hstays]
    exact h
  · rw [hsuspends, AAcc.Pooled, AAcc.suspend_ar]
    exact AR.Pooled.leave h (by decide) False.elim False.elim
  · exact hends ▸ h.endRecord cause id

theorem AAcc.Pooled.lose (h : a.Pooled False noneGone) (id f : Nat) : (a.lose env id f).Pooled False noneGone := by
  rw [AAcc.lose_eq]
  exact AAcc.Pooled.bereft (AR.Pooled.modRec h (Rec.lost_id f) (fun _ => rfl) id) id

theorem AAcc.Pooled.dropClaim (h : a.Pooled False noneGone) (f id : Nat) :
    (a.dropClaim env f id).Pooled False noneGone := by
  have cut (e : Scratch → Scratch) : ((a.modRec id (Rec.cut f)).ev e).Pooled False noneGone :=
    AR.Pooled.modRec h (Rec.cut_id f) (fun _ => rfl) id
  obtain ⟨e, hdrops⟩ | ⟨e, hends⟩ := AAcc.dropClaim_cases env f id a
  · exact hdrops ▸ cut e
  · exact hends ▸ (cut e).endRecord ..

theorem AAcc.Pooled.cutLowest (h : a.Pooled False noneGone) (f : Nat) (full : List Nat) :
    (a.cutLowest env f full).Pooled False noneGone := by
  obtain hstays | ⟨low, -, -, hdrops⟩ := AAcc.cutLowest_cases env f full a
  · rw [hstays]
    exact h
  · exact hdrops ▸ h.dropClaim f low

theorem AAcc.Pooled.claimFloor (h : a.Pooled False noneGone) (id f : Nat) :
    (AAcc.claimFloor env id a f).Pooled False noneGone := by
  obtain ⟨-, hnone⟩ | ⟨x, -, ⟨-, howns⟩ | ⟨old, o, full, -, -, ⟨-, -, hbeats⟩ | ⟨-, -, hbelow⟩⟩⟩ :=
    AAcc.claimFloor_cases env id a f
  · rw [hnone]
    exact h
  · exact howns ▸ (h.setClaims ..).gain ..
  · exact hbeats ▸ (((h.setClaims ..).lose ..).gain ..).cutLowest ..
  · exact hbelow ▸ (h.setClaims ..).cutLowest ..

theorem AAcc.Pooled.endClaim (h : a.Pooled False noneGone) (f id : Nat) : (a.endClaim env f id).Pooled False noneGone := by
  unfold AAcc.endClaim
  dsimp only
  split
  · exact ((h.setClaims ..).lose ..).promote f
  · exact h.setClaims ..

theorem AAcc.Pooled.testFloor (h : a.Pooled False noneGone) (f : Nat) : (a.testFloor env f).Pooled False noneGone :=
  foldl_keeps (P := fun b : AAcc => b.Pooled False noneGone) (fun _ id hb => hb.claimFloor id f) _ _
    (foldl_keeps (P := fun b : AAcc => b.Pooled False noneGone) (fun _ id hb => hb.endClaim f id) _ _ h)

/-! ## Making a record -/

theorem AAcc.Pooled.make (h : a.Pooled False noneGone) (hsound : a.st.ar.Sound) (cls : RecClass) (source : RecSource)
    (message : Option Nat) (repeats : Nat) (requested : Option FloorSet) :
    (a.make env cls source message repeats requested).Pooled False noneGone := by
  obtain ⟨-, hnone⟩ | ⟨slot, r, b, -, hr, hb, hmake⟩ := AAcc.make_cases env cls source message repeats requested a
  · rw [hnone]
    exact h
  · obtain ⟨g, hg⟩ := findRec_nextCreation a.st.ar
    obtain ⟨-, hchannels, hlist, -⟩ := nextCreation_rest a.st.ar
    have numbered : (nextCreation a.st.ar).Pooled False noneGone := by
      refine AR.Pooled.of_same h (fun n => by rw [holderOf, hchannels, holderOf]) hlist fun i => ?_
      rw [hg, Option.map_map]
      rfl
    have fresh : findRec (nextCreation a.st.ar) r.id = none := by
      rw [hg, hr, newRecord, freshId_free hsound]
      rfl
    have inserted : b.Pooled False noneGone := by
      rw [AAcc.Pooled, hb]
      exact numbered.insert fresh (by rw [hr]; rfl) (by rw [hr]; rfl)
    rw [hmake]
    exact foldl_keeps (P := fun b : AAcc => b.Pooled False noneGone) (fun _ f hb => hb.claimFloor r.id f) _ _ inserted

/-! ## The settlement -/

theorem AAcc.Pooled.grant {id n : Nat} (h : a.Pooled settling noneGone)
    (hnone : ∀ r, findRec a.st.ar id = some r → r.channel = none) (hn : n ∈ freeChannels a.st.ar) :
    (a.grant env id n).Pooled settling noneGone := by
  cases hr : findRec a.st.ar id with
  | none =>
    rw [AAcc.grant_none hr]
    exact h
  | some r =>
    obtain ⟨hfitted, hfree⟩ := mem_freeChannels.mp hn
    rw [AAcc.Pooled, AAcc.grant_ar hr]
    exact AR.Pooled.grant h hr (hnone r hr) not_false hfitted hfree fun _ => congrArg some (findRec_spec hr).2

/-- R130: after its first step no record that waits or is suspended holds a channel. -/
theorem findRec_releaseAll (l : List Rec) (b : AAcc) (j : Nat) :
    findRec (l.foldl (fun c r => c.releaseOf env r.id) b).st.ar j =
      if j ∈ l.map (·.id) then (findRec b.st.ar j).map Rec.unchanneled else findRec b.st.ar j := by
  induction l generalizing b with
  | nil => rfl
  | cons r l ih =>
    rw [List.foldl_cons, ih, findRec_releaseOf, List.map_cons]
    by_cases hj : j = r.id
    · subst hj
      simp only [List.mem_cons, true_or, if_true]
      split
      · rw [Option.map_map]
        rfl
      · rfl
    · simp [hj]

theorem AAcc.Pooled.releaseIdle (h : a.Pooled False noneGone) : (a.releaseIdle env).Pooled True noneGone := by
  have released : (a.releaseIdle env).Pooled False noneGone :=
    foldl_keeps (P := fun b : AAcc => b.Pooled False noneGone) (fun _ (r : Rec) hb => hb.releaseOf r.id) _ _ h
  refine ⟨released.held, released.once, released.waiting, nofun, fun _ id q hq hstate => ?_⟩
  rw [AAcc.releaseIdle, findRec_releaseAll] at hq
  split at hq
  case isTrue =>
    obtain ⟨p, -, rfl⟩ := Option.map_eq_some_iff.mp hq
    rfl
  case isFalse hidle =>
    by_contra hchannel
    refine hidle (List.mem_map.mpr ⟨q, List.mem_filter.mpr ⟨(findRec_spec hq).1, ?_⟩, (findRec_spec hq).2⟩)
    have hnot : ¬ (q.state = .playing ∨ q.state = .ending) := by
      obtain hstate | hstate := hstate <;> rw [hstate] <;> decide
    simp only [Bool.and_eq_true, Bool.or_eq_true, Bool.not_eq_true', Bool.or_eq_false_iff, decide_eq_true_eq,
      decide_eq_false_iff_not]
    exact ⟨Option.isSome_iff_ne_none.mpr hchannel, .inr (not_or.mp hnot)⟩

theorem AAcc.yieldChannel_ar {v : Rec} {n : Nat} (h : findRec a.st.ar v.id = some v) (hn : v.channel = some n) : ∃ l,
    (a.yieldChannel env v.id).st.ar =
      (((a.st.ar.modChannel n releaseChannel).modRec v.id Rec.unchanneled).modRec v.id (Rec.inState .waiting)).relist l ∧
      l.Perm (v.id :: a.st.ar.waitList) := by
  have hfound : findRec (a.releaseOf env v.id).st.ar v.id = some v.unchanneled := by
    rw [findRec_releaseOf, if_pos rfl, h]
    rfl
  obtain ⟨l, hl, hperm⟩ := AAcc.enterWaiting_ar hfound
  refine ⟨l, ?_, ?_⟩
  · rw [AAcc.yieldChannel, AAcc.report_ar, hl, AAcc.releaseOf_some h hn]
  · rw [(AAcc.releaseOf_waitList ..).1] at hperm
    exact hperm

/-- R131: a PLAYING victim gives its channel up, and waits. -/
theorem AAcc.Pooled.yieldChannel {v : Rec} {n : Nat} (h : a.Pooled settling noneGone) (hv : findRec a.st.ar v.id = some v)
    (hn : v.channel = some n) (hplays : v.state = .playing) : (a.yieldChannel env v.id).Pooled settling noneGone ∧
      (a.yieldChannel env v.id).st.ar.channels = (a.st.ar.modChannel n releaseChannel).channels := by
  obtain ⟨l, hl, hperm⟩ := AAcc.yieldChannel_ar (env := env) hv hn
  have hfound : findRec ((a.st.ar.modChannel n releaseChannel).modRec v.id Rec.unchanneled) v.id = some v.unchanneled := by
    rw [findRec_modRec_self Rec.unchanneled_id]
    change (findRec a.st.ar v.id).map Rec.unchanneled = _
    rw [hv]
    rfl
  rw [AAcc.Pooled, hl]
  exact ⟨(AR.Pooled.release h hv hn).enter hfound (hplays ▸ by decide) (hplays ▸ by decide) (fun _ => rfl) hperm, rfl⟩

/-- R123: a gain leaves the claims and the channels. -/
theorem AAcc.gain_leaves (id f : Nat) (a : AAcc) : (a.gain id f).st.ar.claims = a.st.ar.claims ∧
    (a.gain id f).st.ar.channels = a.st.ar.channels := by
  cases hr : findRec a.st.ar id with
  | none => exact ⟨by rw [AAcc.gain_none hr], by rw [AAcc.gain_none hr]⟩
  | some r =>
    have hfound : findRec (a.modRec id (Rec.gained f)).st.ar id = some (r.gained f) := by
      rw [AAcc.modRec_ar, findRec_modRec_self (Rec.gained_id f), hr]
      rfl
    obtain ⟨l, hl, -⟩ := AAcc.enterWaiting_ar hfound
    rw [AAcc.gain_ar hr]
    split
    · rw [hl]
      exact ⟨rfl, rfl⟩
    · exact ⟨rfl, rfl⟩

theorem AAcc.promote_channels (f : Nat) (a : AAcc) : (a.promote env f).st.ar.channels = a.st.ar.channels := by
  cases hrest : remaining env a.st.ar f with
  | nil =>
    rw [AAcc.promote_nil hrest]
    rfl
  | cons id ids =>
    rw [AAcc.promote_cons hrest]
    exact (AAcc.gain_leaves ..).2

theorem AAcc.endClaimOfEnded_channels (id f : Nat) (a : AAcc) :
    (a.endClaimOfEnded env id f).st.ar.channels = a.st.ar.channels := by
  unfold AAcc.endClaimOfEnded
  dsimp only
  split
  · rw [AAcc.promote_channels]
    rfl
  · split <;> rfl

theorem AAcc.unclaimed_channels (id : Nat) (a : AAcc) : (a.unclaimed env id).st.ar.channels = a.st.ar.channels :=
  foldl_keeps (P := fun b : AAcc => b.st.ar.channels = a.st.ar.channels)
    (fun b f hb => (AAcc.endClaimOfEnded_channels id f b).trans hb) _ _ rfl

/-- R122: the channel of an ended record is released. -/
theorem AAcc.Pooled.endRecord_channels {v : Rec} {n : Nat} (h : a.Pooled settling noneGone) (cause : AnnCause)
    (hv : findRec a.st.ar v.id = some v) (hn : v.channel = some n) :
    (a.endRecord env cause v.id).st.ar.channels = (a.st.ar.modChannel n releaseChannel).channels := by
  have flushed : (a.flushDisplaced v.id).Pooled settling noneGone := by
    rw [AAcc.Pooled, AAcc.flushDisplaced_ar]
    exact h
  have unclaimed : ((a.flushDisplaced v.id).unclaimed env v.id).Pooled settling (· = v.id) :=
    foldl_keeps (P := fun b : AAcc => b.Pooled settling (· = v.id)) (fun _ f hb => hb.endClaimOfEnded v.id f) _ _
      (AR.Pooled.retire flushed v.id)
  have hchannels : ((a.flushDisplaced v.id).unclaimed env v.id).st.ar.channels = a.st.ar.channels := by
    rw [AAcc.unclaimed_channels, AAcc.flushDisplaced_ar]
  obtain ⟨r, hr, hrn⟩ := (unclaimed.held n v.id).mp (by rw [holderOf, hchannels]; exact AR.Pooled.holds h hv hn)
  have hreleased := AAcc.releaseOf_some (env := env) (id := v.id) (n := n) (r := r)
    (a := ((a.flushDisplaced v.id).unclaimed env v.id).ar (fun x => { x with waitList := x.waitList.erase v.id })) hr hrn
  rw [AAcc.endRecord_without hv, AAcc.withdrawn, hreleased]
  change (((a.flushDisplaced v.id).unclaimed env v.id).st.ar.channels.modify n releaseChannel) = _
  rw [hchannels]
  rfl

/-- R131: the channel that a victim gives up is free, and a waiter without channel still has none. -/
theorem AAcc.Pooled.vacated {x y : AR} {v r : Rec} {n id : Nat} (hx : x.Pooled settling noneGone)
    (hy : y.Pooled settling noneGone) (hchannels : y.channels = (x.modChannel n releaseChannel).channels)
    (hv : findRec x v.id = some v) (hn : v.channel = some n) (hr : findRec x id = some r) (hnone : r.channel = none) :
    n ∈ freeChannels y ∧ ∀ q, findRec y id = some q → q.channel = none := by
  have hholder (m : Nat) : holderOf y m = if m = n then none else holderOf x m := by
    rw [holderOf, hchannels, ← holderOf, holderOf_modChannel]
    cases x.channels[n]? <;> rfl
  obtain ⟨c, hc, -⟩ := Option.bind_eq_some_iff.mp (hx.holds hv hn)
  refine ⟨mem_freeChannels.mpr ⟨?_, by rw [hholder, if_pos rfl]⟩, fun q hq => ?_⟩
  · rw [hchannels, AR.modChannel, List.getElem?_modify, hc]
    rfl
  · by_contra hsome
    obtain ⟨m, hm⟩ := Option.ne_none_iff_exists'.mp hsome
    have hholds := hy.holds hq hm
    rw [hholder] at hholds
    split at hholds
    · cases hholds
    · obtain ⟨p, hp, hpm⟩ := (hx.held m id).mp hholds
      rw [Option.some.inj (hp.symm.trans hr), hnone] at hpm
      cases hpm

/-- R130, R131: a waiter served. -/
theorem AAcc.Pooled.serve (h : a.Pooled True noneGone) (hids : (a.st.ar.records.map (·.id)).Nodup) {id : Nat}
    (hid : id ∈ a.st.ar.waitList) : (a.serve env id).Pooled True noneGone := by
  obtain ⟨r, hr, hwaits⟩ := (h.waiting id not_false).mp hid
  have hnone : r.channel = none := h.rested trivial id r hr (.inl hwaits)
  obtain hstays | ⟨n, hn, hgrants⟩ | ⟨v, n, hv, hvn, htakes⟩ := AAcc.serve_cases env id a
  · rw [hstays]
    exact h
  · rw [hgrants]
    exact h.grant (fun q hq => Option.some.inj (hr.symm.trans hq) ▸ hnone) hn
  · obtain ⟨hmem, -, hkind⟩ := victim_spec hv
    have hfound := findRec_of_mem hids hmem
    obtain ⟨-, hends⟩ | ⟨hplays, hyields⟩ := htakes
    · have ended := h.endRecord (env := env) .cancelled v.id
      obtain ⟨hfree, hbare⟩ := AAcc.Pooled.vacated h ended (h.endRecord_channels .cancelled hfound hvn) hfound hvn hr hnone
      rw [hends]
      exact ended.grant hbare hfree
    · obtain ⟨yielded, hchannels⟩ := h.yieldChannel (env := env) hfound hvn
        (hkind.elim (fun hending => absurd hending.2 hplays) And.right)
      obtain ⟨hfree, hbare⟩ := AAcc.Pooled.vacated h yielded hchannels hfound hvn hr hnone
      rw [hyields]
      exact yielded.grant hbare hfree

/-- What a settlement leaves, the rest of an event keeps. -/
theorem AR.Pooled.unsettled {x : AR} (h : x.Pooled settling gone) : x.Pooled False gone :=
  ⟨h.held, h.once, h.waiting, h.ended, False.elim⟩

/-- R130: a settlement of the pool. -/
theorem AAcc.Pooled.settle (h : a.Pooled False noneGone) (hsound : a.st.ar.Sound) :
    (a.settle env).Pooled False noneGone := by
  have settled : (a.settle env).st.ar.Sound ∧ (a.settle env).st.ar.Pooled True noneGone := by
    refine AAcc.settle_steps (P := fun x => x.Sound ∧ x.Pooled False noneGone)
      (Q := fun x => x.Sound ∧ x.Pooled True noneGone) (fun b hb => ⟨?_, AAcc.Pooled.releaseIdle hb.2⟩)
      (fun x n set hx => ⟨?_, ?_⟩) (fun b id hid hb => ⟨(AAcc.serve_thinned env id b).sound hb.1,
        AAcc.Pooled.serve hb.2 hb.1.ids hid⟩) ⟨hsound, h⟩
    · exact (AAcc.foldl_thinned (fun b (r : Rec) => AAcc.releaseOf_thinned env r.id b) _ _).sound hb.1
    · exact AR.Thinned.sound (x := x) (.of_eq rfl rfl rfl) hx.1
    · refine AR.Pooled.modChannel hx.2 ?_ n
      exact fun _ => rfl
  exact settled.2.unsettled

/-! ## Plays and responses -/

theorem AAcc.Pooled.countPlay (h : a.Pooled False noneGone) (n : Nat) : (a.countPlay env n).Pooled False noneGone := by
  have counted (id : Nat) : (a.counted env n id).Pooled False noneGone := by
    rw [AAcc.Pooled, AAcc.counted, AAcc.modChannel_ar]
    refine AR.Pooled.modChannel (AR.Pooled.modRec h Rec.played_id (fun _ => rfl) id) ?_ n
    exact fun _ => rfl
  obtain hstays | ⟨id, hcounts | ⟨cause, hends⟩ | ⟨f, hf, hagain⟩⟩ := AAcc.countPlay_cases env n a
  · rw [hstays]
    exact h
  · exact hcounts ▸ counted id
  · exact hends ▸ (counted id).endRecord ..
  · rw [hagain, AAcc.Pooled, AAcc.modChannel_ar]
    exact AR.Pooled.modChannel (counted id) hf n

theorem AAcc.Pooled.takeMark (h : a.Pooled False noneGone) (nm : Nat × Nat) :
    (a.takeMark env nm).Pooled False noneGone := by
  have seen : (a.see nm).Pooled False noneGone := by
    refine AR.Pooled.modChannel h ?_ nm.1
    exact fun _ => rfl
  unfold AAcc.takeMark
  split
  · exact h
  · dsimp only
    split
    · exact seen.countPlay ..
    · exact seen

theorem AAcc.Pooled.report (h : a.Pooled settling gone) (cause : AnnCause) (id : Nat) (floors : Option FloorSet) :
    (a.report cause id floors).Pooled settling gone := by
  rw [AAcc.Pooled, AAcc.report_ar]
  exact h

theorem AAcc.Pooled.overrun (h : a.Pooled False noneGone) (n : Nat) : (a.overrun env n).Pooled False noneGone := by
  unfold AAcc.overrun
  split
  · exact h
  · split
    · exact (h.report ..).countPlay ..
    · exact h

theorem AAcc.Pooled.cancelTenant (h : a.Pooled False noneGone) (id : Nat) :
    (a.cancelTenant env id).Pooled False noneGone := by
  obtain hstays | ⟨r, hr, hplays, hending⟩ | hends := AAcc.cancelTenant_cases env id a
  · rw [hstays]
    exact h
  · have hout : id ∉ a.st.ar.waitList := by
      rw [h.waiting id not_false]
      rintro ⟨q, hq, hwaits⟩
      rw [← Option.some.inj (hr.symm.trans hq), hplays] at hwaits
      cases hwaits
    have left := AR.Pooled.leave h (id := id) (st := .ending) (by decide) False.elim False.elim
    rw [List.erase_of_not_mem hout] at left
    rw [AAcc.Pooled, hending]
    exact left
  · exact hends ▸ h.endRecord ..

theorem AAcc.Pooled.endLive (h : a.Pooled False noneGone) : (a.endLive env).Pooled False noneGone := by
  unfold AAcc.endLive
  split
  · exact h.endRecord ..
  · exact h

theorem AAcc.Pooled.endRecords (h : a.Pooled settling noneGone) (cause : AnnCause) (ids : List Nat) :
    (ids.foldl (fun b id => b.endRecord env cause id) a).Pooled settling noneGone :=
  foldl_keeps (P := fun b : AAcc => b.Pooled settling noneGone) (fun _ id hb => hb.endRecord cause id) _ _ h

theorem AAcc.Pooled.beginLive (h : a.Pooled False noneGone) (hsound : a.st.ar.Sound) (floors : FloorSet) :
    (a.beginLive env floors).Pooled False noneGone := by
  unfold AAcc.beginLive
  dsimp only
  split
  · exact (h.endRecord ..).make ((AAcc.endRecord_thinned ..).sound hsound) ..
  · exact h.make hsound ..

theorem AAcc.Pooled.regimeEntered (h : a.Pooled False noneGone) (hsound : a.st.ar.Sound) :
    (a.regimeEntered env).Pooled False noneGone := by
  have ended (l k : List Nat) := (h.endRecords (env := env) .cancelled l).endRecords (env := env) .cancelled k
  have sound (l k : List Nat) :=
    ((AAcc.endRecords_thinned env .cancelled l a).trans (AAcc.endRecords_thinned env .cancelled k _)).sound hsound
  unfold AAcc.regimeEntered
  dsimp only
  split
  · exact ((ended ..).make (sound ..) ..).make (AAcc.make_sound (sound ..)) ..
  · exact (ended ..).make (sound ..) ..

theorem AAcc.Pooled.regimeEnded (h : a.Pooled False noneGone) (hsound : a.st.ar.Sound) :
    (a.regimeEnded env).Pooled False noneGone := by
  have ended (l k : List Nat) := (h.endRecords (env := env) .regimeEnded l).endRecords (env := env) .regimeEnded k
  have sound (l k : List Nat) :=
    ((AAcc.endRecords_thinned env .regimeEnded l a).trans (AAcc.endRecords_thinned env .regimeEnded k _)).sound hsound
  unfold AAcc.regimeEnded
  dsimp only
  split
  · exact (ended ..).make (sound ..) ..
  · exact ended ..

theorem AAcc.Pooled.matrixUp (h : a.Pooled settling gone) : (a.matrixUp env).Pooled settling gone := by
  refine foldl_keeps (P := fun b : AAcc => b.Pooled settling gone) (fun b n hb => ?_) _ _ (AR.Pooled.of_eq h rfl rfl rfl)
  rw [AAcc.Pooled, AAcc.modChannel_ar]
  refine AR.Pooled.modChannel hb (fun c => ?_) n
  split <;> rfl

theorem holderOf_map {x y : AR} {f : Channel → Channel} (hf : ∀ c, (f c).holder = c.holder)
    (h : y.channels = x.channels.map f) (n : Nat) : holderOf y n = holderOf x n := by
  rw [holderOf, h, List.getElem?_map, holderOf]
  cases x.channels[n]? with
  | none => rfl
  | some c => exact hf c

theorem AAcc.Pooled.matrixDown (h : a.Pooled settling gone) : a.matrixDown.Pooled settling gone := by
  refine AR.Pooled.of_same h (holderOf_map (f := fun c => { c with playTimer := none }) ?_ rfl) rfl fun _ => rfl
  exact fun _ => rfl

/-- R128, R129: every operation of the Announcement Router keeps the pool and the wait list. -/
theorem AnnOp.pooled {f : AAcc → AAcc} (hf : AnnOp env f) (hsound : a.st.ar.Sound) (h : a.Pooled False noneGone) :
    (f a).Pooled False noneGone := by
  cases hf with
  | floorAdmitted floor => exact h.testFloor floor
  | regimeEntered => exact h.regimeEntered hsound
  | regimeEnded => exact h.regimeEnded hsound
  | matrixDown => exact h.matrixDown
  | matrixUp => exact h.matrixUp
  | takeMarks marks => exact foldl_keeps (P := fun b : AAcc => b.Pooled False noneGone) (fun _ nm hb => hb.takeMark nm) _ _ h
  | overrun channel => exact h.overrun channel
  | makeTenant => exact h.make hsound ..
  | cancelTenant id => exact h.cancelTenant id
  | beginLive floors => exact h.beginLive hsound floors
  | endLive => exact h.endLive
  | settle => exact h.settle hsound

end Operations

end Sys2Proof.Machine
end

section
/-!
The claims of the floors and the floors that the records own in the course of an event (R122 to R127). Between the steps of an
operation a floor may have an owner that has not gained it yet, and while a record is being ended its claims go floor by floor.
-/

namespace Sys2Proof.Machine

/-! ## One floor -/

/-- R125: the records that claim a floor, its owner first. -/
def Claims.ids (c : Claims) : List Nat := c.owner.toList ++ c.stack

/-- R125: one floor's claims: at most three on the stack, no record twice, all of them records. -/
structure Claims.Sound (x : AR) (c : Claims) : Prop where
  depth : c.stack.length ≤ 3
  once : c.ids.Nodup
  recorded : ∀ i ∈ c.ids, (findRec x i).isSome = true

theorem Claims.mem_ids {c : Claims} {i : Nat} : i ∈ c.ids ↔ c.owner = some i ∨ i ∈ c.stack := by
  simp [Claims.ids]

theorem Claims.ids_of_owner {c : Claims} {i : Nat} (h : c.owner = some i) : c.ids = i :: c.stack := by
  rw [Claims.ids, h]
  rfl

theorem Claims.ids_of_none {c : Claims} (h : c.owner = none) : c.ids = c.stack := by
  rw [Claims.ids, h]
  rfl

theorem Claims.sound_iff {x : AR} {c : Claims} : Claims.Sound x c ↔ ClaimsOrdered x.records c := by
  have recorded (i : Nat) : (findRec x i).isSome = true ↔ ∃ r ∈ x.records, r.id = i := findRec_isSome
  constructor
  · rintro ⟨depth, once, hrecorded⟩
    obtain ⟨-, hstack, hdisjoint⟩ := List.nodup_append.mp once
    refine ⟨depth, hstack, fun i ho hmem => ?_, fun i hi => (recorded i).mp (hrecorded i (Claims.mem_ids.mpr hi))⟩
    exact hdisjoint i (by rw [ho]; exact List.mem_singleton_self i) i hmem rfl
  · rintro ⟨depth, once, apart, hrecorded⟩
    refine ⟨depth, List.nodup_append.mpr ⟨?_, once, ?_⟩, fun i hi => (recorded i).mpr (hrecorded i (Claims.mem_ids.mp hi))⟩
    · cases c.owner <;> simp
    · rintro i hi j hj rfl
      exact apart i (by simpa using hi) hj

/-- Claims taken away leave sound claims. -/
theorem Claims.Sound.sub {x : AR} {c c' : Claims} (h : Claims.Sound x c) (hdepth : c'.stack.length ≤ 3)
    (hsub : c'.ids.Subperm c.ids) : Claims.Sound x c' where
  depth := hdepth
  once := by
    obtain ⟨l, hperm, hsublist⟩ := hsub
    exact hperm.nodup_iff.mp (hsublist.nodup h.once)
  recorded i hi := h.recorded i (hsub.subset hi)

/-- A new claim joins sound claims. -/
theorem Claims.Sound.join {x : AR} {c c' : Claims} (h : Claims.Sound x c) (hdepth : c'.stack.length ≤ 3) {id : Nat}
    (hnew : id ∉ c.ids) (hid : (findRec x id).isSome = true) (hsub : c'.ids.Subperm (id :: c.ids)) : Claims.Sound x c' where
  depth := hdepth
  once := by
    obtain ⟨l, hperm, hsublist⟩ := hsub
    exact hperm.nodup_iff.mp (hsublist.nodup (List.nodup_cons.mpr ⟨hnew, h.once⟩))
  recorded i hi := by
    obtain rfl | hi := List.mem_cons.mp (hsub.subset hi)
    · exact hid
    · exact h.recorded i hi

theorem Claims.Sound.of_found {x y : AR} {c : Claims} (h : Claims.Sound x c)
    (hfound : ∀ i ∈ c.ids, (findRec x i).isSome = true → (findRec y i).isSome = true) : Claims.Sound y c :=
  ⟨h.depth, h.once, fun i hi => hfound i hi (h.recorded i hi)⟩

/-- The claims of a floor, and none beyond the configured floors. -/
theorem claimsOf_eq {x : AR} {f : Nat} {c : Claims} (h : x.claims[f]? = some c) : claimsOf x f = c := by
  rw [claimsOf, h]
  rfl

theorem claimsOf_beyond {x : AR} {f : Nat} (h : ¬ f < x.claims.length) : claimsOf x f = ⟨none, []⟩ := by
  rw [claimsOf, List.getElem?_eq_none (Nat.not_lt.mp h)]
  rfl

theorem getElem?_claims {x : AR} {f : Nat} (h : f < x.claims.length) : x.claims[f]? = some (claimsOf x f) := by
  rw [claimsOf, List.getElem?_eq_getElem h]
  rfl

theorem getElem?_setClaims (f : Nat) (c : Claims) (x : AR) (g : Nat) : (x.setClaims f c).claims[g]? =
    if g = f ∧ f < x.claims.length then some c else x.claims[g]? := by
  rw [AR.setClaims, List.getElem?_set]
  by_cases hg : g = f
  · subst hg
    by_cases hf : g < x.claims.length
    · simp [hf]
    · simp [hf]
  · simp [hg, Ne.symm hg]

theorem claimsOf_setClaims (f : Nat) (c : Claims) (x : AR) (g : Nat) : claimsOf (x.setClaims f c) g =
    if g = f ∧ f < x.claims.length then c else claimsOf x g := by
  rw [claimsOf, getElem?_setClaims]
  split
  · rfl
  · rfl

/-! ## All floors -/

/-- R123, R125, R126: `n` floors have sound claims, and a record owns the floors that name it as owner. `pend f o` says that the
owner of floor `f` is fixed to `o`, which may not have gained the floor yet; the records of `gone` are being ended. -/
structure AR.Claimed (n : Nat) (pend : Nat → Option Nat → Prop) (gone : Nat → Prop) (x : AR) : Prop where
  floors : x.claims.length = n
  sound : ∀ c ∈ x.claims, Claims.Sound x c
  owners : ∀ f c, f < 64 → x.claims[f]? = some c → ∀ i r, findRec x i = some r → ¬ pend f (some i) → ¬ gone i →
    (hasBit r.owned f = true ↔ c.owner = some i)
  pending : ∀ f o, pend f o → ∀ c, x.claims[f]? = some c → c.owner = o

/-- No floor has its owner fixed. -/
abbrev noPend : Nat → Option Nat → Prop := fun _ _ => False

/-- One floor more has its owner fixed. -/
def fixing (f : Nat) (o : Option Nat) (pend : Nat → Option Nat → Prop) : Nat → Option Nat → Prop :=
  fun g p => (g = f ∧ p = o) ∨ pend g p

theorem hasBit_addBit {s : FloorSet} {f g : Nat} (hg : g < 64) : hasBit (addBit s f) g = (hasBit s g || decide (g = f)) := by
  rw [hasBit, addBit, BitVec.getLsbD_or, BitVec.getLsbD_twoPow, hasBit]
  have hin : (decide (f < 64) && decide (f = g)) = decide (g = f) := by
    by_cases h : g = f
    · simp [← h, hg]
    · simp [h, Ne.symm h]
  rw [← hin]

theorem hasBit_dropBit {s : FloorSet} {f g : Nat} (hg : g < 64) : hasBit (dropBit s f) g = (hasBit s g && !decide (g = f)) := by
  rw [hasBit, dropBit, BitVec.getLsbD_and, BitVec.getLsbD_not, BitVec.getLsbD_twoPow, hasBit]
  by_cases h : g = f
  · simp [← h, hg]
  · simp [h, Ne.symm h, hg]

section Claimed

variable {n : Nat} {pend : Nat → Option Nat → Prop} {gone : Nat → Prop} {x y : AR}

theorem AR.Claimed.sound_at (h : x.Claimed n pend gone) (f : Nat) : Claims.Sound x (claimsOf x f) := by
  by_cases hf : f < x.claims.length
  · exact h.sound _ (List.mem_of_getElem? (getElem?_claims hf))
  · rw [claimsOf_beyond hf]
    exact ⟨Nat.zero_le _, List.nodup_nil, fun _ hi => absurd hi List.not_mem_nil⟩

theorem AR.Claimed.owner_at (h : x.Claimed n pend gone) {f : Nat} {o : Option Nat} (ho : pend f o)
    (hf : f < x.claims.length) : (claimsOf x f).owner = o := h.pending f o ho _ (getElem?_claims hf)

/-- A change that leaves the claims, which records there are, and what they own. -/
theorem AR.Claimed.of_same (h : x.Claimed n pend gone) (hclaims : y.claims = x.claims)
    (hrec : ∀ i, (findRec y i).map (·.owned) = (findRec x i).map (·.owned)) : y.Claimed n pend gone := by
  have found (i : Nat) : (findRec y i).isSome = (findRec x i).isSome := by
    simpa using congrArg Option.isSome (hrec i)
  refine ⟨hclaims ▸ h.floors, fun c hc => ?_, fun f c hf hc i r hr hp hg => ?_, fun f o ho c hc => ?_⟩
  · exact (h.sound c (hclaims ▸ hc)).of_found fun i _ hi => (found i).trans hi
  · obtain ⟨q, hq, howned⟩ := Option.map_eq_some_iff.mp ((hrec i).symm.trans (congrArg (Option.map (·.owned)) hr))
    have hsame : q.owned = r.owned := howned
    rw [← hsame]
    exact h.owners f c hf (hclaims ▸ hc) i q hq hp hg
  · exact h.pending f o ho c (hclaims ▸ hc)

theorem AR.Claimed.modRec {f : Rec → Rec} (h : x.Claimed n pend gone) (hf : ∀ r, (f r).id = r.id)
    (howned : ∀ r, (f r).owned = r.owned) (id : Nat) : (x.modRec id f).Claimed n pend gone :=
  h.of_same rfl (findRec_modRec_map hf (·.owned) howned x)

/-- The claims of one floor replaced. -/
theorem AR.Claimed.setClaims (h : x.Claimed n pend gone) {f : Nat} {c : Claims} {pend' : Nat → Option Nat → Prop}
    (hc : Claims.Sound x c) (hothers : ∀ g o, g ≠ f → (pend' g o ↔ pend g o)) (hfixed : ∀ o, pend' f o → c.owner = o)
    (hbeyond : ¬ f < x.claims.length → ∀ o, pend f o → pend' f o)
    (howner : f < x.claims.length → ∀ i, ¬ pend' f (some i) → ¬ gone i → ¬ pend f (some i) ∧
      (c.owner = some i ↔ (claimsOf x f).owner = some i)) : (x.setClaims f c).Claimed n pend' gone := by
  refine ⟨?_, fun d hd => ?_, fun g d hg hd i r hr hp hgone => ?_, fun g o ho d hd => ?_⟩
  · exact List.length_set.trans h.floors
  · obtain hd | rfl := List.mem_or_eq_of_mem_set hd
    · exact (h.sound d hd).of_found fun _ _ hi => hi
    · exact hc.of_found fun _ _ hi => hi
  · rw [getElem?_setClaims] at hd
    split at hd
    case isTrue hat =>
      obtain ⟨rfl, hf⟩ := hat
      obtain rfl := Option.some.inj hd
      obtain ⟨hfree, hsame⟩ := howner hf i hp hgone
      rw [hsame]
      exact h.owners g _ hg (getElem?_claims hf) i r hr hfree hgone
    case isFalse hnot =>
      refine h.owners g d hg hd i r hr (fun hpend => hp ?_) hgone
      by_cases hgf : g = f
      · subst hgf
        exact hbeyond (fun hf => hnot ⟨rfl, hf⟩) _ hpend
      · exact (hothers g _ hgf).mpr hpend
  · rw [getElem?_setClaims] at hd
    split at hd
    case isTrue hat =>
      obtain ⟨rfl, hf⟩ := hat
      obtain rfl := Option.some.inj hd
      exact hfixed o ho
    case isFalse hnot =>
      by_cases hgf : g = f
      · subst hgf
        exact absurd ⟨rfl, (List.getElem?_eq_some_iff.mp hd).1⟩ hnot
      · exact h.pending g o ((hothers g o hgf).mp ho) d hd

/-- The stack of a floor replaced. -/
theorem AR.Claimed.restack (h : x.Claimed n pend gone) {f : Nat} {l : List Nat}
    (hc : Claims.Sound x ⟨(claimsOf x f).owner, l⟩) : (x.setClaims f ⟨(claimsOf x f).owner, l⟩).Claimed n pend gone := by
  by_cases hf : f < x.claims.length
  · exact h.setClaims hc (fun _ _ _ => .rfl) (fun o ho => h.owner_at ho hf) (fun _ _ => id) fun _ _ hp _ => ⟨hp, .rfl⟩
  · have hsame : x.setClaims f ⟨(claimsOf x f).owner, l⟩ = x := by
      rw [AR.setClaims, List.set_eq_of_length_le (Nat.not_lt.mp hf)]
    rw [hsame]
    exact h

/-- A floor without an owner, but for one being ended, gets none. -/
theorem AR.Claimed.disown (h : x.Claimed n pend gone) {f : Nat} {l : List Nat} (hc : Claims.Sound x ⟨none, l⟩)
    (hnone : ∀ i, (claimsOf x f).owner = some i → gone i) (hpend : ∀ o, ¬ pend f o) :
    (x.setClaims f ⟨none, l⟩).Claimed n pend gone :=
  h.setClaims hc (fun _ _ _ => .rfl) (fun o ho => absurd ho (hpend o)) (fun _ o ho => absurd ho (hpend o)) fun _ i hp hg =>
    ⟨hp, iff_of_false nofun fun ho => hg (hnone i ho)⟩

/-- A floor without an owner gets one, which has not gained it yet. -/
theorem AR.Claimed.appoint (h : x.Claimed n pend gone) {f id : Nat} {l : List Nat} (hc : Claims.Sound x ⟨some id, l⟩)
    (hnone : (claimsOf x f).owner = none) (hpend : ∀ o, ¬ pend f o) :
    (x.setClaims f ⟨some id, l⟩).Claimed n (fixing f (some id) pend) gone := by
  refine h.setClaims hc (fun g o hg => ?_) ?_ (fun _ o ho => .inr ho) fun _ i hp _ => ⟨fun hp' => hp (.inr hp'), ?_⟩
  · simp [fixing, hg]
  · rintro o (⟨-, rfl⟩ | ho)
    · rfl
    · exact absurd ho (hpend o)
  · rw [hnone]
    refine iff_of_false (fun hi => hp (.inl ⟨rfl, ?_⟩)) nofun
    exact hi.symm

/-- R126: the owner of a floor loses it, and the floor's claims are given afresh. -/
theorem AR.Claimed.pass (h : x.Claimed n noPend noneGone) {f old : Nat} {c : Claims}
    (hold : (claimsOf x f).owner = some old) (hc : Claims.Sound x c) (hnew : c.owner ≠ some old) :
    ((x.setClaims f c).modRec old (Rec.lost f)).Claimed n (fixing f c.owner noPend) noneGone := by
  have hf : f < x.claims.length := by
    by_contra hf
    rw [claimsOf_beyond hf] at hold
    cases hold
  have hfind := findRec_modRec (Rec.lost_id f) (id := old) (x.setClaims f c)
  have hfound (i : Nat) : (findRec ((x.setClaims f c).modRec old (Rec.lost f)) i).isSome = (findRec x i).isSome := by
    rw [hfind]
    split
    case isTrue hi =>
      rw [Option.isSome_map, hi]
      rfl
    case isFalse => rfl
  refine ⟨List.length_set.trans h.floors, fun d hd => ?_, fun g d hg hd i r hr hp _ => ?_, ?_⟩
  · obtain hd | rfl := List.mem_or_eq_of_mem_set hd
    · exact (h.sound d hd).of_found fun i _ hi => (hfound i).trans hi
    · exact hc.of_found fun i _ hi => (hfound i).trans hi
  · change (x.setClaims f c).claims[g]? = some d at hd
    rw [getElem?_setClaims] at hd
    rw [hfind] at hr
    by_cases hgf : g = f
    · subst hgf
      rw [if_pos ⟨rfl, hf⟩] at hd
      obtain rfl := Option.some.inj hd
      have hnot : c.owner ≠ some i := fun hi => hp (.inl ⟨rfl, hi.symm⟩)
      refine iff_of_false ?_ hnot
      split at hr
      case isTrue hi =>
        obtain ⟨q, -, rfl⟩ := Option.map_eq_some_iff.mp hr
        simp [Rec.lost, hasBit_dropBit hg]
      case isFalse hi =>
        rw [h.owners g _ hg (getElem?_claims hf) i r hr not_false not_false, hold]
        exact fun hsame => hi (Option.some.inj hsame).symm
    · rw [if_neg fun hat => hgf hat.1] at hd
      split at hr
      case isTrue hi =>
        obtain ⟨q, hq, rfl⟩ := Option.map_eq_some_iff.mp hr
        rw [hi, ← h.owners g d hg hd old q hq not_false not_false]
        simp [Rec.lost, hasBit_dropBit hg, hgf]
      case isFalse => exact h.owners g d hg hd i r hr not_false not_false
  · rintro g o (⟨rfl, rfl⟩ | ho) d hd
    · change (x.setClaims g c).claims[g]? = some d at hd
      rw [getElem?_setClaims, if_pos ⟨rfl, hf⟩] at hd
      rw [← Option.some.inj hd]
    · exact absurd ho not_false

/-- R125: the fixed owner of a floor gains it. -/
theorem AR.Claimed.gained {f id : Nat} (h : x.Claimed n (fixing f (some id) pend) gone) :
    (x.modRec id (Rec.gained f)).Claimed n pend gone := by
  have hfind := findRec_modRec (Rec.gained_id f) (id := id) x
  refine ⟨h.floors, fun d hd => ?_, fun g d hg hd i r hr hp hgone => ?_, fun g o ho d hd => h.pending g o (.inr ho) d hd⟩
  · refine (h.sound d hd).of_found fun i _ hi => ?_
    rw [hfind]
    split
    case isTrue hid => rw [Option.isSome_map, ← hid, hi]
    case isFalse => exact hi
  · rw [hfind] at hr
    by_cases hat : g = f ∧ i = id
    · obtain ⟨rfl, rfl⟩ := hat
      rw [if_pos rfl] at hr
      obtain ⟨q, -, rfl⟩ := Option.map_eq_some_iff.mp hr
      refine iff_of_true ?_ (h.pending g _ (.inl ⟨rfl, rfl⟩) d hd)
      simp [Rec.gained, hasBit_addBit hg]
    · have hnot : ¬ fixing f (some id) pend g (some i) := by
        rintro (⟨hgf, hi⟩ | hpend)
        · exact hat ⟨hgf, Option.some.inj hi⟩
        · exact hp hpend
      split at hr
      case isTrue hi =>
        obtain ⟨q, hq, rfl⟩ := Option.map_eq_some_iff.mp hr
        have hgf : g ≠ f := fun hgf => hat ⟨hgf, hi⟩
        rw [← h.owners g d hg hd i q (hi ▸ hq) hnot hgone]
        simp [Rec.gained, hasBit_addBit hg, hgf]
      case isFalse => exact h.owners g d hg hd i r hr hnot hgone

/-- What is fixed may be forgotten where no record is fixed as an owner. -/
theorem AR.Claimed.unfix {f : Nat} (h : x.Claimed n (fixing f none pend) gone) : x.Claimed n pend gone :=
  ⟨h.floors, h.sound, fun g c hg hc i r hr hp => h.owners g c hg hc i r hr (by simpa [fixing] using hp),
    fun g o ho => h.pending g o (.inr ho)⟩

/-- R122: a record reaches ENDED and owns nothing. -/
theorem AR.Claimed.retire (h : x.Claimed n pend noneGone) (id : Nat) :
    (x.modRec id Rec.retired).Claimed n pend (· = id) := by
  have hfind := findRec_modRec Rec.retired_id (id := id) x
  refine ⟨h.floors, fun d hd => (h.sound d hd).of_found fun i _ hi => ?_, fun g d hg hd i r hr hp hgone => ?_, h.pending⟩
  · rw [hfind]
    split
    case isTrue hid => rw [Option.isSome_map, ← hid, hi]
    case isFalse => exact hi
  · rw [hfind, if_neg hgone] at hr
    exact h.owners g d hg hd i r hr hp not_false

/-- R122: an ended record without claims leaves the table. -/
theorem AR.Claimed.drop {id : Nat} (h : x.Claimed n pend (· = id)) (hfree : ∀ c ∈ x.claims, id ∉ c.ids) :
    (x.without id).Claimed n pend noneGone := by
  have hfind := findRec_without id x
  refine ⟨h.floors, fun d hd => (h.sound d hd).of_found fun i hi hrec => ?_, fun g d hg hd i r hr hp _ => ?_, h.pending⟩
  · have hne : i ≠ id := fun hid => hfree d hd (hid ▸ hi)
    rw [hfind, if_neg hne]
    exact hrec
  · rw [hfind] at hr
    split at hr
    case isTrue => cases hr
    case isFalse hne => exact h.owners g d hg hd i r hr hp hne

/-- R122: a record is made, without claims. -/
theorem AR.Claimed.insert {r : Rec} (h : x.Claimed n pend noneGone) (hfresh : findRec x r.id = none) (howned : r.owned = 0) :
    (x.insert r).Claimed n pend noneGone := by
  have hfind := findRec_insert hfresh
  refine ⟨h.floors, fun d hd => (h.sound d hd).of_found fun i _ hi => ?_, fun g d hg hd i q hq hp _ => ?_, h.pending⟩
  · rw [hfind]
    split
    · rfl
    · exact hi
  · rw [hfind] at hq
    split at hq
    case isTrue hid =>
      obtain rfl := Option.some.inj hq
      refine iff_of_false (by simp [howned, hasBit]) fun ho => ?_
      have hrec := (h.sound d (List.mem_of_getElem? hd)).recorded i (Claims.mem_ids.mpr (.inl ho))
      rw [hid, hfresh] at hrec
      cases hrec
    case isFalse => exact h.owners g d hg hd i q hq hp not_false

end Claimed

end Sys2Proof.Machine
end

section
/-!
The claims and the owned floors through the operations of the Announcement Router (R122 to R127).
-/

namespace Sys2Proof.Machine

/-! ## Claims that go -/

/-- No floor is claimed that was not claimed before. -/
structure AR.Yields (x y : AR) : Prop where
  ids : ∀ f, (claimsOf y f).ids ⊆ (claimsOf x f).ids

theorem AR.Yields.refl (x : AR) : x.Yields x := ⟨fun _ _ h => h⟩

theorem AR.Yields.trans {x y z : AR} (h : x.Yields y) (k : y.Yields z) : x.Yields z := ⟨fun f _ hi => h.ids f (k.ids f hi)⟩

theorem AR.Yields.of_eq {x y : AR} (h : y.claims = x.claims) : x.Yields y := ⟨fun f => by
  rw [claimsOf, h, claimsOf]
  exact fun _ hi => hi⟩

theorem AR.setClaims_yields {x : AR} {f : Nat} {c : Claims} (h : c.ids ⊆ (claimsOf x f).ids) : x.Yields (x.setClaims f c) := by
  refine ⟨fun g => ?_⟩
  rw [claimsOf_setClaims]
  split
  case isTrue hg => exact hg.1 ▸ h
  case isFalse => exact fun _ hi => hi

/-- The Announcement Router after a step has no more claims. -/
abbrev AAcc.Yields (a b : AAcc) : Prop := a.st.ar.Yields b.st.ar

section Claims

variable {env : AEnv} {a : AAcc}

theorem AAcc.gain_yields (id f : Nat) (a : AAcc) : a.Yields (a.gain id f) := .of_eq (AAcc.gain_leaves id f a).1

/-- R126: what a promotion makes of the claims of its floor: the entries that remain, the first as the owner. -/
theorem AAcc.promote_claims (env : AEnv) (f : Nat) (a : AAcc) : ∃ c : Claims, c.ids = remaining env a.st.ar f ∧
    (a.promote env f).st.ar.claims = (a.st.ar.setClaims f c).claims := by
  cases hrest : remaining env a.st.ar f with
  | nil => exact ⟨⟨none, []⟩, rfl, by rw [AAcc.promote_nil hrest]; rfl⟩
  | cons id ids =>
    refine ⟨⟨some id, ids⟩, rfl, ?_⟩
    rw [AAcc.promote_cons hrest]
    exact (AAcc.gain_leaves ..).1

theorem AAcc.promote_yields (env : AEnv) (f : Nat) (a : AAcc) : a.Yields (a.promote env f) := by
  obtain ⟨c, hc, hclaims⟩ := AAcc.promote_claims env f a
  refine AR.Yields.trans (AR.setClaims_yields (c := c) ?_) (.of_eq hclaims)
  rw [hc]
  exact fun i hi => Claims.mem_ids.mpr (.inr ((remaining_sublist env a.st.ar f).subset hi))

/-- R122: the claim of an ended record on one floor goes, and the other claims on the floor stay at most. -/
theorem AAcc.endClaimOfEnded_claims (env : AEnv) (id : Nat) (a : AAcc) (f : Nat) : a.Yields (a.endClaimOfEnded env id f) ∧
    ((claimsOf a.st.ar f).ids.Nodup → id ∉ (claimsOf (a.endClaimOfEnded env id f).st.ar f).ids) := by
  unfold AAcc.endClaimOfEnded
  dsimp only
  split
  case isTrue howner =>
    have hids := Claims.ids_of_owner howner
    have yielded : a.Yields (a.setClaims f ⟨none, (claimsOf a.st.ar f).stack⟩) := by
      refine AR.setClaims_yields ?_
      rw [hids]
      exact fun i hi => List.mem_cons_of_mem id hi
    refine ⟨yielded.trans (AAcc.promote_yields ..), fun hnd hmem => ?_⟩
    rw [hids] at hnd
    have hstack := (AAcc.promote_yields env f _).ids f hmem
    have hf : f < a.st.ar.claims.length := by
      by_contra hf
      rw [claimsOf_beyond hf] at howner
      cases howner
    rw [AAcc.setClaims_ar, claimsOf_setClaims, if_pos ⟨rfl, hf⟩] at hstack
    exact (List.nodup_cons.mp hnd).1 hstack
  case isFalse howner =>
    split
    case isTrue hcontains =>
      have hsub : (Claims.mk (claimsOf a.st.ar f).owner ((claimsOf a.st.ar f).stack.erase id)).ids.Sublist
          (claimsOf a.st.ar f).ids := List.Sublist.append (.refl _) (List.erase_sublist)
      refine ⟨AR.setClaims_yields hsub.subset, fun hnd hmem => ?_⟩
      have hstack := (List.nodup_append.mp hnd).2.1
      rw [AAcc.setClaims_ar, claimsOf_setClaims] at hmem
      split at hmem
      case isTrue =>
        obtain hmem | hmem := Claims.mem_ids.mp hmem
        · exact howner hmem
        · exact (hstack.mem_erase_iff.mp hmem).1 rfl
      case isFalse hbeyond =>
        rw [claimsOf_beyond fun hf => hbeyond ⟨rfl, hf⟩] at hmem
        exact absurd hmem List.not_mem_nil
    case isFalse hcontains =>
      refine ⟨.refl _, fun _ hmem => ?_⟩
      obtain hmem | hmem := Claims.mem_ids.mp hmem
      · exact howner hmem
      · exact hcontains (List.contains_iff_mem.mpr hmem)

theorem AAcc.withdrawn_yields (env : AEnv) (id : Nat) (a : AAcc) : a.Yields (a.withdrawn env id) := by
  have unclaimed : (a.flushDisplaced id).Yields ((a.flushDisplaced id).unclaimed env id) :=
    foldl_keeps (P := fun b : AAcc => (a.flushDisplaced id).Yields b)
      (fun b f hb => hb.trans (AAcc.endClaimOfEnded_claims env id b f).1) _ _ (.of_eq rfl)
  rw [AAcc.Yields, AAcc.flushDisplaced_ar] at unclaimed
  exact unclaimed.trans (.of_eq (AAcc.releaseOf_waitList ..).2)

theorem AAcc.endRecord_yields (env : AEnv) (cause : AnnCause) (id : Nat) (a : AAcc) :
    a.Yields (a.endRecord env cause id) := by
  cases hr : findRec a.st.ar id with
  | none =>
    rw [AAcc.endRecord_none hr]
    exact .refl _
  | some r =>
    rw [AAcc.Yields, AAcc.endRecord_without hr]
    exact (AAcc.withdrawn_yields env id a).trans (.of_eq rfl)

theorem AAcc.bereft_yields (env : AEnv) (id : Nat) (a : AAcc) : a.Yields (a.bereft env id) := by
  obtain hstays | hsuspends | ⟨cause, hends⟩ := AAcc.bereft_cases env id a
  · rw [hstays]
    exact .refl _
  · refine .of_eq ?_
    rw [hsuspends, AAcc.suspend_ar]
    rfl
  · exact hends ▸ AAcc.endRecord_yields ..

theorem AAcc.lose_yields (env : AEnv) (id f : Nat) (a : AAcc) : a.Yields (a.lose env id f) := by
  rw [AAcc.lose_eq]
  exact AR.Yields.trans (y := (a.modRec id (Rec.lost f)).st.ar) (.of_eq rfl) (AAcc.bereft_yields ..)

theorem AAcc.dropClaim_yields (env : AEnv) (f id : Nat) (a : AAcc) : a.Yields (a.dropClaim env f id) := by
  obtain ⟨e, hdrops⟩ | ⟨e, hends⟩ := AAcc.dropClaim_cases env f id a
  · rw [hdrops]
    exact .of_eq rfl
  · rw [hends]
    exact AR.Yields.trans (y := ((a.modRec id (Rec.cut f)).ev e).st.ar) (.of_eq rfl) (AAcc.endRecord_yields ..)

theorem AAcc.cutLowest_yields (env : AEnv) (f : Nat) (full : List Nat) (a : AAcc) : a.Yields (a.cutLowest env f full) := by
  obtain hstays | ⟨low, -, -, hdrops⟩ := AAcc.cutLowest_cases env f full a
  · rw [hstays]
    exact .refl _
  · exact hdrops ▸ AAcc.dropClaim_yields ..

/-- R125: a record that claims a floor is the only one that claims more than before, and on that floor alone. -/
theorem AAcc.claimFloor_ids (env : AEnv) (id : Nat) (a : AAcc) (f : Nat) {g i : Nat}
    (h : i ∈ (claimsOf (AAcc.claimFloor env id a f).st.ar g).ids) : i ∈ (claimsOf a.st.ar g).ids ∨ (g = f ∧ i = id) := by
  have given {c : Claims} {b : AAcc} (hc : c.ids ⊆ id :: (claimsOf a.st.ar f).ids) (hb : (a.setClaims f c).Yields b)
      (hi : i ∈ (claimsOf b.st.ar g).ids) : i ∈ (claimsOf a.st.ar g).ids ∨ (g = f ∧ i = id) := by
    have hset := hb.ids g hi
    rw [AAcc.setClaims_ar, claimsOf_setClaims] at hset
    split at hset
    case isTrue hg =>
      obtain ⟨rfl, -⟩ := hg
      obtain rfl | hold := List.mem_cons.mp (hc hset)
      · exact .inr ⟨rfl, rfl⟩
      · exact .inl hold
    case isFalse => exact .inl hset
  obtain ⟨-, hnone⟩ | ⟨x, hx, ⟨-, howns⟩ | ⟨old, o, full, howner, ho, ⟨-, hfull, hbeats⟩ | ⟨-, hfull, hbelow⟩⟩⟩ :=
    AAcc.claimFloor_cases env id a f
  · exact .inl (hnone ▸ h)
  · rw [howns] at h
    refine given ?_ (AAcc.gain_yields ..) h
    exact List.cons_subset_cons id fun j hj => Claims.mem_ids.mpr (.inr hj)
  · rw [hbeats] at h
    refine given ?_ (((AAcc.lose_yields ..).trans (AAcc.gain_yields ..)).trans (AAcc.cutLowest_yields ..)) h
    have hperm := insertId_perm a.st.ar beats o (claimsOf a.st.ar f).stack
    rw [← hfull, (findRec_spec ho).2, ← Claims.ids_of_owner howner] at hperm
    exact List.cons_subset_cons id fun j hj => hperm.subset (List.take_subset _ _ hj)
  · rw [hbelow] at h
    refine given ?_ (AAcc.cutLowest_yields ..) h
    have hperm := insertId_perm a.st.ar beats x (claimsOf a.st.ar f).stack
    rw [← hfull, (findRec_spec hx).2] at hperm
    rw [Claims.ids_of_owner howner]
    refine fun j hj => ?_
    obtain rfl | hj := List.mem_cons.mp hj
    · exact List.mem_cons_of_mem id List.mem_cons_self
    · obtain rfl | hj := List.mem_cons.mp (hperm.subset (List.take_subset _ _ hj))
      · exact List.mem_cons_self
      · exact List.mem_cons_of_mem id (List.mem_cons_of_mem old hj)

end Claims

/-! ## Ownership through the operations -/

/-- The claims as they stand in the course of a change. -/
abbrev AAcc.Claimed (n : Nat) (pend : Nat → Option Nat → Prop) (gone : Nat → Prop) (a : AAcc) : Prop :=
  a.st.ar.Claimed n pend gone

section Operations

variable {n : Nat} {pend : Nat → Option Nat → Prop} {gone : Nat → Prop} {env : AEnv} {a : AAcc}

theorem AAcc.Claimed.report (h : a.Claimed n pend gone) (cause : AnnCause) (id : Nat) (floors : Option FloorSet) :
    (a.report cause id floors).Claimed n pend gone := by
  rw [AAcc.Claimed, AAcc.report_ar]
  exact h

/-- R125: the fixed owner of a floor gains it. -/
theorem AAcc.Claimed.gain {f id : Nat} (h : a.Claimed n (fixing f (some id) pend) gone)
    (hid : (findRec a.st.ar id).isSome = true) : (a.gain id f).Claimed n pend gone := by
  obtain ⟨r, hr⟩ := Option.isSome_iff_exists.mp hid
  have owned := AR.Claimed.gained h
  have hfound : findRec (a.modRec id (Rec.gained f)).st.ar id = some (r.gained f) := by
    rw [AAcc.modRec_ar, findRec_modRec_self (Rec.gained_id f), hr]
    rfl
  obtain ⟨l, hl, -⟩ := AAcc.enterWaiting_ar hfound
  rw [AAcc.Claimed, AAcc.gain_ar hr]
  split
  · rw [hl]
    exact AR.Claimed.of_same (owned.modRec (Rec.inState_id .waiting) (fun _ => rfl) id) rfl fun _ => rfl
  · exact owned

/-- R126: a floor without an owner passes on to the first entry of its stack that remains. -/
theorem AAcc.Claimed.promote {f : Nat} (h : a.Claimed n pend gone) (hnone : (claimsOf a.st.ar f).owner = none)
    (hpend : ∀ o, ¬ pend f o) : (a.promote env f).Claimed n pend gone := by
  have sound := h.sound_at f
  have hsub := remaining_sublist env a.st.ar f
  have hdepth := hsub.length_le.trans sound.depth
  cases hrest : remaining env a.st.ar f with
  | nil =>
    rw [AAcc.promote_nil hrest]
    exact AR.Claimed.disown h ⟨Nat.zero_le _, List.nodup_nil, fun _ hi => absurd hi List.not_mem_nil⟩
      (fun i hi => absurd (hnone.symm.trans hi) nofun) hpend
  | cons id ids =>
    rw [hrest] at hsub hdepth
    rw [← Claims.ids_of_none hnone] at hsub
    have passed : Claims.Sound a.st.ar ⟨some id, ids⟩ :=
      sound.sub (Nat.le_of_succ_le hdepth) hsub.subperm
    rw [AAcc.promote_cons hrest]
    exact AAcc.Claimed.gain (AR.Claimed.appoint h passed hnone hpend) (passed.recorded id List.mem_cons_self)

theorem AAcc.Claimed.endClaimOfEnded {id : Nat} (h : a.Claimed n pend (· = id)) (hid : ∀ f, ¬ pend f (some id)) (f : Nat) :
    (a.endClaimOfEnded env id f).Claimed n pend (· = id) := by
  have sound := h.sound_at f
  unfold AAcc.endClaimOfEnded
  dsimp only
  split
  case isTrue howner =>
    have hf : f < a.st.ar.claims.length := by
      by_contra hf
      rw [claimsOf_beyond hf] at howner
      cases howner
    have hpend : ∀ o, ¬ pend f o := by
      intro o ho
      have hsame := h.owner_at ho hf
      rw [howner] at hsame
      exact hid f (hsame ▸ ho)
    have vacant : Claims.Sound a.st.ar ⟨none, (claimsOf a.st.ar f).stack⟩ := by
      refine sound.sub sound.depth ?_
      rw [Claims.ids_of_owner howner]
      exact (List.sublist_cons_self ..).subperm
    have disowned : (a.setClaims f ⟨none, (claimsOf a.st.ar f).stack⟩).Claimed n pend (· = id) :=
      AR.Claimed.disown h vacant (fun i hi => (Option.some.inj (howner.symm.trans hi)).symm) hpend
    refine disowned.promote ?_ hpend
    rw [AAcc.setClaims_ar, claimsOf_setClaims, if_pos ⟨rfl, hf⟩]
  case isFalse =>
    split
    · refine AR.Claimed.restack h (sound.sub (List.length_erase_le.trans sound.depth) ?_)
      exact (List.Sublist.append (.refl _) List.erase_sublist).subperm
    · exact h

/-- R122: the claims of an ended record are gone. -/
theorem AAcc.Claimed.unclaimed {id : Nat} (h : a.Claimed n pend noneGone) (hid : ∀ f, ¬ pend f (some id)) :
    (a.unclaimed env id).Claimed n pend (· = id) ∧ ∀ c ∈ (a.unclaimed env id).st.ar.claims, id ∉ c.ids := by
  have retired : (a.modRec id Rec.retired).Claimed n pend (· = id) := AR.Claimed.retire h id
  have unclaimed : (a.unclaimed env id).Claimed n pend (· = id) :=
    foldl_keeps (P := fun b : AAcc => b.Claimed n pend (· = id)) (fun _ f hb => hb.endClaimOfEnded hid f) _ _ retired
  refine ⟨unclaimed, fun c hc => ?_⟩
  obtain ⟨f, hf⟩ := List.getElem?_of_mem hc
  have hlength : f < (a.modRec id Rec.retired).st.ar.claims.length := by
    rw [retired.floors, ← unclaimed.floors]
    exact (List.getElem?_eq_some_iff.mp hf).1
  have free : id ∉ (claimsOf (a.unclaimed env id).st.ar f).ids := by
    refine (foldl_reaches (P := fun b : AAcc => b.Claimed n pend (· = id))
      (Q := fun b : AAcc => id ∉ (claimsOf b.st.ar f).ids) (hit := (· = f)) ?_ (fun _ g _ _ hb => hb.endClaimOfEnded hid g)
      ?_ ⟨f, List.mem_range.mpr hlength, rfl⟩ retired)
    · rintro b g - rfl hb
      exact (AAcc.endClaimOfEnded_claims env id b g).2 (hb.sound_at g).once
    · exact fun b g _ hb hmem => hb ((AAcc.endClaimOfEnded_claims env id b g).1.ids f hmem)
  rwa [claimsOf_eq hf] at free

theorem AAcc.Claimed.releaseOf (h : a.Claimed n pend gone) (id : Nat) : (a.releaseOf env id).Claimed n pend gone := by
  refine AR.Claimed.of_same h (AAcc.releaseOf_waitList ..).2 fun i => ?_
  rw [findRec_releaseOf]
  split
  case isTrue hi =>
    subst hi
    rw [Option.map_map]
    rfl
  case isFalse => rfl

/-- R122: a record is ended. -/
theorem AAcc.Claimed.endRecord {id : Nat} (h : a.Claimed n pend noneGone) (hid : ∀ f, ¬ pend f (some id)) (cause : AnnCause) :
    (a.endRecord env cause id).Claimed n pend noneGone := by
  cases hr : findRec a.st.ar id with
  | none =>
    rw [AAcc.endRecord_none hr]
    exact h
  | some r =>
    have flushed : (a.flushDisplaced id).Claimed n pend noneGone := by
      rw [AAcc.Claimed, AAcc.flushDisplaced_ar]
      exact h
    obtain ⟨unclaimed, free⟩ := flushed.unclaimed (env := env) hid
    have unlisted : (((a.flushDisplaced id).unclaimed env id).ar
        (fun x => { x with waitList := x.waitList.erase id })).Claimed n pend (· = id) :=
      AR.Claimed.of_same unclaimed rfl fun _ => rfl
    rw [AAcc.Claimed, AAcc.endRecord_without hr]
    refine AR.Claimed.drop (unlisted.releaseOf id) ?_
    rw [AAcc.withdrawn, (AAcc.releaseOf_waitList ..).2]
    exact free

theorem AAcc.Claimed.bereft {id : Nat} (h : a.Claimed n pend noneGone) (hid : ∀ f, ¬ pend f (some id)) :
    (a.bereft env id).Claimed n pend noneGone := by
  obtain hstays | hsuspends | ⟨cause, hends⟩ := AAcc.bereft_cases env id a
  · rw [hstays]
    exact h
  · rw [hsuspends, AAcc.Claimed, AAcc.suspend_ar]
    exact AR.Claimed.of_same (AR.Claimed.modRec h (Rec.inState_id .suspended) (fun _ => rfl) id) rfl fun _ => rfl
  · exact hends ▸ h.endRecord hid cause

theorem noPend_free (id : Nat) : ∀ f, ¬ noPend f (some id) := fun _ => not_false

theorem AAcc.Claimed.dropClaim (h : a.Claimed n noPend noneGone) (f id : Nat) :
    (a.dropClaim env f id).Claimed n noPend noneGone := by
  have cut (e : Scratch → Scratch) : ((a.modRec id (Rec.cut f)).ev e).Claimed n noPend noneGone :=
    AR.Claimed.modRec h (Rec.cut_id f) (fun _ => rfl) id
  obtain ⟨e, hdrops⟩ | ⟨e, hends⟩ := AAcc.dropClaim_cases env f id a
  · exact hdrops ▸ cut e
  · exact hends ▸ (cut e).endRecord (noPend_free id) _

theorem AAcc.Claimed.cutLowest (h : a.Claimed n noPend noneGone) (f : Nat) (full : List Nat) :
    (a.cutLowest env f full).Claimed n noPend noneGone := by
  obtain hstays | ⟨low, -, -, hdrops⟩ := AAcc.cutLowest_cases env f full a
  · rw [hstays]
    exact h
  · exact hdrops ▸ h.dropClaim f low

/-- R125: the owner is demoted, and the record that beats it takes the floor. -/
theorem AAcc.Claimed.demote {f id old : Nat} {l : List Nat} (h : a.Claimed n noPend noneGone)
    (howner : (claimsOf a.st.ar f).owner = some old) (hne : id ≠ old) (hc : Claims.Sound a.st.ar ⟨some id, l⟩) :
    (((a.setClaims f ⟨some id, l⟩).lose env old f).gain id f).Claimed n noPend noneGone := by
  have passed : ((a.setClaims f ⟨some id, l⟩).modRec old (Rec.lost f)).Claimed n (fixing f (some id) noPend) noneGone :=
    AR.Claimed.pass h howner hc fun hsame => hne (Option.some.inj hsame)
  have lost : ((a.setClaims f ⟨some id, l⟩).lose env old f).Claimed n (fixing f (some id) noPend) noneGone := by
    rw [AAcc.lose_eq]
    refine passed.bereft fun g hfixed => ?_
    obtain ⟨-, hsame⟩ | hfixed := hfixed
    · exact hne (Option.some.inj hsame).symm
    · exact hfixed
  have hf : f < ((a.setClaims f ⟨some id, l⟩).lose env old f).st.ar.claims.length := by
    rw [lost.floors, ← h.floors]
    by_contra hf
    rw [claimsOf_beyond hf] at howner
    cases howner
  refine lost.gain ((lost.sound_at f).recorded id (Claims.mem_ids.mpr (.inl ?_)))
  exact lost.owner_at (.inl ⟨rfl, rfl⟩) hf

/-- R125: a record claims a floor on which it has no claim. -/
theorem AAcc.Claimed.claimFloor {id f : Nat} (h : a.Claimed n noPend noneGone) (hnew : id ∉ (claimsOf a.st.ar f).ids) :
    (AAcc.claimFloor env id a f).Claimed n noPend noneGone := by
  have sound := h.sound_at f
  have hdepth (l : List Nat) : (l.take Config.stackCap).length ≤ 3 := List.length_take_le ..
  obtain ⟨-, hnone⟩ | ⟨x, hx, ⟨hunowned, howns⟩ | ⟨old, o, full, howner, ho, hcase⟩⟩ := AAcc.claimFloor_cases env id a f
  · rw [hnone]
    exact h
  · have hid : (findRec a.st.ar id).isSome = true := by
      rw [hx]
      rfl
    have hnone : (claimsOf a.st.ar f).owner = none := by
      by_contra hsome
      obtain ⟨old, hold⟩ := Option.ne_none_iff_exists'.mp hsome
      have hrec := sound.recorded old (Claims.mem_ids.mpr (.inl hold))
      rw [hunowned old hold] at hrec
      cases hrec
    have claimed : Claims.Sound a.st.ar ⟨some id, (claimsOf a.st.ar f).stack⟩ := by
      refine sound.join sound.depth hnew hid ?_
      rw [Claims.ids_of_none hnone]
      exact List.Subperm.refl _
    rw [howns]
    exact AAcc.Claimed.gain (AR.Claimed.appoint h claimed hnone fun _ => not_false) hid
  · have hid : (findRec a.st.ar id).isSome = true := by
      rw [hx]
      rfl
    have hids := Claims.ids_of_owner howner
    have hne : id ≠ old := by
      rintro rfl
      exact hnew (hids ▸ List.mem_cons_self)
    obtain ⟨-, hfull, hbeats⟩ | ⟨-, hfull, hbelow⟩ := hcase
    · have hperm := insertId_perm a.st.ar beats o (claimsOf a.st.ar f).stack
      rw [← hfull, (findRec_spec ho).2, ← hids] at hperm
      have claimed : Claims.Sound a.st.ar ⟨some id, full.take Config.stackCap⟩ := by
        refine sound.join (hdepth full) hnew hid ?_
        exact (List.subperm_cons id).mpr ((List.take_sublist _ full).subperm.trans hperm.subperm)
      rw [hbeats]
      exact (h.demote howner hne claimed).cutLowest f full
    · have hperm := insertId_perm a.st.ar beats x (claimsOf a.st.ar f).stack
      rw [← hfull, (findRec_spec hx).2] at hperm
      have claimed : Claims.Sound a.st.ar ⟨(claimsOf a.st.ar f).owner, full.take Config.stackCap⟩ := by
        refine sound.join (hdepth full) hnew hid ?_
        have hset : (Claims.mk (claimsOf a.st.ar f).owner (full.take Config.stackCap)).ids = old :: full.take Config.stackCap :=
          Claims.ids_of_owner howner
        rw [hset, hids]
        refine List.Subperm.trans ?_ (List.Perm.swap id old _).subperm
        exact (List.subperm_cons old).mpr ((List.take_sublist _ full).subperm.trans hperm.subperm)
      rw [hbelow, ← howner]
      exact AAcc.Claimed.cutLowest (AR.Claimed.restack h claimed) f full

/-- R126: a claim ends. -/
theorem AAcc.Claimed.endClaim (h : a.Claimed n noPend noneGone) (f id : Nat) :
    (a.endClaim env f id).Claimed n noPend noneGone := by
  have sound := h.sound_at f
  unfold AAcc.endClaim
  dsimp only
  split
  case isTrue howner =>
    have vacant : Claims.Sound a.st.ar ⟨none, (claimsOf a.st.ar f).stack⟩ := by
      refine sound.sub sound.depth ?_
      rw [Claims.ids_of_owner howner]
      exact (List.sublist_cons_self ..).subperm
    have passed : ((a.setClaims f ⟨none, (claimsOf a.st.ar f).stack⟩).modRec id (Rec.lost f)).Claimed n
        (fixing f none noPend) noneGone := AR.Claimed.pass h howner vacant nofun
    have lost : ((a.setClaims f ⟨none, (claimsOf a.st.ar f).stack⟩).lose env id f).Claimed n
        (fixing f none noPend) noneGone := by
      rw [AAcc.lose_eq]
      refine passed.bereft fun g hfixed => ?_
      obtain ⟨-, hsame⟩ | hfixed := hfixed
      · cases hsame
      · exact hfixed
    have hf : f < ((a.setClaims f ⟨none, (claimsOf a.st.ar f).stack⟩).lose env id f).st.ar.claims.length := by
      rw [lost.floors, ← h.floors]
      by_contra hf
      rw [claimsOf_beyond hf] at howner
      cases howner
    exact AAcc.Claimed.promote (AR.Claimed.unfix lost) (lost.owner_at (.inl ⟨rfl, rfl⟩) hf) fun _ => not_false
  case isFalse =>
    refine AR.Claimed.restack h (sound.sub (List.length_erase_le.trans sound.depth) ?_)
    exact (List.Sublist.append (.refl _) List.erase_sublist).subperm

/-- R127: records without a claim on a floor claim it one after the other. -/
theorem AAcc.Claimed.claimInTurn {f : Nat} {l : List Nat} (h : a.Claimed n noPend noneGone) (hnd : l.Nodup)
    (hnew : ∀ i ∈ l, i ∉ (claimsOf a.st.ar f).ids) :
    (l.foldl (fun b id => AAcc.claimFloor env id b f) a).Claimed n noPend noneGone := by
  induction l generalizing a with
  | nil => exact h
  | cons id l ih =>
    obtain ⟨hid, hnd⟩ := List.nodup_cons.mp hnd
    refine ih (h.claimFloor (hnew id List.mem_cons_self)) hnd fun i hi hmem => ?_
    obtain hmem | ⟨-, rfl⟩ := AAcc.claimFloor_ids env id a f hmem
    · exact hnew i (List.mem_cons_of_mem id hi) hmem
    · exact hid hi

/-- R122, R127: a record claims floors on which it has no claim one after the other. -/
theorem AAcc.Claimed.claimFloors {id : Nat} {l : List Nat} (h : a.Claimed n noPend noneGone) (hnd : l.Nodup)
    (hnew : ∀ f ∈ l, id ∉ (claimsOf a.st.ar f).ids) :
    (l.foldl (AAcc.claimFloor env id) a).Claimed n noPend noneGone := by
  induction l generalizing a with
  | nil => exact h
  | cons f l ih =>
    obtain ⟨hf, hnd⟩ := List.nodup_cons.mp hnd
    refine ih (h.claimFloor (hnew f List.mem_cons_self)) hnd fun g hg hmem => ?_
    obtain hmem | ⟨rfl, -⟩ := AAcc.claimFloor_ids env id a f hmem
    · exact hnew g (List.mem_cons_of_mem f hg) hmem
    · exact hf hg

theorem Claims.has_iff {c : Claims} {id : Nat} : c.has id = true ↔ id ∈ c.ids := by
  simp [Claims.has, Claims.mem_ids]

theorem foldl_insertId_perm (x : AR) (l : List Rec) (acc : List Nat) :
    (l.foldl (fun acc r => insertId x beats r acc) acc).Perm (l.map (·.id) ++ acc) := by
  induction l generalizing acc with
  | nil => exact .refl _
  | cons r l ih =>
    refine (ih _).trans (((insertId_perm x beats r acc).append_left _).trans ?_)
    exact List.perm_middle

theorem AAcc.Claimed.testFloor (h : a.Claimed n noPend noneGone) (hsound : a.st.ar.Sound) (f : Nat) :
    (a.testFloor env f).Claimed n noPend noneGone := by
  have ended (l : List Nat) : (l.foldl (AAcc.endClaim env f) a).Claimed n noPend noneGone :=
    foldl_keeps (P := fun b : AAcc => b.Claimed n noPend noneGone) (fun _ id hb => hb.endClaim f id) l a h
  unfold AAcc.testFloor
  dsimp only
  refine (ended _).claimInTurn ?_ fun i hi hmem => ?_
  · rw [(foldl_insertId_perm ..).nodup_iff, List.append_nil]
    refine (List.filter_sublist.map _).nodup ?_
    exact ((AAcc.foldl_thinned (AAcc.endClaim_thinned env f) _ a).sound hsound).ids
  · have hlisted := (foldl_insertId_perm ..).subset hi
    rw [List.append_nil] at hlisted
    obtain ⟨r, hr, rfl⟩ := List.mem_map.mp hlisted
    have hfresh := (List.mem_filter.mp hr).2
    rw [Claims.has_iff.mpr hmem] at hfresh
    simp at hfresh

/-! ## Making a record -/

theorem AAcc.Claimed.made {r : Rec} {b : AAcc} (h : a.Claimed n noPend noneGone) (hfresh : findRec a.st.ar r.id = none)
    (howned : r.owned = 0) (hb : b.st.ar = (nextCreation a.st.ar).insert r) :
    b.Claimed n noPend noneGone ∧ ∀ f, r.id ∉ (claimsOf b.st.ar f).ids := by
  obtain ⟨g, hg⟩ := findRec_nextCreation a.st.ar
  have hclaims := (nextCreation_rest a.st.ar).1
  have numbered : (nextCreation a.st.ar).Claimed n noPend noneGone := by
    refine AR.Claimed.of_same h hclaims fun i => ?_
    rw [hg, Option.map_map]
    rfl
  have fresh : findRec (nextCreation a.st.ar) r.id = none := by
    rw [hg, hfresh]
    rfl
  rw [AAcc.Claimed, hb]
  refine ⟨numbered.insert fresh howned, fun f hmem => ?_⟩
  have hrec := (numbered.sound_at f).recorded r.id hmem
  rw [fresh] at hrec
  cases hrec

theorem AAcc.Claimed.make (h : a.Claimed n noPend noneGone) (hsound : a.st.ar.Sound) (cls : RecClass) (source : RecSource)
    (message : Option Nat) (repeats : Nat) (requested : Option FloorSet) :
    (a.make env cls source message repeats requested).Claimed n noPend noneGone := by
  obtain ⟨-, hnone⟩ | ⟨slot, r, b, -, hr, hb, hmake⟩ := AAcc.make_cases env cls source message repeats requested a
  · rw [hnone]
    exact h
  · obtain ⟨made, hnew⟩ := h.made (by rw [hr]; exact freshId_free hsound) (by rw [hr]; rfl) hb
    rw [hmake]
    exact made.claimFloors (List.nodup_range.filter _) fun f _ => hnew f

/-! ## The settlement -/

theorem AAcc.Claimed.grant (h : a.Claimed n pend gone) (id m : Nat) : (a.grant env id m).Claimed n pend gone := by
  cases hr : findRec a.st.ar id with
  | none =>
    rw [AAcc.grant_none hr]
    exact h
  | some r =>
    rw [AAcc.Claimed, AAcc.grant_ar hr]
    refine AR.Claimed.of_same (AR.Claimed.modRec (x := a.st.ar.modChannel m (grantedChannel a.st.ar r)) ?_
      (Rec.granted_id m) (fun _ => rfl) id) rfl fun _ => rfl
    exact AR.Claimed.of_same h rfl fun _ => rfl

theorem AAcc.Claimed.enterWaiting (h : a.Claimed n pend gone) (id : Nat) : (a.enterWaiting id).Claimed n pend gone := by
  have waits := AR.Claimed.modRec h (Rec.inState_id .waiting) (fun _ => rfl) id
  unfold AAcc.enterWaiting
  dsimp only
  split
  · exact waits
  · exact AR.Claimed.of_same waits rfl fun _ => rfl

theorem AAcc.Claimed.yieldChannel (h : a.Claimed n pend gone) (id : Nat) : (a.yieldChannel env id).Claimed n pend gone :=
  ((h.releaseOf id).enterWaiting id).report ..

theorem AAcc.Claimed.serve (h : a.Claimed n noPend noneGone) (id : Nat) : (a.serve env id).Claimed n noPend noneGone := by
  obtain hstays | ⟨m, -, hgrants⟩ | ⟨v, m, -, -, ⟨-, hends⟩ | ⟨-, hyields⟩⟩ := AAcc.serve_cases env id a
  · rw [hstays]
    exact h
  · exact hgrants ▸ h.grant id m
  · exact hends ▸ (h.endRecord (noPend_free v.id) _).grant id m
  · exact hyields ▸ (h.yieldChannel v.id).grant id m

theorem AR.Claimed.modChannel {x : AR} (h : x.Claimed n pend gone) (m : Nat) (f : Channel → Channel) :
    (x.modChannel m f).Claimed n pend gone := h.of_same rfl fun _ => rfl

theorem AAcc.Claimed.settle (h : a.Claimed n noPend noneGone) : (a.settle env).Claimed n noPend noneGone :=
  AAcc.settle_steps (P := AR.Claimed n noPend noneGone) (Q := AR.Claimed n noPend noneGone)
    (fun _ hb => foldl_keeps (P := fun c : AAcc => c.Claimed n noPend noneGone) (fun _ (r : Rec) hc => hc.releaseOf r.id) _ _ hb)
    (fun _ m _ hx => hx.modChannel m _) (fun _ id _ hb => AAcc.Claimed.serve hb id) h

/-! ## Plays and responses -/

theorem AAcc.Claimed.countPlay (h : a.Claimed n noPend noneGone) (m : Nat) : (a.countPlay env m).Claimed n noPend noneGone := by
  have counted (id : Nat) : (a.counted env m id).Claimed n noPend noneGone := by
    rw [AAcc.Claimed, AAcc.counted, AAcc.modChannel_ar]
    exact AR.Claimed.modChannel (AR.Claimed.modRec h Rec.played_id (fun _ => rfl) id) m _
  obtain hstays | ⟨id, hcounts | ⟨cause, hends⟩ | ⟨f, -, hagain⟩⟩ := AAcc.countPlay_cases env m a
  · rw [hstays]
    exact h
  · exact hcounts ▸ counted id
  · exact hends ▸ (counted id).endRecord (noPend_free id) cause
  · rw [hagain, AAcc.Claimed, AAcc.modChannel_ar]
    exact AR.Claimed.modChannel (counted id) m f

theorem AAcc.Claimed.takeMark (h : a.Claimed n noPend noneGone) (nm : Nat × Nat) :
    (a.takeMark env nm).Claimed n noPend noneGone := by
  have seen : (a.see nm).Claimed n noPend noneGone := AR.Claimed.modChannel h nm.1 _
  unfold AAcc.takeMark
  split
  · exact h
  · dsimp only
    split
    · exact seen.countPlay ..
    · exact seen

theorem AAcc.Claimed.overrun (h : a.Claimed n noPend noneGone) (m : Nat) : (a.overrun env m).Claimed n noPend noneGone := by
  unfold AAcc.overrun
  split
  · exact h
  · split
    · exact (h.report ..).countPlay ..
    · exact h

theorem AAcc.Claimed.cancelTenant (h : a.Claimed n noPend noneGone) (id : Nat) :
    (a.cancelTenant env id).Claimed n noPend noneGone := by
  obtain hstays | ⟨r, -, -, hending⟩ | hends := AAcc.cancelTenant_cases env id a
  · rw [hstays]
    exact h
  · rw [AAcc.Claimed, hending]
    exact AR.Claimed.modRec h (Rec.inState_id .ending) (fun _ => rfl) id
  · exact hends ▸ h.endRecord (noPend_free id) _

theorem AAcc.Claimed.endLive (h : a.Claimed n noPend noneGone) : (a.endLive env).Claimed n noPend noneGone := by
  unfold AAcc.endLive
  split
  · exact h.endRecord (noPend_free _) _
  · exact h

theorem AAcc.Claimed.endRecords (h : a.Claimed n noPend noneGone) (cause : AnnCause) (ids : List Nat) :
    (ids.foldl (fun b id => b.endRecord env cause id) a).Claimed n noPend noneGone :=
  foldl_keeps (P := fun b : AAcc => b.Claimed n noPend noneGone) (fun _ id hb => hb.endRecord (noPend_free id) cause) _ _ h

theorem AAcc.Claimed.beginLive (h : a.Claimed n noPend noneGone) (hsound : a.st.ar.Sound) (floors : FloorSet) :
    (a.beginLive env floors).Claimed n noPend noneGone := by
  unfold AAcc.beginLive
  dsimp only
  split
  · exact (h.endRecord (noPend_free _) _).make ((AAcc.endRecord_thinned ..).sound hsound) ..
  · exact h.make hsound ..

theorem AAcc.Claimed.regimeEntered (h : a.Claimed n noPend noneGone) (hsound : a.st.ar.Sound) :
    (a.regimeEntered env).Claimed n noPend noneGone := by
  have ended (l k : List Nat) := (h.endRecords (env := env) .cancelled l).endRecords (env := env) .cancelled k
  have sound (l k : List Nat) :=
    ((AAcc.endRecords_thinned env .cancelled l a).trans (AAcc.endRecords_thinned env .cancelled k _)).sound hsound
  unfold AAcc.regimeEntered
  dsimp only
  split
  · exact ((ended ..).make (sound ..) ..).make (AAcc.make_sound (sound ..)) ..
  · exact (ended ..).make (sound ..) ..

theorem AAcc.Claimed.regimeEnded (h : a.Claimed n noPend noneGone) (hsound : a.st.ar.Sound) :
    (a.regimeEnded env).Claimed n noPend noneGone := by
  have ended (l k : List Nat) := (h.endRecords (env := env) .regimeEnded l).endRecords (env := env) .regimeEnded k
  have sound (l k : List Nat) :=
    ((AAcc.endRecords_thinned env .regimeEnded l a).trans (AAcc.endRecords_thinned env .regimeEnded k _)).sound hsound
  unfold AAcc.regimeEnded
  dsimp only
  split
  · exact (ended ..).make (sound ..) ..
  · exact ended ..

theorem AAcc.Claimed.matrixUp (h : a.Claimed n pend gone) : (a.matrixUp env).Claimed n pend gone := by
  refine foldl_keeps (P := fun b : AAcc => b.Claimed n pend gone) (fun b m hb => ?_) _ _ (AR.Claimed.of_same h rfl fun _ => rfl)
  rw [AAcc.Claimed, AAcc.modChannel_ar]
  exact AR.Claimed.modChannel hb m _

/-- R123 to R127: every operation of the Announcement Router keeps the claims and the owned floors. -/
theorem AnnOp.claimed {f : AAcc → AAcc} (hf : AnnOp env f) (hsound : a.st.ar.Sound) (h : a.Claimed n noPend noneGone) :
    (f a).Claimed n noPend noneGone := by
  cases hf with
  | floorAdmitted floor => exact h.testFloor hsound floor
  | regimeEntered => exact h.regimeEntered hsound
  | regimeEnded => exact h.regimeEnded hsound
  | matrixDown => exact AR.Claimed.of_same h rfl fun _ => rfl
  | matrixUp => exact h.matrixUp
  | takeMarks marks =>
    exact foldl_keeps (P := fun b : AAcc => b.Claimed n noPend noneGone) (fun _ nm hb => hb.takeMark nm) _ _ h
  | overrun channel => exact h.overrun channel
  | makeTenant => exact h.make hsound ..
  | cancelTenant id => exact h.cancelTenant id
  | beginLive floors => exact h.beginLive hsound floors
  | endLive => exact h.endLive
  | settle => exact h.settle

end Operations

end Sys2Proof.Machine
end

section
/-!
The announcement tables after a step: the claims, the pool and the wait list of a state (R123 to R129) in the form that the
operations keep, and their proof for every part of a step.
-/

namespace Sys2Proof.Machine

/-! ## The tables of a state -/

theorem claimsSound_iff {s : State} (hids : (s.ar.records.map (·.id)).Nodup) :
    s.ClaimsSound ↔ s.ar.Claimed s.rc.floors.length noPend noneGone := by
  constructor
  · rintro ⟨floors, ordered, owners⟩
    refine ⟨floors, fun c hc => Claims.sound_iff.mpr (ordered c hc), fun f c hf hc i r hr _ _ => ?_, nofun⟩
    obtain ⟨hmem, hid⟩ := findRec_spec hr
    exact hid ▸ owners f c hf hc r hmem
  · intro h
    refine ⟨h.floors, fun c hc => Claims.sound_iff.mp (h.sound c hc), fun f c hf hc r hr => ?_⟩
    exact h.owners f c hf hc r.id r (findRec_of_mem hids hr) not_false not_false

/-- R128: free and held channels are the fitted ones. -/
theorem AR.Pooled.counted {x : AR} (h : x.Pooled False noneGone) (hids : (x.records.map (·.id)).Nodup) :
    (freeChannels x).length + (x.records.filter (fun r => r.channel.isSome)).length = x.channels.length := by
  have holds {r : Rec} {n : Nat} (hr : r ∈ x.records) (hn : r.channel = some n) : holderOf x n = some r.id :=
    h.holds (findRec_of_mem hids hr) hn
  have once : ((x.records.filter (fun r => r.channel.isSome)).map (·.channel)).Nodup := by
    refine (List.nodup_map_iff_inj_on ((List.Nodup.of_map _ hids).filter _)).mpr fun r hr q hq hsame => ?_
    obtain ⟨hr, hsome⟩ := List.mem_filter.mp hr
    obtain ⟨n, hn⟩ := Option.isSome_iff_exists.mp hsome
    have hid := (holds hr hn).symm.trans (holds (List.mem_filter.mp hq).1 (hsame ▸ hn))
    exact List.inj_on_of_nodup_map hids hr (List.mem_filter.mp hq).1 (Option.some.inj hid)
  have held : ((x.records.filter (fun r => r.channel.isSome)).map (·.channel)).Perm
      (((List.range x.channels.length).filter (fun n => (holderOf x n).isSome)).map some) := by
    refine (List.perm_ext_iff_of_nodup once ((List.nodup_range.filter _).map (Option.some_injective _))).mpr fun o => ?_
    simp only [List.mem_map, List.mem_filter, List.mem_range]
    constructor
    · rintro ⟨r, ⟨hr, hsome⟩, rfl⟩
      obtain ⟨n, hn⟩ := Option.isSome_iff_exists.mp hsome
      have hholds := holds hr hn
      obtain ⟨c, hc, -⟩ := Option.bind_eq_some_iff.mp hholds
      exact ⟨n, ⟨(List.getElem?_eq_some_iff.mp hc).1, hholds ▸ rfl⟩, hn.symm⟩
    · rintro ⟨n, ⟨-, hsome⟩, rfl⟩
      obtain ⟨id, hid⟩ := Option.isSome_iff_exists.mp hsome
      obtain ⟨r, hr, hn⟩ := (h.held n id).mp hid
      exact ⟨r, ⟨(findRec_spec hr).1, hn ▸ rfl⟩, hn⟩
  have hlength := held.length_eq
  rw [List.length_map, List.length_map] at hlength
  have hfree : freeChannels x = (List.range x.channels.length).filter (fun n => !(holderOf x n).isSome) := by
    refine List.filter_congr fun n hn => ?_
    rw [holderOf, List.getElem?_eq_getElem (List.mem_range.mp hn)]
    cases hholder : (x.channels[n]'(List.mem_range.mp hn)).holder <;> simp [hholder]
  have hall := List.length_eq_length_filter_add (l := List.range x.channels.length) (fun n => (holderOf x n).isSome)
  rw [List.length_range] at hall
  rw [hlength, hfree]
  omega

theorem poolSound_iff {s : State} (hids : (s.ar.records.map (·.id)).Nodup) :
    s.PoolSound ↔ s.ar.Pooled False noneGone := by
  have hholder (n id : Nat) : holderOf s.ar n = some id ↔ ∃ c, s.ar.channels[n]? = some c ∧ c.holder = some id :=
    Option.bind_eq_some_iff
  constructor
  · rintro ⟨held, -, once, waiting⟩
    refine ⟨fun n id => ?_, once, fun id _ => ?_, nofun, False.elim⟩
    · rw [hholder, held, mem_records_iff hids]
    · rw [waiting, mem_records_iff hids]
  · intro h
    refine ⟨fun n id => ?_, h.counted hids, h.once, fun id => ?_⟩
    · rw [← hholder, h.held, mem_records_iff hids]
    · rw [h.waiting id not_false, mem_records_iff hids]

/-! ## Every part of a step -/

/-- The table, the claims, the pool and the wait list agree, with claims for the configured floors. -/
structure State.Announces (s : State) : Prop where
  sound : s.ar.Sound
  claimed : s.ar.Claimed s.rc.floors.length noPend noneGone
  pooled : s.ar.Pooled False noneGone

theorem announces_iff (s : State) : s.Announces ↔ s.RecordsSound ∧ s.ClaimsSound ∧ s.PoolSound := by
  rw [recordsSound_iff]
  constructor
  · rintro ⟨sound, claimed, pooled⟩
    exact ⟨sound, (claimsSound_iff sound.ids).mpr claimed, (poolSound_iff sound.ids).mpr pooled⟩
  · rintro ⟨sound, claims, pool⟩
    exact ⟨sound, (claimsSound_iff sound.ids).mp claims, (poolSound_iff sound.ids).mp pool⟩

theorem State.Announces.of_same {s t : State} (h : s.Announces) (har : t.ar = s.ar)
    (hfloors : t.rc.floors.length = s.rc.floors.length) : t.Announces :=
  ⟨har ▸ h.sound, har ▸ hfloors ▸ h.claimed, har ▸ h.pooled⟩

/-- R134: a second of the play timers moves no record, no claim and no holder. -/
theorem idleSecond_announces {s : State} (h : s.Announces) : (idleSecond s).Announces := by
  cases hpower : s.powered with
  | false => exact (idleSecond_unpowered hpower).symm ▸ h
  | true =>
    rw [idleSecond_powered hpower]
    refine ⟨AR.Thinned.sound (x := s.ar) (.of_eq rfl rfl rfl) h.sound, h.claimed.of_same rfl fun _ => rfl,
      h.pooled.of_same (holderOf_map (f := fun c => { c with playTimer := countDown c.playTimer }) ?_ rfl) rfl fun _ => rfl⟩
    exact fun _ => rfl

/-- R146: in the power-on state nothing is claimed, held or waited for. -/
theorem booted_announces {tb : Tables} {t : State} (h : BuiltFrom tb t) : t.Announces := by
  obtain ⟨count, line, hrc⟩ := h.rc
  have hfloors : t.rc.floors = bootFloors tb := by
    rw [hrc]
    rfl
  have claims {c : Claims} (hc : c ∈ (bootAR tb).claims) : c = ⟨none, []⟩ := List.eq_of_mem_replicate hc
  have free (n : Nat) : holderOf (bootAR tb) n = none := by
    refine Option.bind_eq_none_iff.mpr fun c hc => ?_
    rw [List.eq_of_mem_replicate (List.mem_of_getElem? hc)]
    rfl
  refine ⟨h.ar ▸ bootAR_sound tb, ?_, ?_⟩
  · rw [h.ar, hfloors]
    refine ⟨List.length_replicate, fun c hc => ?_, fun _ _ _ _ _ _ hr => (nomatch hr), nofun⟩
    rw [claims hc]
    exact ⟨Nat.zero_le _, List.nodup_nil, fun _ hi => absurd hi List.not_mem_nil⟩
  · rw [h.ar]
    refine ⟨fun n id => ?_, List.nodup_nil, fun id _ => ?_, nofun, False.elim⟩
    · rw [free]
      exact iff_of_false nofun fun ⟨_, hr, _⟩ => nomatch hr
    · exact iff_of_false List.not_mem_nil fun ⟨_, hr, _⟩ => nomatch hr

theorem Part.announces {s t : State} (h : Part s t) (hs : s.Announces) : t.Announces := by
  cases h with
  | elsewhere h => exact hs.of_same h.ar h.floors
  | lift => exact hs.of_same (liftLc_ar _ s) (congrArg List.length (liftLc_rc_floors _ s))
  | doors => exact hs.of_same (liftDs_ar _ s) (congrArg List.length (liftDs_rc_floors _ s))
  | announce h =>
    have sound : (⟨⟨s.ar, s.ev⟩, []⟩ : AAcc).st.ar.Sound := hs.sound
    refine ⟨?_, ?_, ?_⟩
    · rw [liftAr_ar]
      exact h.sound sound
    · rw [liftAr_ar, liftAr_rc_floors]
      exact h.claimed sound hs.claimed
    · rw [liftAr_ar]
      exact h.pooled sound hs.pooled
  | store => exact hs.of_same rfl rfl
  | booted h => exact booted_announces h
  | second => exact idleSecond_announces hs

/-- Settles O14: a step is a chain of parts (`step_parts`), and every part keeps the announcement tables, because every operation
of the Announcement Router does (`AnnOp.sound`, `AnnOp.claimed`, `AnnOp.pooled`). -/
theorem announcementTablesKept : Obligations.AnnouncementTablesKept := by
  intro s t records claims pool ht
  have kept := (step_parts ht).keeps (fun _ _ part => part.announces) ((announces_iff s).mpr ⟨records, claims, pool⟩)
  exact ((announces_iff t).mp kept).2

end Sys2Proof.Machine
end

section
/-!
Requests and expiries that change the announcements (R133 to R141): what else their events leave, and what the settlement of the
channel pool at the end of the event may still do.
-/

namespace Sys2Proof.Machine

/-! ## A change of the AR in an event -/

/-- Every record but the AR's, the SP's and the field lines' as it was; the trouble set may have moved. -/
structure AnnounceOnly (s t : State) : Prop where
  regime : SameRegime s t
  ze : t.ze = s.ze
  es : t.es = s.es
  lc : t.lc = s.lc
  ds : t.ds = s.ds
  cs : t.cs = s.cs

theorem AnnounceOnly.trans {a b c : State} (h : AnnounceOnly a b) (k : AnnounceOnly b c) : AnnounceOnly a c :=
  ⟨h.regime.trans k.regime, k.ze.trans h.ze, k.es.trans h.es, k.lc.trans h.lc, k.ds.trans h.ds, k.cs.trans h.cs⟩

theorem liftAr_announceOnly (f : AAcc → AAcc) (s : State) : AnnounceOnly s (s.liftAr f) where
  regime := by constructor <;> simp
  ze := liftAr_ze f s
  es := liftAr_es f s
  lc := liftAr_lc f s
  ds := liftAr_ds f s
  cs := liftAr_cs f s

theorem liftAr_ev (f : AAcc → AAcc) (s : State) : (s.liftAr f).ev = (f ⟨⟨s.ar, s.ev⟩, []⟩).st.ev := applyEffs_ev ..

theorem clear_announceOnly (s : State) : AnnounceOnly s { s with ev := Scratch.clear } :=
  ⟨⟨rfl, rfl, rfl, rfl, rfl, rfl, rfl, rfl⟩, rfl, rfl, rfl, rfl, rfl⟩

theorem asked_announceOnly (s : State) : AnnounceOnly s (asked s) :=
  have kept := asked_sameBlocks s
  ⟨asked_sameRegime s, kept.ze, kept.es, kept.lc, kept.ds, kept.cs⟩

theorem EndsIn.announceOnly {s t : State} (h : EndsIn s t) : AnnounceOnly s t :=
  ⟨h.sameRegime, h.ze, h.es, h.lc, h.ds, h.cs⟩

/-- R130: the Announcement Router as it was, or after a settlement of the channel pool. -/
def AR.SettledTo (x y : AR) : Prop := y = x ∨ ∃ env, ∃ a : AAcc, a.st.ar = x ∧ y = (a.settle env).st.ar

/-- What every settlement keeps is there afterwards. -/
theorem AR.SettledTo.keeps {P : AR → Prop} {x y : AR} (h : x.SettledTo y)
    (hP : ∀ env (a : AAcc), P a.st.ar → P (a.settle env).st.ar) (hx : P x) : P y := by
  obtain rfl | ⟨env, a, rfl, rfl⟩ := h
  · exact hx
  · exact hP env a hx

theorem settled_settledTo (s : State) : s.ar.SettledTo (settled s).ar := by
  unfold settled
  split
  · exact .inr ⟨s.aenv, ⟨⟨s.ar, s.ev⟩, []⟩, rfl, liftAr_ar ..⟩
  · exact .inl rfl

/-- A request that its owner answers with a change of the AR. -/
theorem Requests.announced {i : Instr} {ρ : Type} {kind tag : Byte} {q : ρ} {handle : ρ → State → Answer × State}
    (h : Requests i kind tag q handle) {s : State} (hs : s.answers) {f : AAcc → AAcc} {a : Answer}
    (ha : handle q (asked s) = (a, (asked s).liftAr f)) :
    ∃ t, exec i s = .next t ∧ newestReply t = some (a.reply kind tag) ∧
      (f ⟨⟨s.ar, Scratch.clear⟩, []⟩).st.ar.SettledTo t.ar ∧ AnnounceOnly s t := by
  obtain ⟨t, ht, hreply, hend⟩ := h.answered hs
  obtain ⟨hpower, hrestart, hroom⟩ := hs
  obtain ⟨_, _, rfl, rfl, hrow⟩ := h.row
  rw [ha] at hreply hend
  refine ⟨t, ht, hreply, ?_, ((asked_announceOnly s).trans (liftAr_announceOnly f _)).trans hend.announceOnly⟩
  have hsame := Host.Outcome.next.inj (((hrow s).trans (event_powered _ hpower)).symm.trans ht)
  rw [takeFrame_answers hrestart hroom, ha] at hsame
  subst hsame
  have har : (f ⟨⟨s.ar, Scratch.clear⟩, []⟩).st.ar = ((asked s).liftAr f).ar := by
    rw [liftAr_ar, asked_ev, (asked_sameBlocks s).ar]
  rw [har]
  exact settled_settledTo (orderLift _ (pushReply _ _ a ((asked s).liftAr f)))

/-! ## PLAY_OVERRUN (R134) -/

theorem AAcc.overrun_due {env : AEnv} {a : AAcc} {n id : Nat} {c : Channel} (hc : a.st.ar.channels[n]? = some c)
    (hdue : c.playTimer = some 0) (hholder : c.holder = some id) :
    a.overrun env n = (a.report .playOverrun id).countPlay env n := by
  unfold AAcc.overrun
  rw [hc]
  dsimp only
  rw [hdue, hholder]
  rfl

/-- R133: a play counted leaves the routing of a channel that plays on. -/
theorem AAcc.countPlay_routing {env : AEnv} {a : AAcc} {n id : Nat} {c d : Channel} {r : Rec}
    (hc : a.st.ar.channels[n]? = some c) (hholder : c.holder = some id) (hr : findRec a.st.ar id = some r)
    (hs : r.state = .playing) (hrepeat : r.repeats = 0) (hd : (a.countPlay env n).st.ar.channels[n]? = some d) :
    d.routing = c.routing := by
  rw [AAcc.countPlay_eq hc hholder hr, if_neg (by rw [hs]; decide), if_pos (by simp [hrepeat]), AAcc.modChannel_st] at hd
  dsimp only at hd
  rw [List.getElem?_modify_eq, AAcc.counted_ar, List.getElem?_modify_eq, hc] at hd
  obtain rfl := Option.some.inj hd
  rfl

/-- Settles O47: the play is counted as one that repeats, which touches nothing that would settle the pool. -/
theorem playOverrunRule : Obligations.PlayOverrunRule := by
  intro s n id c r hpower hc hdue hholder hr hplays hrepeats
  obtain ⟨t, ht, hend⟩ := event_endsIn (fun s => s.liftAr (AAcc.overrun s.aenv n)) hpower
  have hover : AAcc.overrun s.aenv n ⟨⟨s.ar, Scratch.clear⟩, []⟩ =
      (AAcc.report .playOverrun id ⟨⟨s.ar, Scratch.clear⟩, []⟩).countPlay s.aenv n := AAcc.overrun_due hc hdue hholder
  have hst := AAcc.report_st .playOverrun id ⟨⟨s.ar, Scratch.clear⟩, []⟩ none
  obtain ⟨hev, hfound, c', hc', hgeneration, hholder', hprogramme⟩ :=
    AAcc.countPlay_again (env := s.aenv) (by rw [hst]; exact hc) hholder (by rw [hst]; exact hr) hplays (.inl hrepeats)
  have hrouting := AAcc.countPlay_routing (by rw [hst]; exact hc) hholder (by rw [hst]; exact hr) hplays hrepeats hc'
  have har : t.ar = ((AAcc.report .playOverrun id ⟨⟨s.ar, Scratch.clear⟩, []⟩).countPlay s.aenv n).st.ar := by
    rw [(hend.flc_ar ?_).2, liftAr_ar]
    · exact congrArg (fun a : AAcc => a.st.ar) hover
    · rw [liftAr_ev]
      refine congrArg Scratch.arTouched (a₂ := Scratch.clear) ?_
      exact (congrArg (fun a : AAcc => a.st.ev) hover).trans (hev.trans (congrArg ArCtx.ev hst))
  obtain ⟨regime, ze, es, lc, ds, cs⟩ :=
    ((clear_announceOnly s).trans (liftAr_announceOnly (AAcc.overrun s.aenv n) _)).trans hend.announceOnly
  rw [← har] at hfound hc'
  exact ⟨t, r.played, c', ht, hfound, hc', rfl, hgeneration, hholder', hrouting, hprogramme, regime, ze, es, lc, ds, cs⟩

end Sys2Proof.Machine
end

section
/-!
CANCEL_ANNOUNCEMENT (R136).
-/

namespace Sys2Proof.Machine

theorem cancelAnnouncement_requests (tag a : Byte) :
    Requests (.cancelAnnouncement tag [a]) 0x15#8 tag a.toNat cancelAnnouncement := ⟨_, _, rfl, rfl, fun _ => rfl⟩

theorem cancelAnnouncement_none {id : Nat} {s : State} (h : findRec s.ar id = none) :
    cancelAnnouncement id s = (.bare .noSuch, s) := by
  rw [cancelAnnouncement, h]

theorem cancelAnnouncement_system {id : Nat} {s : State} {r : Rec} (h : findRec s.ar id = some r) (hr : r.source = .system) :
    cancelAnnouncement id s = (.refused .systemRecord, s) := by
  rw [cancelAnnouncement, h]
  dsimp only
  rw [hr]

theorem cancelAnnouncement_tenant {id : Nat} {s : State} {r : Rec} (h : findRec s.ar id = some r) (hr : r.source = .requested)
    (hcls : r.cls = .tenant) : cancelAnnouncement id s = (.done, s.liftAr (AAcc.cancelTenant s.aenv id)) := by
  rw [cancelAnnouncement, h]
  dsimp only
  rw [hr]
  exact if_neg (by rw [hcls]; decide)

/-- R136: a record that waits or is suspended is ended. -/
theorem AAcc.cancelTenant_ends {env : AEnv} {id : Nat} {a : AAcc} {r : Rec} (h : findRec a.st.ar id = some r)
    (hr : r.state = .waiting ∨ r.state = .suspended) : a.cancelTenant env id = a.endRecord env .cancelled id := by
  unfold AAcc.cancelTenant
  rw [h]
  dsimp only
  obtain hr | hr := hr <;> rw [hr]

/-- R136: a PLAYING record is in ENDING. -/
theorem AAcc.cancelTenant_ending {env : AEnv} {id : Nat} {a : AAcc} {r : Rec} (h : findRec a.st.ar id = some r)
    (hr : r.state = .playing) : (a.cancelTenant env id).st.ar = a.st.ar.modRec id (Rec.inState .ending) := by
  unfold AAcc.cancelTenant
  rw [h]
  dsimp only
  rw [hr]
  exact AAcc.report_ar ..

/-- What a record is in, what it owns and what it has played. -/
def Rec.standing (r : Rec) : RecState × FloorSet × Nat := (r.state, r.owned, r.plays)

/-- R130: where no record waits, a settlement leaves where each record stands. -/
theorem AAcc.settle_idle {env : AEnv} {id : Nat} {v : Option (RecState × FloorSet × Nat)} {a : AAcc}
    (h : a.st.ar.waitList = [] ∧ (findRec a.st.ar id).map Rec.standing = v) :
    (a.settle env).st.ar.waitList = [] ∧ (findRec (a.settle env).st.ar id).map Rec.standing = v := by
  refine AAcc.settle_steps (P := fun x => x.waitList = [] ∧ (findRec x id).map Rec.standing = v)
    (Q := fun x => x.waitList = [] ∧ (findRec x id).map Rec.standing = v) (fun b hb => ?_) (fun _ _ _ hx => hx)
    (fun b i hi hb => absurd (hb.1 ▸ hi) List.not_mem_nil) h
  refine foldl_keeps (P := fun b : AAcc => b.st.ar.waitList = [] ∧ (findRec b.st.ar id).map Rec.standing = v)
    (fun b (r : Rec) hb => ⟨(AAcc.releaseOf_waitList ..).1.trans hb.1, ?_⟩) _ b hb
  rw [findRec_releaseOf]
  split
  case isTrue hid =>
    rw [Option.map_map, ← hid]
    exact hb.2
  case isFalse => exact hb.2

/-- Settles O45: by the outcomes of its owner; what ends stays away in the settlement, and with an empty wait list the settlement
ends and moves no record. -/
theorem cancelRule : Obligations.CancelRule := by
  intro s tag a hs
  have request := cancelAnnouncement_requests tag a
  have har := (asked_sameBlocks s).ar
  refine ⟨fun hnone => request.answeredOnly hs (cancelAnnouncement_none (har ▸ hnone)),
    fun r hr => ⟨fun hsystem => request.answeredOnly hs (cancelAnnouncement_system (har ▸ hr) hsystem),
      fun hsource hcls hstate => ?_, fun hsource hcls hstate hlist => ?_⟩⟩
  all_goals
    obtain ⟨t, ht, hreply, settled, regime, ze, es, lc, ds, cs⟩ :=
      request.announced hs (cancelAnnouncement_tenant (har.symm ▸ hr) hsource hcls)
  · refine ⟨t, ht, hreply, settled.keeps (P := fun x => findRec x a.toNat = none) (fun env b hb => ?_) ?_,
      regime, ze, es, lc, ds, cs⟩
    · exact (AAcc.settle_tended env b).gone hb
    · rw [AAcc.cancelTenant_ends hr hstate]
      exact AAcc.endRecord_gone hr
  · have ending := settled.keeps (P := fun x => x.waitList = [] ∧
      (findRec x a.toNat).map Rec.standing = some (.ending, r.owned, r.plays)) (fun _ _ hb => AAcc.settle_idle hb) (by
        rw [AAcc.cancelTenant_ending hr hstate, findRec_modRec_self (Rec.inState_id .ending)]
        refine ⟨hlist, ?_⟩
        exact congrArg (fun o => Option.map Rec.standing (Option.map (Rec.inState .ending) o)) hr)
    obtain ⟨r', hfound, hstanding⟩ := Option.map_eq_some_iff.mp ending.2
    simp only [Rec.standing, Prod.mk.injEq] at hstanding
    exact ⟨t, r', ht, hreply, hfound, hstanding.1, hstanding.2.1, hstanding.2.2, regime, ze, es, lc, ds, cs⟩

end Sys2Proof.Machine
end

section
/-!
A record that the operations spare (R122, R125, R130, R131): where the claims of a newly made record and the settlement that
follows leave it in the table, with all that its request gave it, while the records that are left keep their ranks.
-/

namespace Sys2Proof.Machine

/-! ## One record spared -/

/-- What ranks a record's claims, and its slot. -/
def Rec.rank (r : Rec) : Nat × RecClass × Nat := (r.slot, r.cls, r.creation)

/-- R122: what a record was made with, its plays, and the floors that it asks for. -/
def Rec.issue (r : Rec) : Nat × RecClass × RecSource × Option Nat × Nat × Nat × Option FloorSet :=
  (r.slot, r.cls, r.source, r.message, r.repeats, r.plays, r.requested)

/-- The records of `y` are records of `x` with their ranks, and the record of `id` stays, with its issue, and does not
enter ENDING. -/
structure AR.Spares (id : Nat) (x y : AR) : Prop where
  back : ∀ j r, findRec y j = some r → ∃ q, findRec x j = some q ∧ q.rank = r.rank
  stands : ∀ q, findRec x id = some q → ∃ r, findRec y id = some r ∧ r.issue = q.issue ∧
    (q.state ≠ .ending → r.state ≠ .ending)

/-- A change that leaves a record's rank and issue and does not put it in ENDING. -/
structure Rec.Spared (f : Rec → Rec) : Prop where
  id : ∀ r, (f r).id = r.id
  rank : ∀ r, (f r).rank = r.rank
  issue : ∀ r, (f r).issue = r.issue
  state : ∀ r, r.state ≠ .ending → (f r).state ≠ .ending

theorem Rec.inState_spared {st : RecState} (h : st ≠ .ending) : Rec.Spared (Rec.inState st) :=
  ⟨fun _ => rfl, fun _ => rfl, fun _ => rfl, fun _ _ => h⟩

theorem Rec.gained_spared (f : Nat) : Rec.Spared (Rec.gained f) := ⟨fun _ => rfl, fun _ => rfl, fun _ => rfl, fun _ h => h⟩

theorem Rec.lost_spared (f : Nat) : Rec.Spared (Rec.lost f) := ⟨fun _ => rfl, fun _ => rfl, fun _ => rfl, fun _ h => h⟩

theorem Rec.retired_spared : Rec.Spared Rec.retired :=
  ⟨fun _ => rfl, fun _ => rfl, fun _ => rfl, fun _ _ => show RecState.ended ≠ .ending by decide⟩

theorem Rec.unchanneled_spared : Rec.Spared Rec.unchanneled := ⟨fun _ => rfl, fun _ => rfl, fun _ => rfl, fun _ h => h⟩

theorem Rec.granted_spared (n : Nat) : Rec.Spared (Rec.granted n) :=
  ⟨fun _ => rfl, fun _ => rfl, fun _ => rfl, fun _ _ => show RecState.playing ≠ .ending by decide⟩

section Spares

variable {id : Nat} {x y z : AR}

theorem AR.Spares.refl (x : AR) : x.Spares id x := ⟨fun _ r hr => ⟨r, hr, rfl⟩, fun q hq => ⟨q, hq, rfl, fun hs => hs⟩⟩

theorem AR.Spares.trans (h : x.Spares id y) (k : y.Spares id z) : x.Spares id z := by
  refine ⟨fun j r hr => ?_, fun q hq => ?_⟩
  · obtain ⟨p, hp, hpr⟩ := k.back j r hr
    obtain ⟨q, hq, hqp⟩ := h.back j p hp
    exact ⟨q, hq, hqp.trans hpr⟩
  · obtain ⟨p, hp, hpq, hps⟩ := h.stands q hq
    obtain ⟨r, hr, hrp, hrs⟩ := k.stands p hp
    exact ⟨r, hr, hrp.trans hpq, fun hs => hrs (hps hs)⟩

theorem AR.Spares.of_records (h : y.records = x.records) : x.Spares id y := by
  have same := findRec_congr h
  exact ⟨fun j r hr => ⟨r, (same j).symm.trans hr, rfl⟩, fun q hq => ⟨q, (same id).trans hq, rfl, fun hs => hs⟩⟩

theorem AR.modRec_back {f : Rec → Rec} (hf : ∀ r, (f r).id = r.id) (hrank : ∀ r, (f r).rank = r.rank) (j : Nat) (x : AR)
    (i : Nat) {r : Rec} (hr : findRec (x.modRec j f) i = some r) : ∃ q, findRec x i = some q ∧ q.rank = r.rank :=
  Option.map_eq_some_iff.mp ((findRec_modRec_map hf Rec.rank hrank x i).symm.trans (congrArg (Option.map Rec.rank) hr))

theorem AR.modRec_spares {f : Rec → Rec} (hf : Rec.Spared f) (j : Nat) (x : AR) : x.Spares id (x.modRec j f) := by
  refine ⟨fun i r hr => AR.modRec_back hf.id hf.rank j x i hr, fun q hq => ?_⟩
  rw [findRec_modRec hf.id]
  split
  case isTrue h => exact ⟨f q, by rw [← h, hq]; rfl, hf.issue q, hf.state q⟩
  case isFalse => exact ⟨q, hq, rfl, fun hs => hs⟩

/-- A change of another record that leaves its rank. -/
theorem AR.modRec_spares_other {f : Rec → Rec} (hf : ∀ r, (f r).id = r.id) (hrank : ∀ r, (f r).rank = r.rank) {j : Nat}
    (hj : j ≠ id) (x : AR) : x.Spares id (x.modRec j f) := by
  refine ⟨fun i r hr => AR.modRec_back hf hrank j x i hr, fun q hq => ⟨q, ?_, rfl, fun hs => hs⟩⟩
  rw [findRec_modRec_ne hf hj.symm, hq]

/-- Another record taken out. -/
theorem AR.without_spares {j : Nat} (hj : j ≠ id) (x : AR) : x.Spares id (x.without j) := by
  have hfind := findRec_without j x
  refine ⟨fun i r hr => ?_, fun q hq => ⟨q, ?_, rfl, fun hs => hs⟩⟩
  · rw [hfind] at hr
    split at hr
    · cases hr
    · exact ⟨r, hr, rfl⟩
  · rw [hfind, if_neg hj.symm, hq]

end Spares

/-- The Announcement Router before and after a step that spares a record. -/
abbrev AAcc.Spares (id : Nat) (a b : AAcc) : Prop := a.st.ar.Spares id b.st.ar

section Operations

variable {env : AEnv} {id j : Nat}

theorem AAcc.foldl_spares {α : Type} {op : AAcc → α → AAcc} (h : ∀ (a : AAcc) e, a.Spares id (op a e)) (l : List α) (a : AAcc) :
    a.Spares id (l.foldl op a) :=
  foldl_keeps (P := fun b : AAcc => a.Spares id b) (fun b e hb => hb.trans (h b e)) l a (.refl _)

theorem AAcc.setClaims_spares (f : Nat) (c : Claims) (a : AAcc) : a.Spares id (a.setClaims f c) := .of_records rfl

theorem AAcc.report_spares (cause : AnnCause) (i : Nat) (floors : Option FloorSet) (a : AAcc) :
    a.Spares id (a.report cause i floors) := by
  rw [AAcc.Spares, AAcc.report_ar]
  exact .refl _

theorem AAcc.enterWaiting_spares (i : Nat) (a : AAcc) : a.Spares id (a.enterWaiting i) := by
  have waits : a.Spares id (a.modRec i (Rec.inState .waiting)) := AR.modRec_spares (Rec.inState_spared (by decide)) i _
  unfold AAcc.enterWaiting
  dsimp only
  split
  · exact waits
  · exact waits.trans (.of_records rfl)

theorem AAcc.gain_spares (i f : Nat) (a : AAcc) : a.Spares id (a.gain i f) := by
  cases hr : findRec a.st.ar i with
  | none =>
    rw [AAcc.gain_none hr]
    exact .refl _
  | some r =>
    have owned : a.Spares id (a.modRec i (Rec.gained f)) := AR.modRec_spares (Rec.gained_spared f) i _
    rw [AAcc.Spares, AAcc.gain_ar hr]
    split
    · exact owned.trans (AAcc.enterWaiting_spares ..)
    · exact owned

theorem AAcc.promote_spares (f : Nat) (a : AAcc) : a.Spares id (a.promote env f) := by
  cases hrest : remaining env a.st.ar f with
  | nil => exact AAcc.promote_nil hrest ▸ AAcc.setClaims_spares ..
  | cons i ids => exact AAcc.promote_cons hrest ▸ (AAcc.setClaims_spares ..).trans (AAcc.gain_spares ..)

theorem AAcc.endClaimOfEnded_spares (i : Nat) (a : AAcc) (f : Nat) : a.Spares id (a.endClaimOfEnded env i f) := by
  unfold AAcc.endClaimOfEnded
  dsimp only
  split
  · exact (AAcc.setClaims_spares ..).trans (AAcc.promote_spares ..)
  · split
    · exact AAcc.setClaims_spares ..
    · exact .refl _

theorem AAcc.releaseOf_spares (i : Nat) (a : AAcc) : a.Spares id (a.releaseOf env i) := by
  unfold AAcc.releaseOf
  split
  · exact .refl _
  · rw [AAcc.Spares, AAcc.modRec_ar, AAcc.modChannel_ar]
    exact AR.Spares.trans (y := a.st.ar.modChannel _ releaseChannel) (.of_records rfl)
      (AR.modRec_spares Rec.unchanneled_spared i _)

theorem AAcc.withdrawn_spares (i : Nat) (a : AAcc) : a.Spares id (a.withdrawn env i) := by
  have flushed : a.Spares id (a.flushDisplaced i) := by
    rw [AAcc.Spares, AAcc.flushDisplaced_ar]
    exact .refl _
  have unclaimed : (a.flushDisplaced i).Spares id ((a.flushDisplaced i).unclaimed env i) :=
    AR.Spares.trans (y := ((a.flushDisplaced i).modRec i Rec.retired).st.ar) (AR.modRec_spares Rec.retired_spared i _)
      (AAcc.foldl_spares (AAcc.endClaimOfEnded_spares i) _ _)
  have unlisted : ((a.flushDisplaced i).unclaimed env i).Spares id
      (((a.flushDisplaced i).unclaimed env i).ar (fun x => { x with waitList := x.waitList.erase i })) := .of_records rfl
  exact ((flushed.trans unclaimed).trans unlisted).trans (AAcc.releaseOf_spares ..)

/-- R122: the end of another record. -/
theorem AAcc.endRecord_spares (hj : j ≠ id) (cause : AnnCause) (a : AAcc) : a.Spares id (a.endRecord env cause j) := by
  cases hr : findRec a.st.ar j with
  | none =>
    rw [AAcc.endRecord_none hr]
    exact .refl _
  | some r =>
    rw [AAcc.Spares, AAcc.endRecord_without hr]
    exact (AAcc.withdrawn_spares ..).trans (AR.without_spares hj _)

/-- R123: another record loses a floor. -/
theorem AAcc.lose_spares (hj : j ≠ id) (f : Nat) (a : AAcc) : a.Spares id (a.lose env j f) := by
  have lost : a.Spares id (a.modRec j (Rec.lost f)) := AR.modRec_spares (Rec.lost_spared f) j _
  rw [AAcc.lose_eq]
  obtain hstays | hsuspends | ⟨cause, hends⟩ := AAcc.bereft_cases env j (a.modRec j (Rec.lost f))
  · rw [hstays]
    exact lost
  · refine lost.trans ?_
    rw [hsuspends, AAcc.suspend_ar]
    exact (AR.modRec_spares (Rec.inState_spared (by decide)) j _).trans (.of_records rfl)
  · exact hends ▸ lost.trans (AAcc.endRecord_spares hj cause _)

/-- R125: a claim of another record is dropped. -/
theorem AAcc.dropClaim_spares (hj : j ≠ id) (f : Nat) (a : AAcc) : a.Spares id (a.dropClaim env f j) := by
  have cut (e : Scratch → Scratch) : a.Spares id ((a.modRec j (Rec.cut f)).ev e) :=
    AR.modRec_spares_other (Rec.cut_id f) (fun _ => rfl) hj _
  obtain ⟨e, hdrops⟩ | ⟨e, hends⟩ := AAcc.dropClaim_cases env f j a
  · exact hdrops ▸ cut e
  · exact hends ▸ (cut e).trans (AAcc.endRecord_spares hj _ _)

theorem AAcc.cutLowest_spares {full : List Nat} (h : ∀ low, 3 < full.length → full.getLast? = some low → low ≠ id) (f : Nat)
    (a : AAcc) : a.Spares id (a.cutLowest env f full) := by
  obtain hstays | ⟨low, hlength, hlow, hdrops⟩ := AAcc.cutLowest_cases env f full a
  · rw [hstays]
    exact .refl _
  · exact hdrops ▸ AAcc.dropClaim_spares (h low hlength hlow) f a

/-! ## Room on the claim stacks (R125) -/

theorem beats_congr {q q' r r' : Rec} (hq : q.rank = q'.rank) (hr : r.rank = r'.rank) : beats q r = beats q' r' := by
  simp only [Rec.rank, Prod.mk.injEq] at hq hr
  obtain ⟨-, hqcls, hqcreation⟩ := hq
  obtain ⟨-, hrcls, hrcreation⟩ := hr
  rw [beats, beats, hqcls, hqcreation, hrcls, hrcreation]

theorem beats_self (r : Rec) : beats r r = false := by simp [beats]

/-- At most three other records rank above the record of `id`, so that its claim is on no stack the lowest of four. -/
def AR.Room (id : Nat) (x : AR) : Prop :=
  ∀ q, findRec x id = some q → ∀ l : List Nat, l.Nodup → id ∉ l →
    (∀ i ∈ l, ∃ r, findRec x i = some r ∧ beats q r = false) → l.length ≤ 3

/-- Records that are left keep their ranks. -/
theorem AR.Room.spares {x y : AR} (h : x.Room id) (k : x.Spares id y) : y.Room id := by
  intro q' hq' l hnd hid habove
  obtain ⟨q, hq, hrank⟩ := k.back id q' hq'
  refine h q hq l hnd hid fun i hi => ?_
  obtain ⟨r', hr', hbeats⟩ := habove i hi
  obtain ⟨r, hr, hrank'⟩ := k.back i r' hr'
  exact ⟨r, hr, (beats_congr hrank hrank').trans hbeats⟩

/-- A record that is put last ranks below all others. -/
theorem insertId_last {x : AR} {before : Rec → Rec → Bool} {q : Rec} {l : List Nat} (hnew : q.id ∉ l)
    (hlast : (insertId x before q l).getLast? = some q.id) : ∀ i ∈ l, ∀ r, findRec x i = some r → before q r = false := by
  induction l with
  | nil => exact fun _ hi => absurd hi List.not_mem_nil
  | cons y l ih =>
    obtain ⟨hy, hl⟩ := List.ne_and_not_mem_of_not_mem_cons hnew
    have behind (hgoes : (y :: insertId x before q l).getLast? = some q.id) :
        ∀ i ∈ l, ∀ r, findRec x i = some r → before q r = false := by
      refine ih hl ?_
      cases hlist : insertId x before q l with
      | nil => exact absurd (hlist ▸ (insertId_perm x before q l).length_eq) (by simp)
      | cons z zs => rwa [hlist, List.getLast?_cons_cons] at hgoes
    unfold insertId at hlast
    split at hlast
    case h_1 r hr =>
      split at hlast
      case isTrue =>
        rw [List.getLast?_cons_cons] at hlast
        exact absurd (List.mem_of_getLast? hlast) hnew
      case isFalse hnot =>
        intro i hi p hp
        obtain rfl | hi := List.mem_cons.mp hi
        · rw [← Option.some.inj (hr.symm.trans hp)]
          simpa using hnot
        · exact behind hlast i hi p hp
    case h_2 hnone =>
      intro i hi p hp
      obtain rfl | hi := List.mem_cons.mp hi
      · exact absurd (hnone.symm.trans hp) nofun
      · exact behind hlast i hi p hp

/-- R125: a record for which there is room claims a floor. -/
theorem AAcc.claimFloor_spares {n f : Nat} {a : AAcc} (h : a.Claimed n noPend noneGone) (hroom : a.st.ar.Room id)
    (hnew : id ∉ (claimsOf a.st.ar f).ids) : a.Spares id (AAcc.claimFloor env id a f) := by
  have sound := h.sound_at f
  obtain ⟨-, hnone⟩ | ⟨q, hq, ⟨-, howns⟩ | ⟨old, o, full, howner, ho, ⟨hbeats, hfull, hclaims⟩ | ⟨hbelow, hfull, hclaims⟩⟩⟩ :=
    AAcc.claimFloor_cases env id a f
  · rw [hnone]
    exact .refl _
  · exact howns ▸ (AAcc.setClaims_spares ..).trans (AAcc.gain_spares ..)
  · have hne : old ≠ id := by
      rintro rfl
      rw [Option.some.inj (ho.symm.trans hq), beats_self] at hbeats
      cases hbeats
    have hperm := insertId_perm a.st.ar beats o (claimsOf a.st.ar f).stack
    rw [← hfull, (findRec_spec ho).2, ← Claims.ids_of_owner howner] at hperm
    rw [hclaims]
    refine (((AAcc.setClaims_spares ..).trans (AAcc.lose_spares hne ..)).trans (AAcc.gain_spares ..)).trans
      (AAcc.cutLowest_spares (fun low _ hlow hid => ?_) f _)
    exact hnew (hid ▸ hperm.subset (List.mem_of_getLast? hlow))
  · have hid := (findRec_spec hq).2
    have hids := Claims.ids_of_owner howner
    rw [hclaims]
    refine (AAcc.setClaims_spares ..).trans (AAcc.cutLowest_spares (fun low hlength hlow hlowest => ?_) f _)
    have hstack : q.id ∉ (claimsOf a.st.ar f).stack := fun hmem => hnew (Claims.mem_ids.mpr (.inr (hid ▸ hmem)))
    have hlast := insertId_last hstack (by rw [← hfull, hlow, hlowest, hid])
    have hperm := (insertId_perm a.st.ar beats q (claimsOf a.st.ar f).stack).length_eq
    have hfew := hroom q hq _ sound.once hnew fun i hi => by
      obtain ⟨r, hr⟩ := Option.isSome_iff_exists.mp (sound.recorded i hi)
      refine ⟨r, hr, ?_⟩
      rw [hids] at hi
      obtain rfl | hi := List.mem_cons.mp hi
      · rw [← Option.some.inj (ho.symm.trans hr)]
        exact hbelow
      · exact hlast i hi r hr
    rw [hids] at hfew
    rw [← hfull] at hperm
    simp only [List.length_cons] at hfew hperm
    omega

/-- R122, R127: a record for which there is room claims floors one after the other. -/
theorem AAcc.claimFloors_spares {n : Nat} {l : List Nat} {a : AAcc} (h : a.Claimed n noPend noneGone) (hroom : a.st.ar.Room id)
    (hnd : l.Nodup) (hnew : ∀ f ∈ l, id ∉ (claimsOf a.st.ar f).ids) : a.Spares id (l.foldl (AAcc.claimFloor env id) a) := by
  induction l generalizing a with
  | nil => exact .refl _
  | cons f l ih =>
    obtain ⟨hf, hnd⟩ := List.nodup_cons.mp hnd
    have claimed := AAcc.claimFloor_spares (env := env) h hroom (hnew f List.mem_cons_self)
    refine claimed.trans (ih (h.claimFloor (hnew f List.mem_cons_self)) (hroom.spares claimed) hnd fun g hg hmem => ?_)
    obtain hmem | ⟨rfl, -⟩ := AAcc.claimFloor_ids env id a f hmem
    · exact hnew g (List.mem_cons_of_mem f hg) hmem
    · exact hf hg

/-! ## The settlement (R130, R131) -/

theorem AAcc.grant_spares (i n : Nat) (a : AAcc) : a.Spares id (a.grant env i n) := by
  cases hr : findRec a.st.ar i with
  | none =>
    rw [AAcc.grant_none hr]
    exact .refl _
  | some r =>
    rw [AAcc.Spares, AAcc.grant_ar hr]
    have channeled : a.st.ar.Spares id (a.st.ar.modChannel n (grantedChannel a.st.ar r)) := .of_records rfl
    have granted := channeled.trans (AR.modRec_spares (Rec.granted_spared n) i _)
    exact granted.trans (.of_records rfl)

theorem AAcc.yieldChannel_spares (i : Nat) (a : AAcc) : a.Spares id (a.yieldChannel env i) :=
  ((AAcc.releaseOf_spares ..).trans (AAcc.enterWaiting_spares ..)).trans (AAcc.report_spares ..)

/-- R131: the record that a preemption ends is in ENDING. -/
theorem AAcc.serve_spares {a : AAcc} (hids : (a.st.ar.records.map (·.id)).Nodup)
    (h : ∃ q, findRec a.st.ar id = some q ∧ q.state ≠ .ending) (i : Nat) : a.Spares id (a.serve env i) := by
  obtain hstays | ⟨n, -, hgrants⟩ | ⟨v, n, hv, -, ⟨hending, hends⟩ | ⟨-, hyields⟩⟩ := AAcc.serve_cases env i a
  · rw [hstays]
    exact .refl _
  · exact hgrants ▸ AAcc.grant_spares ..
  · have hne : v.id ≠ id := by
      obtain ⟨q, hq, hnot⟩ := h
      rintro hid
      have hfound := findRec_of_mem hids (victim_spec hv).1
      rw [hid] at hfound
      exact hnot (Option.some.inj (hfound.symm.trans hq) ▸ hending)
    exact hends ▸ (AAcc.endRecord_spares hne ..).trans (AAcc.grant_spares ..)
  · exact hyields ▸ (AAcc.yieldChannel_spares ..).trans (AAcc.grant_spares ..)

/-- R130: a settlement leaves every record that is not in ENDING. -/
theorem AAcc.settle_spares {a : AAcc} (hsound : a.st.ar.Sound) (h : ∃ q, findRec a.st.ar id = some q ∧ q.state ≠ .ending) :
    a.Spares id (a.settle env) := by
  obtain ⟨q, hq, hnot⟩ := h
  have settled : (a.settle env).st.ar.Sound ∧ a.st.ar.Spares id (a.settle env).st.ar := by
    refine AAcc.settle_steps (P := fun x => x.Sound ∧ a.st.ar.Spares id x) (Q := fun x => x.Sound ∧ a.st.ar.Spares id x)
      (fun b hb => ⟨?_, ?_⟩) (fun x n set hx => ⟨?_, ?_⟩) (fun b i _ hb => ⟨?_, ?_⟩) ⟨hsound, .refl _⟩
    · exact (AAcc.foldl_thinned (fun b (r : Rec) => AAcc.releaseOf_thinned env r.id b) _ _).sound hb.1
    · exact hb.2.trans (AAcc.foldl_spares (fun b (r : Rec) => AAcc.releaseOf_spares r.id b) _ _)
    · exact AR.Thinned.sound (x := x) (.of_eq rfl rfl rfl) hx.1
    · exact hx.2.trans (.of_records rfl)
    · exact (AAcc.serve_thinned env i b).sound hb.1
    · obtain ⟨r, hr, -, hrs⟩ := hb.2.stands q hq
      exact hb.2.trans (AAcc.serve_spares hb.1.ids ⟨r, hr, hrs hnot⟩ i)
  exact settled.2

end Operations

end Sys2Proof.Machine
end

section
/-!
A record made and found after the event (R122, R125, R130), for the requests that make one: it has room on each claim stack where
at most three records are of a higher class.
-/

namespace Sys2Proof.Machine

/-! ## The newest record -/

/-- R122: the counter raised is above every creation number. -/
theorem nextCreation_above {x : AR} (h : x.Sound) : ∀ r ∈ (nextCreation x).records, r.creation < (nextCreation x).creation := by
  unfold nextCreation
  dsimp only
  split
  case isTrue => exact fun r hr => Nat.lt_succ_of_le (h.ranges r hr).2.2.2
  case isFalse => exact fun r hr => Nat.lt_succ_of_le ((renumber_sound h).ranges r hr).2.2.2

/-- The table with a new record, read by ids. -/
theorem findRec_made {x : AR} {r : Rec} (h : findRec x r.id = none) {j : Nat} {p : Rec}
    (hp : findRec ((nextCreation x).insert r) j = some p) : (j = r.id ∧ p = r) ∨
      (p ∈ (nextCreation x).records ∧ ∃ q, findRec x j = some q ∧ q.cls = p.cls ∧ q.slot = p.slot) := by
  obtain ⟨g, hg⟩ := findRec_nextCreation x
  have fresh : findRec (nextCreation x) r.id = none := by
    rw [hg, h]
    rfl
  rw [findRec_insert fresh] at hp
  split at hp
  case isTrue hj => exact .inl ⟨hj, (Option.some.inj hp).symm⟩
  case isFalse =>
    refine .inr ⟨(findRec_spec hp).1, ?_⟩
    rw [hg] at hp
    obtain ⟨q, hq, rfl⟩ := Option.map_eq_some_iff.mp hp
    exact ⟨q, hq, rfl, rfl⟩

/-- R125: the newest record ranks above those of its class, so that only those of higher classes are above it. -/
theorem newRecord_room {x : AR} (h : x.Sound) {cls : RecClass} {source : RecSource} {message : Option Nat} {repeats : Nat}
    {requested : Option FloorSet} {slot : Nat}
    (hfew : (x.records.filter (fun q => decide (classRank cls < classRank q.cls))).length ≤ 3) :
    ((nextCreation x).insert (newRecord cls source message repeats requested slot x)).Room
      (newRecord cls source message repeats requested slot x).id := by
  intro q hq l hnd hid habove
  have fresh : findRec x (newRecord cls source message repeats requested slot x).id = none := freshId_free h
  obtain ⟨-, rfl⟩ | ⟨hmem, p, hp, -⟩ := findRec_made fresh hq
  case inr => exact absurd (fresh.symm.trans hp) nofun
  have hhigher : l ⊆ (x.records.filter (fun q => decide (classRank cls < classRank q.cls))).map (·.id) := by
    intro i hi
    obtain ⟨p, hp, hbeats⟩ := habove i hi
    obtain ⟨rfl, -⟩ | ⟨hmem, p', hp', hcls, -⟩ := findRec_made fresh hp
    · exact absurd hi hid
    · have hnewer : p.creation < (nextCreation x).creation := nextCreation_above h p hmem
      have hbelow : classRank cls ≤ classRank p.cls ∧ classRank cls ≠ classRank p.cls := by
        change (decide (classRank p.cls < classRank cls) ||
          (decide (classRank cls = classRank p.cls) && decide (p.creation < (nextCreation x).creation))) = false at hbeats
        simpa [hnewer] using hbeats
      obtain ⟨hpmem, rfl⟩ := findRec_spec hp'
      refine List.mem_map_of_mem (List.mem_filter.mpr ⟨hpmem, decide_eq_true ?_⟩)
      rw [hcls]
      omega
  have hlength := (hnd.subperm hhigher).length_le
  rw [List.length_map] at hlength
  exact hlength.trans hfew

/-! ## The record after the event -/

section Made

variable {env : AEnv} {cls : RecClass} {source : RecSource} {message : Option Nat} {repeats : Nat}
  {requested : Option FloorSet} {a : AAcc} {slot n : Nat} {r : Rec}

/-- R122: a made record with room on the claim stacks is spared by its own claims. -/
theorem AAcc.make_spares (h : a.Claimed n noPend noneGone) (hsound : a.st.ar.Sound) (hslot : freeSlot a.st.ar = some slot)
    (hfew : (a.st.ar.records.filter (fun q => decide (classRank cls < classRank q.cls))).length ≤ 3)
    (hr : r = newRecord cls source message repeats requested slot a.st.ar) :
    ((nextCreation a.st.ar).insert r).Spares r.id (a.make env cls source message repeats requested).st.ar ∧
      (a.make env cls source message repeats requested).st.ar.nextId = nextIdAfter r.id := by
  obtain ⟨hnone, -⟩ | ⟨slot', r', b, hslot', hr', hb, hmake⟩ := AAcc.make_cases env cls source message repeats requested a
  · exact absurd (hslot.symm.trans hnone) nofun
  · obtain rfl := Option.some.inj (hslot.symm.trans hslot')
    obtain rfl : r = r' := hr.trans hr'.symm
    obtain ⟨made, hnew⟩ := h.made (by rw [hr]; exact freshId_free hsound) (by rw [hr]; rfl) hb
    have hroom : b.st.ar.Room r.id := by
      rw [hb, hr]
      exact newRecord_room hsound hfew
    rw [hmake, ← hb]
    refine ⟨AAcc.claimFloors_spares made hroom (List.nodup_range.filter _) fun f _ => hnew f, ?_⟩
    rw [(AAcc.foldl_thinned (AAcc.claimFloor_thinned env r.id) _ b).nextId, hb]
    rfl

/-- R122, R130: a made record with room on the claim stacks is in the table at the end of the event, as it was made; every other
record was there before. -/
theorem AAcc.made_found (h : a.Claimed n noPend noneGone) (hsound : a.st.ar.Sound) (hslot : freeSlot a.st.ar = some slot)
    (hfew : (a.st.ar.records.filter (fun q => decide (classRank cls < classRank q.cls))).length ≤ 3)
    (hr : r = newRecord cls source message repeats requested slot a.st.ar) {y : AR}
    (hy : (a.make env cls source message repeats requested).st.ar.SettledTo y) :
    (∃ x, findRec y r.id = some x ∧ x.issue = r.issue) ∧ y.Sound ∧ ∀ j p, findRec y j = some p →
      j = r.id ∨ ∃ q, findRec a.st.ar j = some q ∧ q.cls = p.cls := by
  have fresh : findRec a.st.ar r.id = none := by
    rw [hr]
    exact freshId_free hsound
  obtain ⟨g, hg⟩ := findRec_nextCreation a.st.ar
  have found : findRec ((nextCreation a.st.ar).insert r) r.id = some r := by
    rw [findRec_insert (by rw [hg, fresh]; rfl), if_pos rfl]
  have rests : r.state ≠ .ending := by
    rw [hr]
    exact show RecState.suspended ≠ .ending by decide
  obtain ⟨sound, spares⟩ := hy.keeps (P := fun x => x.Sound ∧ ((nextCreation a.st.ar).insert r).Spares r.id x)
    (fun env b hb => by
      obtain ⟨q, hq, -, hrests⟩ := hb.2.stands r found
      exact ⟨(AAcc.settle_thinned env b).sound hb.1, hb.2.trans (AAcc.settle_spares hb.1 ⟨q, hq, hrests rests⟩)⟩)
    ⟨AAcc.make_sound hsound, (AAcc.make_spares h hsound hslot hfew hr).1⟩
  obtain ⟨x, hx, hissue, -⟩ := spares.stands r found
  refine ⟨⟨x, hx, hissue⟩, sound, fun j p hp => ?_⟩
  obtain ⟨q, hq, hrank⟩ := spares.back j p hp
  obtain ⟨rfl, -⟩ | ⟨-, q', hq', hcls, -⟩ := findRec_made fresh hq
  · exact .inl rfl
  · exact .inr ⟨q', hq', hcls.trans (congrArg (fun k : Nat × RecClass × Nat => k.2.1) hrank)⟩

end Made

/-- R122: the id that was given last. -/
theorem lastId_nextIdAfter {x : AR} {id : Nat} (h : x.nextId = nextIdAfter id) (hid : 1 ≤ id ∧ id ≤ 255) : lastId x = id := by
  rw [lastId, h, nextIdAfter]
  split <;> split <;> omega

/-- R167: DONE, or CLAMPED, with a content. -/
theorem doneOr_content (kind tag : Byte) (c : Prop) [Decidable c] (content : Content) :
    (Answer.doneOr (decide c) content).reply kind tag =
      ⟨replyKind kind, tag, if c then .clamped else .done, none, content⟩ := by
  by_cases h : c <;> simp [Answer.doneOr, Answer.reply, h]

/-- R168: a span that begins beyond the last floor has no floor. -/
theorem spanFloors_beyond {n lo hi : Nat} (h : n ≤ lo) : (spanFloors n lo hi).isEmpty = true := by
  rw [List.isEmpty_iff]
  refine List.filter_eq_nil_iff.mpr fun f hf => ?_
  have hlt := List.mem_range.mp hf
  simp only [decide_eq_true_eq]
  omega

theorem spanFloors_within {n lo hi : Nat} (hspan : lo ≤ hi) (h : lo < n) : (spanFloors n lo hi).isEmpty = false := by
  rw [List.isEmpty_eq_false_iff]
  exact List.ne_nil_of_mem (List.mem_filter.mpr ⟨List.mem_range.mpr h, decide_eq_true ⟨Nat.le_refl lo, hspan⟩⟩)

theorem spanOf_ordered {n lo hi : Nat} (h : lo ≤ hi) :
    spanOf n lo hi = .floors (decide (n ≤ hi)) (spanFloors n lo hi) := if_neg (Nat.not_lt.mpr h)

end Sys2Proof.Machine
end

section
/-!
ANNOUNCE (R135): its tests in their order, and the TENANT record of an accepted request.
-/

namespace Sys2Proof.Machine

theorem announce_requests (tag m r : Byte) {lo hi : Byte} (hlo : lo.toNat ≤ 63) (hhi : hi.toNat ≤ 63) :
    Requests (.announce tag [m, lo, hi, r]) 0x14#8 tag (AnnounceOperands.mk m.toNat lo.toNat hi.toNat r.toNat)
      (fun q => announce q.message q.lo q.hi q.repeats) :=
  ⟨_, _, rfl, by rw [announceOperands, floorIndex_eq hlo, floorIndex_eq hhi], fun _ => rfl⟩

section Tests

variable {m lo hi r : Nat} {s : State}

theorem announce_malformed (h : hi < lo ∨ 15 < r) : announce m lo hi r s = (.bare .badArgument, s) := by
  unfold announce
  split
  case h_1 => rfl
  case h_2 hspan =>
    rw [spanOf] at hspan
    split at hspan
    case isTrue => cases hspan
    case isFalse hordered => exact if_pos (h.resolve_left hordered)

variable (hspan : lo ≤ hi) (hrepeats : r ≤ 15)
include hspan hrepeats

theorem announce_regime (hlevel : s.rc.level ≠ .normal) : announce m lo hi r s = (.refused .regimeActive, s) := by
  rw [announce, spanOf_ordered hspan]
  dsimp only
  rw [if_neg (Nat.not_lt.mpr hrepeats), if_pos hlevel]

variable (hlevel : s.rc.level = .normal)
include hlevel

theorem announce_unlisted (he : ∀ e, s.ar.library[m]? = some e → e.inUse = false) :
    announce m lo hi r s = (.bare .noSuch, s) := by
  have hentry : libraryEntry s.ar m = none := by
    refine Option.filter_eq_none_iff.mpr fun e hfound => ?_
    rw [he e hfound]
    decide
  rw [announce, spanOf_ordered hspan]
  dsimp only
  rw [if_neg (Nat.not_lt.mpr hrepeats), if_neg (not_not.mpr hlevel), hentry]

variable {e : MsgRec} (he : s.ar.library[m]? = some e) (huse : e.inUse = true)
include he huse

/-- R135: the tests of a message in use. -/
theorem announce_listed : announce m lo hi r s =
    if systemMessage e.kind then (.bare .badArgument, s)
    else if (freeSlot s.ar).isNone then (.refused .tableFull, s)
    else if (spanFloors s.rc.floors.length lo hi).isEmpty then (.bare .clamped, s)
    else
      let s' := makeTenant m r (spanFloors s.rc.floors.length lo hi) s
      (.doneOr (decide (s.rc.floors.length ≤ hi)) (.recordId (lastId s'.ar)), s') := by
  have hentry : libraryEntry s.ar m = some e := by
    rw [libraryEntry, he]
    exact Option.filter_some_pos huse
  rw [announce, spanOf_ordered hspan]
  dsimp only
  rw [if_neg (Nat.not_lt.mpr hrepeats), if_neg (not_not.mpr hlevel), hentry]

end Tests

theorem systemMessage_tenant {k : MsgKind} (h : k = .tenant ∨ k = .test) : systemMessage k = false := by
  obtain rfl | rfl := h <;> rfl

theorem systemMessage_system {k : MsgKind} (h : k = .evac ∨ k = .alert ∨ k = .allClear) : systemMessage k = true := by
  obtain rfl | rfl | rfl := h <;> rfl

/-- R135: an accepted ANNOUNCE. -/
theorem announce_accepted {s : State} {tag m lo hi r : Byte} {e : MsgRec} (hs : s.answers) (hlo : lo.toNat ≤ 63)
    (hhi : hi.toNat ≤ 63) (hspan : lo.toNat ≤ hi.toNat) (hrepeats : r.toNat ≤ 15) (hlevel : s.rc.level = .normal)
    (he : s.ar.library[m.toNat]? = some e) (huse : e.inUse = true) (hkind : e.kind = .tenant ∨ e.kind = .test)
    (hfree : (freeSlot s.ar).isSome = true) (hwithin : lo.toNat < s.rc.floors.length) (records : s.RecordsSound)
    (claims : s.ClaimsSound) (hfew : (s.ar.records.filter (fun x => x.cls ≠ .tenant)).length ≤ 3) :
    ∃ t id x set, exec (.announce tag [m, lo, hi, r]) s = .next t ∧
      newestReply t = some ⟨0x94#8, tag, if s.rc.floors.length ≤ hi.toNat then .clamped else .done, none, .recordId id⟩ ∧
      findRec s.ar id = none ∧ 1 ≤ id ∧ id ≤ 255 ∧ findRec t.ar id = some x ∧ x.cls = .tenant ∧ x.source = .requested ∧
      x.message = some m.toNat ∧ x.repeats = r.toNat ∧ x.plays = 0 ∧ x.requested = some set ∧
      (∀ f, f < 64 → (hasBit set f = true ↔ lo.toNat ≤ f ∧ f ≤ hi.toNat ∧ f < s.rc.floors.length)) ∧ AnnounceOnly s t := by
  have sound := (recordsSound_iff s).mp records
  have claimed := (claimsSound_iff sound.ids).mp claims
  have har := (asked_sameBlocks s).ar
  have hfloors : (asked s).rc.floors = s.rc.floors := (asked_sameRegime s).floors
  obtain ⟨slot, hslot⟩ := Option.isSome_iff_exists.mp hfree
  have hhigher : (s.ar.records.filter (fun q => decide (classRank .tenant < classRank q.cls))).length ≤ 3 := by
    refine (congrArg List.length (List.filter_congr fun q _ => ?_)).trans_le hfew
    cases q.cls <;> rfl
  have handled := announce_listed (s := asked s) hspan hrepeats ((asked_sameRegime s).level.trans hlevel) (har.symm ▸ he) huse
  rw [systemMessage_tenant hkind, har, hslot, hfloors, spanFloors_within hspan hwithin] at handled
  obtain ⟨t, ht, hreply, settled, only⟩ := (announce_requests tag m r hlo hhi).announced hs handled
  obtain ⟨⟨x, hx, hissue⟩, -, -⟩ := AAcc.made_found (a := ⟨⟨s.ar, Scratch.clear⟩, []⟩) claimed sound hslot hhigher rfl settled
  have hnext := (AAcc.make_spares (env := (asked s).aenv) (a := ⟨⟨s.ar, Scratch.clear⟩, []⟩) (source := .requested)
    (message := some m.toNat) (repeats := r.toNat)
    (requested := some (setOfList (spanFloors s.rc.floors.length lo.toNat hi.toNat))) claimed sound hslot hhigher rfl).2
  have hrange := freshId_range s.ar 256 sound.nextId
  have hlast : lastId (makeTenant m.toNat r.toNat (spanFloors s.rc.floors.length lo.toNat hi.toNat) (asked s)).ar =
      freshId s.ar 256 s.ar.nextId := by
    refine lastId_nextIdAfter ?_ hrange
    rw [makeTenant, liftAr_ar, asked_ev, har]
    exact hnext
  rw [doneOr_content, hlast] at hreply
  simp only [Rec.issue, newRecord, Prod.mk.injEq] at hissue
  obtain ⟨-, hcls, hsource, hmessage, hcount, hplays, hrequested⟩ := hissue
  exact ⟨t, _, x, _, ht, hreply, freshId_free sound, hrange.1, hrange.2, hx, hcls, hsource, hmessage, hcount, hplays,
    hrequested, fun f hf => hasBit_spanFloors hf, only⟩

/-- Settles O44: by the tests of its owner in their order, and `announce_accepted`. -/
theorem announceRule : Obligations.AnnounceRule := by
  intro s tag m lo hi r hs hlo hhi
  have request := announce_requests tag m r hlo hhi
  have har := (asked_sameBlocks s).ar
  have hregime := asked_sameRegime s
  refine ⟨fun hbad => request.answeredOnly hs (announce_malformed hbad),
    fun hspan hrepeats hlevel => request.answeredOnly hs (announce_regime hspan hrepeats (hregime.level ▸ hlevel)),
    fun hspan hrepeats hlevel he => request.answeredOnly hs
      (announce_unlisted hspan hrepeats (hregime.level.trans hlevel) (har ▸ he)),
    fun e hspan hrepeats hlevel he huse => ?_⟩
  have listed := announce_listed (s := asked s) hspan hrepeats (hregime.level.trans hlevel) (har.symm ▸ he) huse
  rw [har, hregime.floors] at listed
  refine ⟨fun hkind => request.answeredOnly hs (a := .bare .badArgument) ?_,
    fun hkind hfull => request.answeredOnly hs (a := .refused .tableFull) ?_,
    fun hkind hfree hbeyond => request.answeredOnly hs (a := .bare .clamped) ?_, fun hkind hfree hwithin records claims hfew => ?_⟩
  · rw [systemMessage_system hkind] at listed
    exact listed
  · rw [systemMessage_tenant hkind, hfull] at listed
    exact listed
  · obtain ⟨slot, hslot⟩ := Option.isSome_iff_exists.mp hfree
    rw [systemMessage_tenant hkind, hslot, spanFloors_beyond hbeyond] at listed
    exact listed
  · obtain ⟨t, id, x, set, ht, hreply, hfresh, hlow, hhigh, hx, hcls, hsource, hmessage, hcount, hplays, hset, hbits,
      regime, ze, es, lc, ds, cs⟩ :=
      announce_accepted hs hlo hhi hspan hrepeats hlevel he huse hkind hfree hwithin records claims hfew
    exact ⟨t, id, x, set, ht, hreply, hfresh, hlow, hhigh, hx, hcls, hsource, hmessage, hcount, hplays, hset, hbits,
      regime, ze, es, lc, ds, cs⟩

end Sys2Proof.Machine
end

section
/-!
BEGIN_LIVE and END_LIVE (R139, R141): the LIVE record, in a free slot or in the slot of the oldest TENANT record, and its end.
-/

namespace Sys2Proof.Machine

theorem beginLive_requests (tag : Byte) {lo hi : Byte} (hlo : lo.toNat ≤ 63) (hhi : hi.toNat ≤ 63) :
    Requests (.beginLive tag [lo, hi]) 0x16#8 tag (lo.toNat, hi.toNat) (fun q => beginLive q.1 q.2) :=
  ⟨_, _, rfl, by rw [spanOperands, floorIndex_eq hlo, floorIndex_eq hhi], fun _ => rfl⟩

theorem endLive_requests (tag : Byte) : Requests (.endLive tag []) 0x17#8 tag () (fun _ => endLive) :=
  ⟨_, _, rfl, rfl, fun _ => rfl⟩

/-- R139: the tests of a span in order. -/
theorem beginLive_ordered {lo hi : Nat} {s : State} (hspan : lo ≤ hi) : beginLive lo hi s =
    if (liveRec s.ar).isSome then (.refused .liveInUse, s)
    else if (spanFloors s.rc.floors.length lo hi).isEmpty then (.bare .clamped, s)
    else if (freeSlot s.ar).isNone && (oldestTenant s.ar).isNone then (.refused .tableFull, s)
    else
      let s' := s.liftAr (AAcc.beginLive s.aenv (setOfList (spanFloors s.rc.floors.length lo hi)))
      (.doneOr (decide (s.rc.floors.length ≤ hi)) (.recordId (lastId s'.ar)), s') := by
  rw [beginLive, spanOf_ordered hspan]

/-! ## The oldest TENANT record -/

theorem head?_sortBy_le {α : Type} {key : α → Nat} {l : List α} {x : α} (h : (sortBy key l).head? = some x) :
    ∀ y ∈ l, key x ≤ key y := by
  induction l generalizing x with
  | nil => cases h
  | cons y l ih =>
    change (insertBy key y (sortBy key l)).head? = some x at h
    cases hsorted : sortBy key l with
    | nil =>
      have hperm := (sortBy_perm key l).symm
      rw [hsorted] at hperm h
      obtain rfl := hperm.eq_nil
      obtain rfl := Option.some.inj h
      exact fun e he => (List.mem_singleton.mp he) ▸ Nat.le_refl _
    | cons z zs =>
      have hz := ih (x := z) (by rw [hsorted]; rfl)
      rw [hsorted, insertBy] at h
      split at h
      case isTrue hle =>
        obtain rfl := Option.some.inj h
        intro e he
        obtain rfl | he := List.mem_cons.mp he
        · exact Nat.le_refl _
        · exact hle.trans (hz e he)
      case isFalse hlt =>
        obtain rfl := Option.some.inj h
        intro e he
        obtain rfl | he := List.mem_cons.mp he
        · exact (Nat.lt_of_not_le hlt).le
        · exact hz e he

theorem oldestTenant_spec {x : AR} {r : Rec} (h : oldestTenant x = some r) : r ∈ x.records ∧ r.cls = .tenant ∧
    ∀ y ∈ x.records, y.cls = .tenant → r.creation ≤ y.creation := by
  obtain ⟨hr, hcls⟩ := List.mem_filter.mp (mem_of_head?_sortBy h)
  exact ⟨hr, of_decide_eq_true hcls, fun y hy htenant =>
    head?_sortBy_le h y (List.mem_filter.mpr ⟨hy, decide_eq_true htenant⟩)⟩

theorem oldestTenant_none {x : AR} : oldestTenant x = none ↔ ∀ r ∈ x.records, r.cls ≠ .tenant := by
  rw [oldestTenant, List.head?_eq_none_iff, ← List.length_eq_zero_iff, (sortBy_perm ..).length_eq, List.length_eq_zero_iff,
    List.filter_eq_nil_iff]
  simp

/-- The TENANT record with the lowest creation number is the oldest. -/
theorem oldestTenant_eq {x : AR} (hids : (x.records.map (·.id)).Nodup) {old : Rec} (hold : old ∈ x.records)
    (hcls : old.cls = .tenant) (holdest : ∀ y ∈ x.records, y.cls = .tenant → y.id ≠ old.id → old.creation < y.creation) :
    oldestTenant x = some old := by
  cases h : oldestTenant x with
  | none => exact absurd hcls (oldestTenant_none.mp h old hold)
  | some r =>
    obtain ⟨hr, htenant, hleast⟩ := oldestTenant_spec h
    by_cases hid : r.id = old.id
    · rw [List.inj_on_of_nodup_map hids hr hold hid]
    · exact absurd (holdest r hr htenant hid) (Nat.not_lt.mpr (hleast old hold hcls))

/-! ## The slot of a LIVE record -/

theorem liveRec_none {x : AR} : liveRec x = none ↔ ∀ r ∈ x.records, r.cls ≠ .live := by
  rw [liveRec, List.find?_eq_none]
  simp

theorem leastOf_none {l : List Nat} (h : leastOf l = none) : l = [] := by
  cases l with
  | nil => rfl
  | cons n l =>
    unfold leastOf at h
    split at h <;> cases h

/-- R122: without a free slot every slot holds a record. -/
theorem freeSlot_none {x : AR} (h : freeSlot x = none) {n : Nat} (hn : n < 16) : ∃ r ∈ x.records, r.slot = n := by
  have hnot := List.filter_eq_nil_iff.mp (leastOf_none h) n (List.mem_range.mpr hn)
  simpa using hnot

/-- R122: the records that the end of a record leaves were there before, with their classes and slots. -/
theorem AAcc.endRecord_left {env : AEnv} {cause : AnnCause} {a : AAcc} {old r : Rec} (hsound : a.st.ar.Sound)
    (hold : old ∈ a.st.ar.records) (hr : r ∈ (a.endRecord env cause old.id).st.ar.records) :
    r.id ≠ old.id ∧ ∃ q ∈ a.st.ar.records, q.id = r.id ∧ q.cls = r.cls ∧ q.slot = r.slot := by
  have gone : findRec (a.endRecord env cause old.id).st.ar old.id = none :=
    AAcc.endRecord_gone (findRec_of_mem hsound.ids hold)
  have hne : old.id ≠ r.id := fun hid => findRec_none gone (List.mem_map.mpr ⟨r, hr, hid.symm⟩)
  have sound := (AAcc.endRecord_thinned env cause old.id a).sound hsound
  obtain ⟨q, hq, hrank⟩ := (AAcc.endRecord_spares hne cause a).back r.id r (findRec_of_mem sound.ids hr)
  simp only [Rec.rank, Prod.mk.injEq] at hrank
  obtain ⟨hslot, hcls, -⟩ := hrank
  obtain ⟨hmem, hid⟩ := findRec_spec hq
  exact ⟨hne.symm, q, hmem, hid, hcls, hslot⟩

/-- R139: with every slot occupied, the slot of an ended record is the free one. -/
theorem AAcc.endRecord_freeSlot {env : AEnv} {cause : AnnCause} {a : AAcc} {old : Rec} (hsound : a.st.ar.Sound)
    (hold : old ∈ a.st.ar.records) (hfull : freeSlot a.st.ar = none) :
    freeSlot (a.endRecord env cause old.id).st.ar = some old.slot := by
  cases hslot : freeSlot (a.endRecord env cause old.id).st.ar with
  | none =>
    obtain ⟨r, hr, hsame⟩ := freeSlot_none hslot (hsound.ranges old hold).1
    obtain ⟨hne, q, hq, hid, -, hq'⟩ := AAcc.endRecord_left hsound hold hr
    rw [List.inj_on_of_nodup_map hsound.slots hq hold (hq'.trans hsame)] at hid
    exact absurd hid.symm hne
  | some n =>
    obtain ⟨hn, hfree⟩ := freeSlot_spec hslot
    obtain ⟨q, hq, rfl⟩ := freeSlot_none hfull hn
    by_cases hid : q.id = old.id
    · rw [List.inj_on_of_nodup_map hsound.ids hq hold hid]
    · obtain ⟨r, hr, hissue, -⟩ :=
        (AAcc.endRecord_spares (env := env) (Ne.symm hid) cause a).stands q (findRec_of_mem hsound.ids hq)
      have hsame : r.slot = q.slot := congrArg Prod.fst hissue
      exact absurd (hsame ▸ List.mem_map_of_mem (findRec_spec hr).1) hfree

/-! ## BEGIN_LIVE -/

/-- R139: what the LIVE record is made from: the table as it was, or without its oldest TENANT record. -/
theorem AAcc.beginLive_from {n : Nat} {env : AEnv} {floors : FloorSet} {a : AAcc} (h : a.Claimed n noPend noneGone)
    (hsound : a.st.ar.Sound) (hlive : liveRec a.st.ar = none)
    (hroom : (freeSlot a.st.ar).isSome = true ∨ ∃ x ∈ a.st.ar.records, x.cls = .tenant) :
    ∃ (b : AAcc) (slot : Nat), a.beginLive env floors = b.make env .live .requested none 0 (some floors) ∧
      b.Claimed n noPend noneGone ∧ b.st.ar.Sound ∧ freeSlot b.st.ar = some slot ∧
      (∀ r ∈ b.st.ar.records, r.cls ≠ .live) ∧ ((freeSlot a.st.ar).isSome = true → b = a) ∧
      (freeSlot a.st.ar = none → ∀ old, oldestTenant a.st.ar = some old →
        slot = old.slot ∧ findRec b.st.ar old.id = none) := by
  have others := liveRec_none.mp hlive
  cases hslot : freeSlot a.st.ar with
  | some slot =>
    have hmake : a.beginLive env floors = a.make env .live .requested none 0 (some floors) := by
      rw [AAcc.beginLive, hslot]
    exact ⟨a, slot, hmake, h, hsound, hslot, others, fun _ => rfl, nofun⟩
  | none =>
    obtain ⟨x, hx, htenant⟩ : ∃ x ∈ a.st.ar.records, x.cls = .tenant := hroom.resolve_left (by rw [hslot]; decide)
    obtain ⟨old, hold⟩ : ∃ old, oldestTenant a.st.ar = some old :=
      Option.ne_none_iff_exists'.mp fun hnone => oldestTenant_none.mp hnone x hx htenant
    obtain ⟨hmem, -, -⟩ := oldestTenant_spec hold
    have hmake : a.beginLive env floors =
        (a.endRecord env .displaced old.id).make env .live .requested none 0 (some floors) := by
      rw [AAcc.beginLive, hslot, hold]
    refine ⟨a.endRecord env .displaced old.id, old.slot, hmake, h.endRecord (noPend_free _) _,
      (AAcc.endRecord_thinned ..).sound hsound, AAcc.endRecord_freeSlot hsound hmem hslot, fun r hr => ?_, nofun,
      fun _ old' hold' => ?_⟩
    · obtain ⟨-, q, hq, -, hcls, -⟩ := AAcc.endRecord_left hsound hmem hr
      exact hcls ▸ others q hq
    · obtain rfl := Option.some.inj (hold.symm.trans hold')
      exact ⟨rfl, AAcc.endRecord_gone (findRec_of_mem hsound.ids hmem)⟩

/-- R139: an accepted BEGIN_LIVE. -/
theorem beginLive_accepted {s : State} {tag lo hi : Byte} (hs : s.answers) (hspan : lo.toNat ≤ hi.toNat)
    (hhi : hi.toNat ≤ 63) (hlive : liveRec s.ar = none) (hwithin : lo.toNat < s.rc.floors.length)
    (hroom : (freeSlot s.ar).isSome = true ∨ ∃ x ∈ s.ar.records, x.cls = .tenant) (records : s.RecordsSound)
    (claims : s.ClaimsSound) :
    ∃ t id x set, exec (.beginLive tag [lo, hi]) s = .next t ∧
      newestReply t = some ⟨0x96#8, tag, if s.rc.floors.length ≤ hi.toNat then .clamped else .done, none, .recordId id⟩ ∧
      ((freeSlot s.ar).isSome = true → findRec s.ar id = none) ∧ 1 ≤ id ∧ id ≤ 255 ∧
      liveRec t.ar = some x ∧ findRec t.ar id = some x ∧ x.cls = .live ∧ x.source = .requested ∧ x.message = none ∧
      x.repeats = 0 ∧ x.requested = some set ∧
      (∀ f, f < 64 → (hasBit set f = true ↔ lo.toNat ≤ f ∧ f ≤ hi.toNat ∧ f < s.rc.floors.length)) ∧
      (freeSlot s.ar = none → ∀ old, oldestTenant s.ar = some old →
        x.slot = old.slot ∧ ∀ y ∈ t.ar.records, y.id = old.id → y = x) ∧ AnnounceOnly s t := by
  have sound := (recordsSound_iff s).mp records
  have claimed := (claimsSound_iff sound.ids).mp claims
  have har := (asked_sameBlocks s).ar
  have hfloors : (asked s).rc.floors = s.rc.floors := (asked_sameRegime s).floors
  obtain ⟨b, slot, hmake, bclaimed, bsound, hslot, others, hsame, hvacated⟩ :=
    AAcc.beginLive_from (env := (asked s).aenv) (a := ⟨⟨s.ar, Scratch.clear⟩, []⟩)
      (floors := setOfList (spanFloors s.rc.floors.length lo.toNat hi.toNat)) claimed sound hlive hroom
  have hhigher : (b.st.ar.records.filter (fun q => decide (classRank .live < classRank q.cls))).length ≤ 3 := by
    rw [List.filter_eq_nil_iff.mpr fun q _ => ?_]
    · exact Nat.zero_le 3
    · cases q.cls <;> decide
  have hfull : ((freeSlot s.ar).isNone && (oldestTenant s.ar).isNone) = false := by
    rw [Bool.and_eq_false_iff, Option.isNone_eq_false_iff, Option.isNone_eq_false_iff]
    refine hroom.imp_right fun ⟨x, hx, htenant⟩ => Option.isSome_iff_ne_none.mpr fun hnone => ?_
    exact oldestTenant_none.mp hnone x hx htenant
  have handled := beginLive_ordered (s := asked s) hspan
  rw [har, hlive, hfloors, spanFloors_within hspan hwithin, hfull] at handled
  obtain ⟨t, ht, hreply, settled, only⟩ := (beginLive_requests tag (hspan.trans hhi) hhi).announced hs handled
  rw [hmake] at settled
  obtain ⟨⟨x, hx, hissue⟩, tsound, before⟩ := AAcc.made_found bclaimed bsound hslot hhigher rfl settled
  have hrange := freshId_range b.st.ar 256 bsound.nextId
  have hlast : lastId ((asked s).liftAr (AAcc.beginLive (asked s).aenv
      (setOfList (spanFloors s.rc.floors.length lo.toNat hi.toNat)))).ar = freshId b.st.ar 256 b.st.ar.nextId := by
    refine lastId_nextIdAfter ?_ hrange
    rw [liftAr_ar, asked_ev, har, hmake]
    exact (AAcc.make_spares bclaimed bsound hslot hhigher rfl).2
  rw [doneOr_content, hlast] at hreply
  simp only [Rec.issue, newRecord, Prod.mk.injEq] at hissue
  obtain ⟨hslot', hcls, hsource, hmessage, hcount, -, hrequested⟩ := hissue
  have isMade {p : Rec} (hp : p ∈ t.ar.records) (hid : p.id = freshId b.st.ar 256 b.st.ar.nextId) : p = x := by
    have hfound := findRec_of_mem tsound.ids hp
    rw [hid] at hfound
    exact Option.some.inj (hfound.symm.trans hx)
  have onlyLive : liveRec t.ar = some x := by
    cases hfound : liveRec t.ar with
    | none => exact absurd hcls (liveRec_none.mp hfound x (findRec_spec hx).1)
    | some p =>
      have hp := List.mem_of_find?_eq_some hfound
      have hpcls : p.cls = .live := by simpa using List.find?_some hfound
      obtain hid | ⟨q, hq, hqcls⟩ := before p.id p (findRec_of_mem tsound.ids hp)
      · rw [isMade hp hid]
      · exact absurd (hqcls.trans hpcls) (others q (findRec_spec hq).1)
  refine ⟨t, _, x, _, ht, hreply, fun hfree => ?_, hrange.1, hrange.2, onlyLive, hx, hcls, hsource, hmessage, hcount,
    hrequested, fun f hf => hasBit_spanFloors hf, fun hnone old hold => ⟨?_, fun y hy hid => ?_⟩, only⟩
  · rw [hsame hfree]
    exact freshId_free sound
  · exact hslot'.trans (hvacated hnone old hold).1
  · obtain hmade | ⟨q, hq, -⟩ := before y.id y (findRec_of_mem tsound.ids hy)
    · exact isMade hy hmade
    · rw [hid, (hvacated hnone old hold).2] at hq
      cases hq

/-! ## END_LIVE -/

theorem endLive_some {s : State} {r : Rec} (h : liveRec s.ar = some r) :
    endLive s = (.done, s.liftAr (AAcc.endLive s.aenv)) := by
  rw [endLive, h]
  rfl

/-- R141: the LIVE record is ended. -/
theorem AAcc.endLive_gone {env : AEnv} {a : AAcc} {r : Rec} (h : liveRec a.st.ar = some r) :
    findRec (a.endLive env).st.ar r.id = none := by
  obtain ⟨q, hq⟩ := Option.isSome_iff_exists.mp (findRec_isSome.mpr ⟨r, List.mem_of_find?_eq_some h, rfl⟩)
  rw [AAcc.endLive, h]
  exact AAcc.endRecord_gone hq

/-- Settles O46: by the tests of the owners, `beginLive_accepted`, and the end of the LIVE record. -/
theorem liveRule : Obligations.LiveRule := by
  intro s tag lo hi hs hspan hhi
  have request := beginLive_requests tag (hspan.trans hhi) hhi
  have har := (asked_sameBlocks s).ar
  have ordered := beginLive_ordered (s := asked s) hspan
  rw [har, (asked_sameRegime s).floors] at ordered
  refine ⟨fun hlive => request.answeredOnly hs (a := .refused .liveInUse) ?_,
    fun hlive hbeyond => request.answeredOnly hs (a := .bare .clamped) ?_,
    fun hlive hwithin hfull hnone => request.answeredOnly hs (a := .refused .tableFull) ?_,
    fun hlive hwithin hroom records claims => ?_,
    fun hlive => (endLive_requests tag).answeredOnly hs (a := .bare .noSuch) ?_, fun r hlive => ?_⟩
  · rw [hlive] at ordered
    exact ordered
  · rw [hlive, spanFloors_beyond hbeyond] at ordered
    exact ordered
  · rw [hlive, spanFloors_within hspan hwithin, hfull, oldestTenant_none.mpr hnone] at ordered
    exact ordered
  · obtain ⟨t, id, x, set, ht, hreply, hfresh, hlow, hhigh, honly, hx, hcls, hsource, hmessage, hcount, hset, hbits, hslot,
      regime, ze, es, lc, ds, cs⟩ := beginLive_accepted hs hspan hhi hlive hwithin hroom records claims
    have ids := ((recordsSound_iff s).mp records).ids
    exact ⟨t, id, x, set, ht, hreply, hfresh, hlow, hhigh, honly, hx, hcls, hsource, hmessage, hcount, hset, hbits,
      fun hfull old hold hcls holdest => hslot hfull old (oldestTenant_eq ids hold hcls holdest), regime, ze, es, lc, ds, cs⟩
  · rw [endLive, har, hlive]
    rfl
  · obtain ⟨t, ht, hreply, settled, regime, ze, es, lc, ds, cs⟩ :=
      (endLive_requests tag).announced hs (endLive_some (har.symm ▸ hlive))
    refine ⟨t, ht, hreply, settled.keeps (P := fun x => findRec x r.id = none) (fun env b hb => ?_) ?_,
      regime, ze, es, lc, ds, cs⟩
    · exact (AAcc.settle_tended env b).gone hb
    · exact AAcc.endLive_gone hlive

end Sys2Proof.Machine
end
